-- ==== Sys2Proof/Word.lean ====
section
/-! DEFINITION. Word.lean: the units of data the TF-40's documents speak of. A byte is the unit of a
floor frame and of a station port transaction; the masks of spec/11 (R181) are words of bits. Counts,
codes, station numbers and clock values are plain natural numbers, temperatures are integers. -/
namespace Sys2Proof

/-- One byte of a frame, a transaction or the configuration memory. -/
abbrev Byte := BitVec 8

/-- A site mask: bit s − 1 for site s (R181). -/
abbrev SiteMask := BitVec 8

/-- A zone mask (bit z for zone z), a bin mask (bit b − 1 for bin b) or a reasons word (bit r for
hold reason code r), R181. -/
abbrev Mask16 := BitVec 16

end Sys2Proof
end

