-- ==== Sys2Proof/Syntax.lean ====
section
/-! DEFINITION. Syntax.lean: the commands the TF-40 takes, one constructor of `Instr` for each row of
spec/opcode_table.json, and the data those commands carry. A command is a frame that has arrived, a
transaction released on the station port, an expiry of one of the part's own timers, a change of a
pin or of the line, or a step of the start unit. Values of a field are whatever fits its bytes: the
ranges of R172 and R182 are checked by the machine, since the part itself answers an out-of-range
field. Only the codes of an enumerated field are typed here; a frame or transaction that carries an
unknown code is spelled out in bytes, with TRANSMISSION_END or UNKNOWN_TRANSACTION. -/
namespace Sys2Proof

/-! ## Enumerated fields (spec/11 section 11.5) -/

/-- The four roles (R18). -/
inductive Role where
  | cell | handler | stage | pack
deriving DecidableEq, Repr

/-- The station states of spec/02 section 2.3. -/
inductive StationState where
  | start | learning | active | silent
deriving DecidableEq, Repr

/-- The scope of a hold (R137). -/
inductive Scope where
  | lot | product | group | program
deriving DecidableEq, Repr

/-- The state of a hold record (R137). -/
inductive HoldState where
  | inForce | cleared
deriving DecidableEq, Repr

/-- The reasons of a hold (R137), in the order of their codes. -/
inductive HoldReason where
  | operator | yieldAlarm | binLimit | siteDelta | noSites | countExcess | jamRate | finalYield
  | noUnits | releaseYield | countMismatch | packCount
deriving DecidableEq, Repr

/-- A disposition; `none` occurs in events alone (spec/11 section 11.5). -/
inductive Disposition where
  | none | resume | scrap | retest
deriving DecidableEq, Repr

/-- The result of a completion record (R136). -/
inductive CompletionResult where
  | passed | accepted | held | scrapped | empty
deriving DecidableEq, Repr

/-- The answer of an ACCEPT (R62). -/
inductive AcceptAnswer where
  | take | decline
deriving DecidableEq, Repr

/-- The reason of a REVOKE (R63). -/
inductive RevokeReason where
  | held | conflict
deriving DecidableEq, Repr

/-- The reason of a RETURN (R52). -/
inductive ReturnReason where
  | held | operator
deriving DecidableEq, Repr

/-- The result of a RESERVE-REPLY (R80). -/
inductive ReserveResult where
  | ok | busy | lapsed
deriving DecidableEq, Repr

/-- The result of a BIND-REPLY (R83). -/
inductive BindResult where
  | ok | busy | mismatch
deriving DecidableEq, Repr

/-- The reason of an UNBIND (R82). -/
inductive UnbindReason where
  | undock | cancel | timeout
deriving DecidableEq, Repr

/-- The relation state of a handler (R78). -/
inductive RelState where
  | free | reserved | binding | bound | orphaned
deriving DecidableEq, Repr

/-- The soak states (R94). -/
inductive SoakState where
  | unset | settling | soaking | ready | excursion
deriving DecidableEq, Repr

/-- A site: up, or down with its reason (R94). -/
inductive SiteStatus where
  | up | contactLife | failRun | countLimit
deriving DecidableEq, Repr

/-! ## Records (spec/11 section 11.3) -/

/-- The 17-byte lot record (spec/03 section 3.1). -/
structure LotRecord where
  lotId : Nat
  index : Nat
  count : Nat
  product : Nat
  program : Nat
  kit : Nat
  temp : Int
  quantity : Nat
  group : Nat
  priority : Nat
  packStation : Nat
deriving DecidableEq, Repr

/-- The 15-byte hold record (R137). -/
structure HoldRec where
  scope : Scope
  key : Nat
  generation : Nat
  state : HoldState
  origin : Nat
  reason : HoldReason
  detail : Nat
  trigger : Nat
deriving DecidableEq, Repr

/-- The 29-byte completion record (R70, R136). -/
structure Completion where
  lotId : Nat
  index : Nat
  count : Nat
  product : Nat
  program : Nat
  quantity : Nat
  packStation : Nat
  cell : Nat
  tested : Nat
  good : Nat
  unretested : Nat
  excess : Nat
  passes : Nat
  result : CompletionResult
  reasons : Mask16
deriving DecidableEq, Repr

/-- The 22-byte release record (R166). -/
structure ReleaseRec where
  lotId : Nat
  product : Nat
  count : Nat
  sumTested : Nat
  sumGood : Nat
  yield : Nat
  gateWaived : Bool
  hasAccepted : Bool
  sequence : Nat
  code : Nat
deriving DecidableEq, Repr

/-- The role block of a BEACON (R28). -/
inductive BeaconBlock where
  | cell (bound reserved load : Nat)
  | handler (state : RelState) (cell kit : Nat) (tempMin tempMax : Int) (sites : Nat) (mask : SiteMask)
  | stage (waiting zone : Nat)
  | pack (openEntries : Nat)
deriving DecidableEq, Repr

/-- The payload of a BEACON (R28); the role byte is the one its role block names. -/
structure BeaconBody where
  state : StationState
  zones : Mask16
  holdCount : Nat
  digest : Nat
  block : BeaconBlock
deriving DecidableEq, Repr

/-- The payload of a HANDLER-STATUS (R110). -/
structure StatusBody where
  ready : Bool
  reachedValid : Bool
  jam : Bool
  soak : SoakState
  reached : Int
  mask : SiteMask
  sites : List SiteStatus
  jamCount : Nat
deriving DecidableEq, Repr

/-- The payload of a PERMIT (R68). -/
structure Permit where
  run : Bool
  lotId : Nat
  index : Nat
  kit : Nat
  temp : Int
deriving DecidableEq, Repr

/-- What a handler tells of itself in HANDLER-AVAILABLE and BIND-REPLY: installed kit, temperature
range and site count. -/
structure HandlerFit where
  kit : Nat
  tempMin : Int
  tempMax : Int
  sites : Nat
deriving DecidableEq, Repr

/-- Part A of a limit entry as LIMIT SET A carries it (R113). -/
structure LimitPartA where
  product : Nat
  lya : Nat
  lyf : Nat
  nMin : Nat
  nSite : Nat
  sdl : Nat
  cf : Nat
  good : Mask16
  retestable : Mask16
  passes : Nat
deriving DecidableEq, Repr

/-! ## Frames -/

/-- The address types of section 1.3; `type3` may be used by no frame. -/
inductive AddrType where
  | toStation | toAll | toZone | type3
deriving DecidableEq, Repr

/-- The address byte: a type and a value of six bits (spec/11 section 11.2). -/
structure Address where
  type : AddrType
  value : Nat
deriving DecidableEq, Repr

/-- What a receiver reads of a frame's header beside the kind and the length: the address, the source
and the FRESH flag. The other flag bits are not examined on receipt (R2). -/
structure Header where
  addr : Address
  source : Nat
  fresh : Bool
deriving DecidableEq, Repr

/-- The payloads of the 26 frame kinds (spec/11 section 11.2), and `raw`: a payload that is not one of
them, because its kind code is unknown, its length is none of its kind's, or an enumerated field of it
carries no code. -/
inductive Payload where
  | beacon (b : BeaconBody)
  | offer (lot : LotRecord)
  | claim (lotId index score : Nat) (owned : Bool)
  | grant (lotId index cell score : Nat)
  | accept (lotId index : Nat) (answer : AcceptAnswer) (score : Nat)
  | revoke (lotId index : Nat) (reason : RevokeReason)
  | return_ (lotId index : Nat) (reason : ReturnReason)
  | lotDone (c : Completion)
  | doneTaken (lotId index : Nat)
  | release (r : ReleaseRec)
  | hold (r : HoldRec)
  | clear (scope : Scope) (key generation : Nat) (disposition : Disposition) (station : Nat)
  | holdListReq (start : Nat)
  | holdList (total start count : Nat) (records : List HoldRec)
  | holdListNone (total start : Nat)
  | handlerWanted (kit : Nat) (temp : Int)
  | handlerAvailable (fit : HandlerFit) (idle : Nat)
  | reserve
  | reserveReply (result : ReserveResult) (minutes : Nat)
  | bindReq (kit : Nat)
  | bindReply (result : BindResult) (fit : HandlerFit) (mask : SiteMask)
  | bindConfirm (kit sites : Nat)
  | unbind (reason : UnbindReason)
  | permit (p : Permit)
  | handlerStatus (b : StatusBody)
  | siteDown (site : Nat) (reason : SiteStatus)
  | raw (kind : Nat) (bytes : List Byte)
deriving DecidableEq, Repr

/-- The two states of the segment (spec/01 section 1.1). -/
inductive Level where
  | dominant | recessive
deriving DecidableEq, Repr

/-- A transmission on the segment (R1): the state of the line in each bit time from its first dominant
edge to its end. -/
structure Transmission where
  levels : List Level
deriving DecidableEq, Repr

/-- Where in the line access count of R8 a carrier begins. -/
inductive CountPoint where
  | guard | round
deriving DecidableEq, Repr

/-! ## The start unit's image read -/

/-- What the configuration memory did on the bus (R19): its acknowledgement of the bus address in the
write phase, of the byte address 00h and of the bus address in the read phase, and the data bytes it
drove. Bytes it did not drive are read as all ones. -/
structure ImageRead where
  ackWrite : Bool
  ackByte : Bool
  ackRead : Bool
  data : List Byte
deriving DecidableEq, Repr

/-! ## Station port commands (spec/11 section 11.4) -/

/-- The commands of the catalogue of R174. -/
inductive PortCommand where
  | nop
  | readStatus (part : Nat)
  | readDiagnostics
  | readEvent
  | readPeer (station part : Nat)
  | readHold (index part : Nat)
  | placeHold (scope : Scope) (key trigger : Nat)
  | disposition (scope : Scope) (key generation : Nat) (action : Disposition)
  | armWatch (slot : Nat) (scope : Scope) (key : Nat)
  | disarmWatch (slot : Nat)
  | restart
  | lotArrived (lot : LotRecord)
  | lotIssued (lotId index cell : Nat)
  | lotReturned (lotId index : Nat)
  | lotRemoved (lotId index : Nat)
  | readStage (index : Nat)
  | dock (handler : Nat)
  | undock
  | requestHandler (kit : Nat) (temp : Int)
  | unqueue (lotId index : Nat)
  | lotLoaded (lotId index : Nat)
  | binReport (mask : SiteMask) (bins : List Nat)
  | endPass
  | lotUnloaded
  | limitSetA (a : LimitPartA)
  | limitSetB (product : Nat) (pairs : List (Nat × Nat)) (jamLimit : Nat)
  | limitClear (product : Nat)
  | readLot (part : Nat)
  | readQueue (index part : Nat)
  | readSighting (index : Nat)
  | readSite (site : Nat)
  | readOutbox (index part : Nat)
  | tempReached (temp : Int)
  | tempLost
  | unitIndexed (mask : SiteMask)
  | kitChanged (kit : Nat)
  | contactorReplaced (site : Nat)
  | contactorCount (site value : Nat)
  | siteRestore (site : Nat)
  | reArm
  | readHandler (part : Nat)
  | packDone (lotId count : Nat)
  | readPack (index part : Nat)
  | readRelease (lotId part : Nat)
deriving DecidableEq, Repr

/-- A transaction on the station port (R169): the whole bytes shifted in, and the rising clock edges
that came after the last whole byte. -/
structure Transaction where
  bytes : List Byte
  extraEdges : Nat
deriving DecidableEq, Repr

/-! ## The commands -/

/-- One constructor per row of spec/opcode_table.json, in the table's order. -/
inductive Instr where
  | resetRelease (numberStraps : BitVec 6) (roleStraps : BitVec 2)
  | resetAssert
  | startEnd (image : ImageRead)
  | lineJoin
  | learningTimerExpiry
  | carrierDetect (point : CountPoint)
  | transmissionEnd (line : Transmission)
  | transmitStart
  | frameSent
  | collision
  | disturbanceEnd
  | backoffRoundOver
  | lossTimerExpiry (peer : Nat)
  | beaconTimerExpiry
  | beacon (h : Header) (b : BeaconBody)
  | offer (h : Header) (lot : LotRecord)
  | claim (h : Header) (lotId index score : Nat) (owned : Bool)
  | grant (h : Header) (lotId index cell score : Nat)
  | accept (h : Header) (lotId index : Nat) (answer : AcceptAnswer) (score : Nat)
  | revoke (h : Header) (lotId index : Nat) (reason : RevokeReason)
  | return_ (h : Header) (lotId index : Nat) (reason : ReturnReason)
  | lotDone (h : Header) (c : Completion)
  | doneTaken (h : Header) (lotId index : Nat)
  | release (h : Header) (r : ReleaseRec)
  | hold (h : Header) (r : HoldRec)
  | clear (h : Header) (scope : Scope) (key generation : Nat) (disposition : Disposition) (station : Nat)
  | holdListReq (h : Header) (start : Nat)
  | holdList (h : Header) (total start count : Nat) (records : List HoldRec)
  | holdListNone (h : Header) (total start : Nat)
  | answerTimerExpiry
  | resyncSpacingExpiry
  | handlerWanted (h : Header) (kit : Nat) (temp : Int)
  | handlerAvailable (h : Header) (fit : HandlerFit) (idle : Nat)
  | reserve (h : Header)
  | reserveReply (h : Header) (result : ReserveResult) (minutes : Nat)
  | bindReq (h : Header) (kit : Nat)
  | bindReply (h : Header) (result : BindResult) (fit : HandlerFit) (mask : SiteMask)
  | bindConfirm (h : Header) (kit sites : Nat)
  | unbind (h : Header) (reason : UnbindReason)
  | permit (h : Header) (p : Permit)
  | handlerStatus (h : Header) (b : StatusBody)
  | siteDown (h : Header) (site : Nat) (reason : SiteStatus)
  | offerTimerExpiry
  | contestWindowExpiry (lotId index : Nat)
  | acceptTimerExpiry (lotId index : Nat)
  | sightingAgeing (lotId index : Nat)
  | claimLapse (lotId index : Nat)
  | permitTimerExpiry
  | deliveryTimerExpiry
  | idleTimerExpiry
  | handlerWantedSpacingExpiry
  | replyWindowExpiry
  | replyTimerExpiry
  | cellReservationDeadline
  | cellBindTimerExpiry
  | reservationDeadline
  | bindTimerExpiry
  | orphanTimerExpiry
  | soakTimerExpiry
  | graceTimerExpiry
  | statusTimerExpiry
  | jamAssertion
  | jamRelease
  | csAssert
  | unknownTransaction (t : Transaction)
  | nop
  | readStatus (part : Nat)
  | readDiagnostics
  | readEvent
  | readPeer (station part : Nat)
  | readHold (index part : Nat)
  | placeHold (scope : Scope) (key trigger : Nat)
  | disposition (scope : Scope) (key generation : Nat) (action : Disposition)
  | armWatch (slot : Nat) (scope : Scope) (key : Nat)
  | disarmWatch (slot : Nat)
  | restart
  | lotArrived (lot : LotRecord)
  | lotIssued (lotId index cell : Nat)
  | lotReturned (lotId index : Nat)
  | lotRemoved (lotId index : Nat)
  | readStage (index : Nat)
  | dock (handler : Nat)
  | undock
  | requestHandler (kit : Nat) (temp : Int)
  | unqueue (lotId index : Nat)
  | lotLoaded (lotId index : Nat)
  | binReport (mask : SiteMask) (bins : List Nat)
  | endPass
  | lotUnloaded
  | limitSetA (a : LimitPartA)
  | limitSetB (product : Nat) (pairs : List (Nat × Nat)) (jamLimit : Nat)
  | limitClear (product : Nat)
  | readLot (part : Nat)
  | readQueue (index part : Nat)
  | readSighting (index : Nat)
  | readSite (site : Nat)
  | readOutbox (index part : Nat)
  | tempReached (temp : Int)
  | tempLost
  | unitIndexed (mask : SiteMask)
  | kitChanged (kit : Nat)
  | contactorReplaced (site : Nat)
  | contactorCount (site value : Nat)
  | siteRestore (site : Nat)
  | reArm
  | readHandler (part : Nat)
  | packDone (lotId count : Nat)
  | readPack (index part : Nat)
  | readRelease (lotId part : Nat)
deriving DecidableEq, Repr

end Sys2Proof
end

