-- ==== Sys2Proof/Decode.lean ====
section
/-! DEFINITION. Decode.lean: commands read from a word of the opcode table. The table gives no row any
bits: a command of this part comes as a frame, a transaction, an expiry or a change of a pin, and its
bytes are read by Machine/Formats.lean and Machine/Port.lean. -/
namespace Sys2Proof

/-- The command a word spells by the table's bits: none, since no row has bits. -/
def decodeTableWord (_nbits _w : Nat) : Option Instr := none

end Sys2Proof
end

