-- ==== Sys2Proof/Config.lean ====
section
/-! DEFINITION. Config.lean: what an implementation fixes (the revision the part reports, which the
manual does not state, and a combined yield to which it gives a bound alone), and the loaded configuration of R20 with its defaults. -/
namespace Sys2Proof

/-- The part's revision, reported by START and READ STATUS (R171, R175). The manual states no value:
nothing about it can be proved (log entry 8). -/
opaque Config.revision : Byte

/-- The combined yield of a pack entry whose sum of G is above its sum of T: R122 and R163 hold it to
0–4096, which their quotient would leave, and state no value there. A function of the two sums of which
nothing but the bound can be proved (log entry 41). -/
opaque Config.yieldAbove (sumGood sumTested : Nat) : Fin 4097

/-- A limit entry (R112). A bin limit is a pair of a bin and a Q12 limit, in entry order; unused
places are not kept. -/
structure LimitEntry where
  lya : Nat
  lyf : Nat
  nMin : Nat
  nSite : Nat
  sdl : Nat
  cf : Nat
  good : Mask16
  retestable : Mask16
  passes : Nat
  binLimits : List (Nat × Nat)
  jamLimit : Nat
deriving DecidableEq, Repr

/-- The built-in default entry of R112. -/
def LimitEntry.builtIn : LimitEntry :=
  { lya := 3686, lyf := 3891, nMin := 200, nSite := 100, sdl := 410, cf := 0, good := 1,
    retestable := 0, passes := 0, binLimits := [], jamLimit := 0 }

/-- The limit table: the default entry and the product entries, each keyed by its product code
(R112). -/
structure LimitTable where
  default : LimitEntry
  products : List (Nat × LimitEntry)
deriving DecidableEq, Repr

/-- The loaded configuration: the settings of R20's table, in the units the table gives them, and the
limit table as loaded from G4 and G5. -/
structure Settings where
  /-- G1, seconds -/
  beaconInterval : Nat
  /-- G1, milliseconds -/
  contestWindow : Nat
  /-- G1, milliseconds -/
  acceptTimeout : Nat
  /-- G1, minutes -/
  reservation : Nat
  /-- G1, milliseconds -/
  bindTimeout : Nat
  /-- G1, minutes -/
  orphanTimeout : Nat
  /-- G2 -/
  zoneMask : Mask16
  /-- G2, 0 offers to all -/
  offerZone : Nat
  /-- G3 -/
  kit : Nat
  /-- G3, °C -/
  tempMin : Int
  /-- G3, °C -/
  tempMax : Int
  /-- G3 -/
  siteCount : Nat
  /-- G3, the field F of R104 -/
  contactorField : Nat
  /-- G3, the granularity flag of R104 -/
  granularity : Bool
  /-- G3, seconds -/
  coldSoak : Nat
  /-- G3, seconds -/
  ambientSoak : Nat
  /-- G3, seconds -/
  hotSoak : Nat
  /-- G3, seconds -/
  recoverySoak : Nat
  /-- G3, seconds -/
  excursionGrace : Nat
  /-- G6 -/
  kitChangeAllowed : Bool
  /-- G6, seconds, 0 off -/
  idleThreshold : Nat
  /-- G6, the used places of the program list; empty admits any program -/
  programs : List Nat
  /-- G7, units -/
  countTolerance : Nat
  /-- G4 and G5 as loaded -/
  limits : LimitTable
deriving DecidableEq, Repr

/-- The defaults of R20's table. -/
def Settings.defaults : Settings :=
  { beaconInterval := 2, contestWindow := 200, acceptTimeout := 500, reservation := 30,
    bindTimeout := 1000, orphanTimeout := 10, zoneMask := 0xFFFF, offerZone := 0, kit := 0,
    tempMin := 15, tempMax := 35, siteCount := 4, contactorField := 0, granularity := false,
    coldSoak := 300, ambientSoak := 0, hotSoak := 180, recoverySoak := 30, excursionGrace := 10,
    kitChangeAllowed := false, idleThreshold := 60, programs := [], countTolerance := 2,
    limits := { default := LimitEntry.builtIn, products := [] } }

/-! ## Capacities -/

/-- Frames the transmit queue holds (R12). -/
def Config.queueSize : Nat := 16
/-- Records the hold list holds (R138). -/
def Config.holdSize : Nat := 24
/-- Records in force at or below which overflow ends (R145). -/
def Config.overflowEnd : Nat := 20
/-- Entries the staging table holds (R35). -/
def Config.stageSize : Nat := 64
/-- Claims an entry's claim list holds (R46). -/
def Config.claimSize : Nat := 8
/-- Cells an entry's exclusion list holds (R50). -/
def Config.exclusionSize : Nat := 4
/-- Sightings the sighting table holds (R55). -/
def Config.sightingSize : Nat := 32
/-- Lots the cell queue and its pending claims may number together (R64). -/
def Config.cellQueueSize : Nat := 4
/-- Records the done outbox holds (R72). -/
def Config.outboxSize : Nat := 8
/-- Candidates the reservation part holds (R76). -/
def Config.candidateSize : Nat := 4
/-- Product entries the limit table holds (R112). -/
def Config.productSize : Nat := 8
/-- Entries the pack table holds (R157). -/
def Config.packSize : Nat := 32
/-- Records the event queue holds (R176). -/
def Config.eventSize : Nat := 32

end Sys2Proof
end

