-- ==== Sys2Proof/Machine/State.lean ====
section
/-! DEFINITION. Machine/State.lean: the state of one TF-40, block by block (spec/00's block overview),
and `State.reset`. A timer is `none` when stopped and otherwise the moment at which it expires, on the
count of milliseconds since the last reset (`State.now`, log entry 3). A stored clock value is the
32-bit millisecond clock at the moment it was taken, read through its age (R177). -/
namespace Sys2Proof.Machine

/-- No command of this part ends in a fault: the manual gives every event an effect, and an event
whose condition does not stand changes nothing. Nothing raises one (safe). -/
inductive Fault where
deriving DecidableEq, Repr

/-- Why a command is not run. -/
inductive Refusal where
  /-- Raised by `exec` for a command that has no meaning yet; safe, since the machine stops. -/
  | notModelled (mnemonic : String)
deriving DecidableEq, Repr

/-! ## Start unit and pins -/

/-- Why a station is SILENT (spec/02 section 2.3); NONE in every other state. -/
inductive SilentCause where
  | none | badNumber | imageBad | dupId
deriving DecidableEq, Repr

/-- The image outcomes of R19. -/
inductive ImageOutcome where
  | absent | noSignature | badCrc | loaded
deriving DecidableEq, Repr

/-- The start unit (R18 to R26). -/
structure StartUnit where
  /-- the straps as sampled, 0–63 (R18) -/
  number : Nat
  role : Role
  station : StationState
  cause : SilentCause
  image : ImageOutcome
  /-- CONFIG_CLAMPED (R20) -/
  clamped : Bool
  config : Settings
  /-- the learning timer (R22) -/
  learning : Option Nat
deriving DecidableEq, Repr

/-- The levels on the discrete lines (spec/11 section 11.7). -/
structure Pins where
  /-- RESET asserted, or power below its working level (R21) -/
  inReset : Bool
  /-- the JAM input is active (R101) -/
  jamIn : Bool
  /-- the INDEX-ENABLE output (R109) -/
  indexEn : Bool
  /-- the EVENT output (R178) -/
  event : Bool
deriving DecidableEq, Repr

/-! ## Line interface unit -/

/-- The transmitter states of section 1.4. -/
inductive TxState where
  | empty | waiting | sending | disturbing | backoff | off
deriving DecidableEq, Repr

/-- The line as the access count of R8 sees it. -/
inductive LineState where
  /-- neither sending nor receiving (START) -/
  | detached
  /-- waiting for 10 µs of recessive line (R13) -/
  | joining
  /-- the count runs, with the last sender it was started with (R8) -/
  | counting (last : Nat)
  /-- a transmission is on the line -/
  | busy
deriving DecidableEq, Repr

/-- A frame as a block posts it: the header is completed at each attempt (R2). -/
structure QFrame where
  addr : Address
  payload : Payload
deriving DecidableEq, Repr

/-- The eight link diagnostic latches (R16). -/
structure LinkLatches where
  framing : Bool
  check : Bool
  address : Bool
  kind : Bool
  content : Bool
  txFull : Bool
  txAbandon : Bool
  dupId : Bool
deriving DecidableEq, Repr

/-- The line interface unit. -/
structure Link where
  /-- the last-sender number L (R7) -/
  last : Nat
  /-- the transmit queue, head first (R12) -/
  queue : List QFrame
  tx : TxState
  /-- the attempt count of the head frame (R11) -/
  attempts : Nat
  line : LineState
  /-- the frame being sent, bit by bit, in SENDING (R1 to R3) -/
  onWire : List Level
  latches : LinkLatches
deriving DecidableEq, Repr

/-! ## Peer directory -/

/-- The presence of a peer (spec/02 section 2.6). -/
inductive Presence where
  | unknown | present | lost
deriving DecidableEq, Repr

/-- An entry of the peer table (spec/02 section 2.6). -/
structure PeerEntry where
  presence : Presence
  lostLatch : Bool
  fresh : Bool
  /-- time last heard, a clock value; none before the first frame -/
  lastHeard : Option Nat
  /-- what the last BEACON carried; absent until one is heard -/
  beacon : Option BeaconBody
  /-- a BEACON has been heard since the peer was last LOST (R153, log entry 52) -/
  beaconSince : Bool
  /-- the loss timer of R31 -/
  lossTimer : Option Nat
deriving DecidableEq, Repr

/-- The peer directory. -/
structure PeerDir where
  /-- the entries of stations 1 to 40, in order -/
  table : List PeerEntry
  /-- the beacon timer (R27) -/
  beaconTimer : Option Nat
deriving DecidableEq, Repr

/-! ## Hold table -/

/-- A stored hold record with its time cleared (R137). -/
structure StoredHold where
  hold : HoldRec
  timeCleared : Option Nat
deriving DecidableEq, Repr

/-- A resync record in WAITING (R150). -/
structure ResyncWait where
  peer : Nat
  next : Nat
  total : Option Nat
  /-- the answer timer -/
  timer : Nat
deriving DecidableEq, Repr

/-- The resync record (R150): IDLE when `waiting` is absent. -/
structure Resync where
  waiting : Option ResyncWait
  /-- a peer and a start index -/
  continuation : Option (Nat × Nat)
  /-- clock value of the last request -/
  lastRequest : Option Nat
  /-- the spacing timer -/
  spacing : Option Nat
deriving DecidableEq, Repr

/-- The hold table (R138). -/
structure HoldTable where
  records : List StoredHold
  overflow : Bool
  /-- the digest of R149 -/
  digest : Nat
  resync : Resync
deriving DecidableEq, Repr

/-! ## Staging controller -/

/-- The states of a staging entry with the cell they name (R35); GRANTED keeps the granted score,
which R49 compares. -/
inductive EntryState where
  | waiting
  | contest
  | granted (cell score : Nat)
  | claimed (cell : Nat)
  | issued (cell : Nat)
deriving DecidableEq, Repr

/-- A claim in a claim list (R35). -/
structure Claim where
  cell : Nat
  score : Nat
  owned : Bool
deriving DecidableEq, Repr

/-- An entry of the staging table (R35). -/
structure StageEntry where
  lot : LotRecord
  /-- arrival time, a clock value -/
  arrived : Nat
  state : EntryState
  claims : List Claim
  excluded : List Nat
  returnPending : Bool
  /-- the contest window timer -/
  window : Option Nat
  /-- the accept timer -/
  accept : Option Nat
deriving DecidableEq, Repr

/-- The staging controller. -/
structure Stage where
  /-- the entries in arrival order -/
  entries : List StageEntry
  /-- the offer timer (R43) -/
  offerTimer : Option Nat
deriving DecidableEq, Repr

/-! ## Dispatch controller and yield guard -/

/-- The eligibility results of R58, in the order of their codes. -/
inductive Eligibility where
  | eligible | notActive | overflow | held | program | noHandler | kit | temperature | outboxFull
  | queueFull
deriving DecidableEq, Repr

/-- The state of a sighting (R55): in CLAIM_PENDING with the score claimed and the clock value at
which the CLAIM was sent. -/
inductive SightState where
  | seen
  | pending (score sentAt : Nat)
deriving DecidableEq, Repr

/-- A sighting (R55). -/
structure Sighting where
  lot : LotRecord
  stage : Nat
  firstHeard : Nat
  lastOffered : Nat
  state : SightState
  /-- the granted-elsewhere mark -/
  marked : Bool
  result : Eligibility
deriving DecidableEq, Repr

/-- An entry of the cell queue (R64). -/
structure QueuedLot where
  lot : LotRecord
  stage : Nat
  accepted : Nat
deriving DecidableEq, Repr

/-- The phases of the active lot (spec/04 section 4.6); the pass number of IN_PASS(n) is `pass`. -/
inductive Phase where
  | inPass | awaiting | finished
deriving DecidableEq, Repr

/-- Which limit entry a lot took (R115). -/
inductive LimitSource where
  | product | default
deriving DecidableEq, Repr

/-- The tallies of one site (R116). -/
structure SiteTally where
  tested : Nat
  good : Nat
  run : Nat
deriving DecidableEq, Repr

/-- The active slot of R66 with the yield guard's context of R116. -/
structure ActiveLot where
  lot : LotRecord
  stage : Nat
  phase : Phase
  readySeen : Bool
  lastPermit : Option Permit
  /-- a completion record waiting for a place in the outbox (R70) -/
  waiting : Option Completion
  source : LimitSource
  limits : LimitEntry
  pass : Nat
  allowance : Nat
  tested : Nat
  /-- C[1] to C[16] -/
  bins : List Nat
  pool : Nat
  unretested : Nat
  excess : Nat
  /-- sites 1 to 8 -/
  sites : List SiteTally
  reasons : Mask16
  suppressed : Mask16
  jamArmed : Bool
deriving DecidableEq, Repr

/-- The states of the cell's binding part (R86). -/
inductive BindState where
  | none | binding | bound | orphaned
deriving DecidableEq, Repr

/-- The cell's binding part (R86). `prev` and `first` have a meaning in BINDING alone. -/
structure BindingPart where
  state : BindState
  /-- 0 in NONE -/
  handler : Nat
  /-- the copy of the handler's kit, range and site count -/
  fit : HandlerFit
  /-- the copy of the handler's site mask -/
  mask : SiteMask
  timer : Option Nat
  prev : BindState
  /-- a first bind made by DOCK -/
  first : Bool
deriving DecidableEq, Repr

/-- A candidate handler (R74). -/
structure Candidate where
  handler : Nat
  fit : HandlerFit
  idle : Nat
deriving DecidableEq, Repr

/-- The cell's reservation part (R74). The kit and temperature asked for are kept for NO_HANDLER
(R176). A timer is absent when SILENT has cancelled it. -/
inductive Reservation where
  | none
  | collecting (kit : Nat) (temp : Int) (candidates : List Candidate) (timer : Option Nat)
  | reserving (kit : Nat) (temp : Int) (tried : Nat) (candidates : List Candidate) (timer : Option Nat)
  | reserved (handler : Nat) (fit : HandlerFit) (deadline : Option Nat)
deriving DecidableEq, Repr

/-- A record of the done outbox (R72). -/
structure OutboxRecord where
  record : Completion
  /-- LOT-DONE frames sent, saturating at 255 -/
  sent : Nat
  /-- the delivery mark -/
  mark : Bool
deriving DecidableEq, Repr

/-- The CELL role's blocks. -/
structure Cell where
  sightings : List Sighting
  queue : List QueuedLot
  active : Option ActiveLot
  outbox : List OutboxRecord
  binding : BindingPart
  reservation : Reservation
  /-- the ready copy of R67 -/
  ready : Bool
  /-- the reached temperature of R111, when there is one -/
  reached : Option Int
  /-- the effective site mask of R117 -/
  mask : SiteMask
  /-- the down-requested marks of sites 1 to 8 (R117); `up` for no mark -/
  marks : List SiteStatus
  permitTimer : Option Nat
  deliveryTimer : Option Nat
  idleTimer : Option Nat
  /-- the idle timer has expired and the cell has been idle since (R75) -/
  idleElapsed : Bool
  /-- the spacing of 6 intervals since the last HANDLER-WANTED (R75) -/
  wantedSpacing : Option Nat
  /-- the pending part A of R113 -/
  partA : Option LimitPartA
deriving DecidableEq, Repr

/-! ## Handler controller -/

/-- A site of the handler with its insertion counter (R94). -/
structure Site where
  status : SiteStatus
  counter : Nat
deriving DecidableEq, Repr

/-- The handler controller: the relation of R78 and the run control record of R94. -/
structure Handler where
  rel : RelState
  /-- the cell concerned, 0 in FREE -/
  cell : Nat
  /-- the reservation deadline, in RESERVED and kept through BINDING (R81) -/
  deadline : Option Nat
  bindTimer : Option Nat
  /-- in BINDING, the previous state is RESERVED (else FREE) -/
  prevReserved : Bool
  orphanTimer : Option Nat
  freeSince : Nat
  kit : Nat
  /-- sites 1 to 8; those above the site count do not exist (R94) -/
  sites : List Site
  permit : Permit
  soak : SoakState
  /-- absent in UNSET -/
  target : Option Int
  soakTimer : Option Nat
  graceTimer : Option Nat
  jamLatch : Bool
  jamLot : Nat × Nat
  jamCount : Nat
  statusTimer : Option Nat
  /-- a HANDLER-STATUS is owed at the end of the present event (R110); the model's own, false between
  events (log entry 10) -/
  statusOwed : Bool
deriving DecidableEq, Repr

/-! ## Release controller -/

/-- The states of a pack entry (R157). -/
inductive PackState where
  | collecting | complete | released | scrapped
deriving DecidableEq, Repr

/-- What a pack entry waits for (R157). -/
inductive WaitReason where
  | none | sublotHeld | noUnits | countMismatch | releaseYield | packCount
deriving DecidableEq, Repr

/-- An entry of the pack table (R157). -/
structure PackEntry where
  lotId : Nat
  product : Nat
  program : Nat
  count : Nat
  /-- sublot slots 1 to 4 -/
  slots : List (Option Completion)
  state : PackState
  conflict : Bool
  waiting : WaitReason
  gateWaived : Bool
  countWaived : Bool
  timeClosed : Option Nat
  release : Option ReleaseRec
deriving DecidableEq, Repr

/-- The release controller (R157). -/
structure Pack where
  /-- the entries in creation order -/
  entries : List PackEntry
  /-- the release sequence counter -/
  sequence : Nat
deriving DecidableEq, Repr

/-! ## Station port -/

/-- The events of R176 with their key fields. -/
inductive Event where
  | peerLost (peer : Nat)
  | peerBack (peer : Nat)
  | peerRestart (peer : Nat)
  | dupId
  | holdPlaced (scope : Scope) (key generation origin : Nat)
  | holdCleared (scope : Scope) (key generation : Nat) (disposition : Disposition)
  | holdOverflow (entered : Bool) (inForce : Nat)
  | lotGranted (lotId index station : Nat)
  | lotLost (lotId index : Nat) (cell : Option Nat)
  | lotRevoked (lotId index station : Nat) (reason : Option RevokeReason)
  | retestStarted (lotId index pass pool : Nat)
  | stageFinished (lotId index cell : Nat)
  | cellFinished (lotId index : Nat) (result : CompletionResult)
  | handlerReserved (station : Nat)
  | reservationLapsed (station : Nat)
  | noHandler (kit : Nat) (temp : Int)
  | bound (station : Nat)
  | unbound (station : Nat) (reason : Nat)
  | cellBindFailed (handler result kit : Nat)
  | handlerBindFailed (cell : Nat)
  | siteDown (site : Nat) (reason : SiteStatus)
  | jam (lotId index : Nat)
  | setpointRequest (temp : Int)
  | doneConflict (lotId index cell : Nat)
  | released (lotId sequence code : Nat)
  | lateHold (lotId : Nat) (scope : Scope) (key generation : Nat)
  | watchHit (slot kind : Nat) (scope : Scope) (key : Nat)
deriving DecidableEq, Repr

/-- A record of the event queue (R176). -/
structure EventRec where
  event : Event
  /-- the millisecond clock when it was raised -/
  time : Nat
deriving DecidableEq, Repr

/-- The refusal reasons, in the order of their codes (spec/11 section 11.5). -/
inductive Reason where
  | state | busy | full | duplicate | wrongCell | unknown | notQueued | notRunning | held | notEnded
  | reserved | handlerPresent | notBound | content | noPartA | wrongSetpoint | jamActive | lifeSpent
  | unknownHold | genMismatch | scope | notHere | count
deriving DecidableEq, Repr

/-- The kinds of ERROR (R172). -/
inductive ErrorKind where
  | length | check | code | content
deriving DecidableEq, Repr

/-- What a transaction came to (R174): DONE with its result bytes, REFUSED with a reason, ALREADY with
the generation in force, ERROR with its kind, or START, whose fields are filled at chip select
(R171). -/
inductive Answer where
  | start
  | done (result : List Byte)
  | refused (reason : Reason)
  | already (generation : Nat)
  | error (kind : ErrorKind)
deriving DecidableEq, Repr

/-- The previous-outcome record (R170). -/
structure Outcome where
  answer : Answer
  /-- the echoed command code -/
  echo : Nat
deriving DecidableEq, Repr

/-- The four port latches (R173). -/
structure PortLatches where
  length : Bool
  check : Bool
  code : Bool
  content : Bool
deriving DecidableEq, Repr

/-- The station port. -/
structure Port where
  previous : Outcome
  /-- chip select is asserted -/
  selected : Bool
  /-- a full reset began while chip select was asserted, and abandoned the transaction (R169) -/
  abandoned : Bool
  /-- the 20 bytes presented when chip select was last asserted (R169) -/
  shiftOut : List Byte
  latches : PortLatches
  /-- the event queue, oldest first (R176) -/
  events : List EventRec
  overflowed : Bool
  /-- watch slots 0 to 3: the scope and key of an armed slot (R179) -/
  watches : List (Option (Scope × Nat))
deriving DecidableEq, Repr

/-! ## The machine -/

/-- One TF-40. -/
structure State where
  pins : Pins
  start : StartUnit
  /-- milliseconds since the last reset; the millisecond clock is this modulo 2^32 (R177) -/
  now : Nat
  link : Link
  peers : PeerDir
  holds : HoldTable
  /-- the limit table of CELL and PACK (R112) -/
  limits : LimitTable
  stage : Stage
  cell : Cell
  handler : Handler
  pack : Pack
  port : Port
  /-- the commands waiting, the next one first -/
  pending : List Instr
deriving DecidableEq, Repr

/-! ## Full-reset values -/

/-- No kit, no range, no site: the copy of a handler that is not there. -/
def HandlerFit.none : HandlerFit := { kit := 0, tempMin := 0, tempMax := 0, sites := 0 }

/-- The idle form of a PERMIT (R68). -/
def Permit.idle : Permit := { run := false, lotId := 0, index := 0, kit := 0, temp := 0 }

/-- The line interface unit after either reset (R7, R12, R16), before it joins. -/
def Link.reset : Link :=
  { last := 0, queue := [], tx := .off, attempts := 0, line := .detached, onWire := [],
    latches := { framing := false, check := false, address := false, kind := false,
                 content := false, txFull := false, txAbandon := false, dupId := false } }

/-- A peer entry after either reset (spec/02 section 2.6). -/
def PeerEntry.reset : PeerEntry :=
  { presence := .unknown, lostLatch := false, fresh := false, lastHeard := none, beacon := none,
    beaconSince := false, lossTimer := none }

/-- The peer directory after either reset. -/
def PeerDir.reset : PeerDir := { table := List.replicate 40 PeerEntry.reset, beaconTimer := none }

/-- The hold table after either reset (R138). -/
def HoldTable.reset : HoldTable :=
  { records := [], overflow := false, digest := 0,
    resync := { waiting := none, continuation := none, lastRequest := none, spacing := none } }

/-- The staging controller after either reset (R35). -/
def Stage.reset : Stage := { entries := [], offerTimer := none }

/-- The binding part NONE (R86). -/
def BindingPart.none : BindingPart :=
  { state := .none, handler := 0, fit := HandlerFit.none, mask := 0, timer := Option.none,
    prev := .none, first := false }

/-- The CELL role's blocks after either reset (R55, R64, R72, R74, R86, R113, R116, R117). -/
def Cell.reset : Cell :=
  { sightings := [], queue := [], active := none, outbox := [], binding := BindingPart.none,
    reservation := .none, ready := false, reached := none, mask := 0,
    marks := List.replicate 8 SiteStatus.up, permitTimer := none, deliveryTimer := none,
    idleTimer := none, idleElapsed := false, wantedSpacing := none, partA := none }

/-- The handler controller after either reset, for an installed kit (R78, R94). -/
def Handler.reset (kit : Nat) : Handler :=
  { rel := .free, cell := 0, deadline := none, bindTimer := none, prevReserved := false,
    orphanTimer := none, freeSince := 0, kit := kit,
    sites := List.replicate 8 { status := .up, counter := 0 }, permit := Permit.idle,
    soak := .unset, target := none, soakTimer := none, graceTimer := none, jamLatch := false,
    jamLot := (0, 0), jamCount := 0, statusTimer := none, statusOwed := false }

/-- The release controller after either reset (R157). -/
def Pack.reset : Pack := { entries := [], sequence := 1 }

/-- The station port after either reset, with the code the START outcome echoes (R171, R173, R176,
R179). -/
def Port.reset (echo : Nat) : Port :=
  { previous := { answer := .start, echo := echo }, selected := false, abandoned := false, shiftOut := [],
    latches := { length := false, check := false, code := false, content := false },
    events := [], overflowed := false, watches := List.replicate 4 none }

/-- The start unit at the start of START, for the straps sampled (R18, R20). -/
def StartUnit.reset (number : Nat) (role : Role) : StartUnit :=
  { number := number, role := role, station := .start, cause := .none, image := .absent,
    clamped := false, config := Settings.defaults, learning := none }

/-- The machine as a full reset leaves it (R21), for the straps sampled, the level of the JAM input
and the commands waiting. -/
def State.fullReset (number : Nat) (role : Role) (inReset jamIn : Bool) (pending : List Instr) : State :=
  { pins := { inReset := inReset, jamIn := jamIn, indexEn := false, event := false },
    start := StartUnit.reset number role, now := 0, link := Link.reset, peers := PeerDir.reset,
    holds := HoldTable.reset, limits := Settings.defaults.limits, stage := Stage.reset,
    cell := Cell.reset, handler := Handler.reset Settings.defaults.kit, pack := Pack.reset,
    port := Port.reset 0, pending := pending }

/-- The machine at its full-reset values with RESET still asserted, the straps not yet sampled: the
next thing that can happen to it is RESET_RELEASE. Straps left open read 63 and PACK (spec/11 section
11.7); the JAM input is inactive (log entry 1). -/
def State.reset : State := State.fullReset 63 .pack true false []

end Sys2Proof.Machine
end

