-- ==== Sys2Proof/Machine/Ops.lean ====
section
/-! DEFINITION. Machine/Ops.lean: the named operations the meanings are made of: the updates of the
state's blocks, the millisecond clock and its ages (R177), timers, raising an event (R176), posting a
frame (R12, R13), and the list operations of the tables. -/
namespace Sys2Proof.Machine

/-! ## Updates, one per block -/

def State.setPins (s : State) (x : Pins) : State := { s with pins := x }
def State.setStart (s : State) (x : StartUnit) : State := { s with start := x }
def State.setNow (s : State) (x : Nat) : State := { s with now := x }
def State.setLink (s : State) (x : Link) : State := { s with link := x }
def State.setPeers (s : State) (x : PeerDir) : State := { s with peers := x }
def State.setHolds (s : State) (x : HoldTable) : State := { s with holds := x }
def State.setLimits (s : State) (x : LimitTable) : State := { s with limits := x }
def State.setStage (s : State) (x : Stage) : State := { s with stage := x }
def State.setCell (s : State) (x : Cell) : State := { s with cell := x }
def State.setHandler (s : State) (x : Handler) : State := { s with handler := x }
def State.setPack (s : State) (x : Pack) : State := { s with pack := x }
def State.setPort (s : State) (x : Port) : State := { s with port := x }
def State.setPending (s : State) (x : List Instr) : State := { s with pending := x }

/-! ## Time -/

/-- The millisecond clock (R177). -/
def State.clock (s : State) : Nat := s.now % 4294967296

/-- The age of a stored clock value (R177). -/
def State.age (s : State) (t : Nat) : Nat := (s.clock + (4294967296 - t % 4294967296)) % 4294967296

/-- The moment a timer of `ms` milliseconds started now expires. -/
def State.after (s : State) (ms : Nat) : Option Nat := some (s.now + ms)

/-- The clock at the moment a timer expires: an expiry comes no earlier than its moment, and time
never runs back (log entry 3). -/
def State.advanceTo (s : State) (moment : Nat) : State := s.setNow (max s.now moment)

/-- The time left on a timer, in whole minutes rounded up (R80). -/
def State.minutesLeft (s : State) : Option Nat → Nat
  | none => 0
  | some d => (59999 + (d - s.now)) / 60000

/-- This station's beacon interval in milliseconds. -/
def State.beaconMs (s : State) : Nat := s.start.config.beaconInterval * 1000

/-! ## The station -/

/-- The station has a valid number (R18). -/
def State.numberValid (s : State) : Bool := 1 ≤ s.start.number && s.start.number ≤ 40

/-- This station's own number. -/
def State.own (s : State) : Nat := s.start.number

/-- The station is ACTIVE. -/
def State.isActive (s : State) : Bool := s.start.station == .active

/-- The station is LEARNING or ACTIVE: its role block is not frozen. -/
def State.isLive (s : State) : Bool := s.start.station == .learning || s.start.station == .active

/-- The station runs the role. -/
def State.isRole (s : State) (r : Role) : Bool := s.start.role == r

/-! ## Events (R176, R178) -/

/-- Places an event at the tail of the event queue; an event that finds 32 records is dropped and sets
OVERFLOWED (R176). -/
def raise (e : Event) (s : State) : State :=
  if s.port.events.length < Config.eventSize then
    s.setPort { s.port with events := s.port.events ++ [{ event := e, time := s.clock }] }
  else s.setPort { s.port with overflowed := true }

/-! ## The transmit queue (R12, R13) -/

/-- The transmitter's state once a frame stands in the queue. -/
def TxState.afterPost : TxState → TxState
  | .empty => .waiting
  | t => t

/-- Posts a frame at the tail of the transmit queue: a full queue discards it and sets TX_FULL, and a
station whose transmitter is OFF discards it without a latch (R12, R13). -/
def post (a : Address) (p : Payload) (s : State) : State :=
  if s.link.tx = .off then s
  else if s.link.queue.length < Config.queueSize then
    s.setLink { s.link with queue := s.link.queue ++ [{ addr := a, payload := p }],
                            tx := s.link.tx.afterPost }
  else s.setLink { s.link with latches := { s.link.latches with txFull := true } }

/-- Sends a frame to one station. -/
def sendTo (n : Nat) (p : Payload) (s : State) : State := post { type := .toStation, value := n } p s

/-- Sends a frame to all stations; a to-all frame carries the value 0 (spec/11 section 11.2). -/
def sendAll (p : Payload) (s : State) : State := post { type := .toAll, value := 0 } p s

/-- Sends a frame to a zone. -/
def sendZone (z : Nat) (p : Payload) (s : State) : State := post { type := .toZone, value := z } p s

/-- The payload is a BEACON. -/
def isBeacon : Payload → Bool
  | .beacon _ => true
  | _ => false

/-- The head frame is being sent or has collided, so that a later BEACON does not take its place
(R13). -/
def Link.headAttempted (l : Link) : Bool :=
  l.tx == .sending || l.tx == .disturbing || l.attempts != 0

/-- Puts a frame in the place of the first BEACON of the list, if it has one. -/
def replaceBeacon (f : QFrame) : List QFrame → Option (List QFrame)
  | [] => none
  | q :: qs => if isBeacon q.payload then some (f :: qs) else (replaceBeacon f qs).map (q :: ·)

/-- The queue after a BEACON has taken the place of one that waits unattempted, if there is one
(R13). -/
def Link.replacedBeacon (l : Link) (f : QFrame) : Option (List QFrame) :=
  match l.queue with
  | [] => none
  | q :: qs =>
    if l.headAttempted then (replaceBeacon f qs).map (q :: ·) else replaceBeacon f (q :: qs)

/-- Posts a BEACON: it takes the place of one that waits unattempted, else it goes to the tail like
any other frame (R13). -/
def postBeacon (b : BeaconBody) (s : State) : State :=
  let f : QFrame := { addr := { type := .toAll, value := 0 }, payload := .beacon b }
  match s.link.replacedBeacon f with
  | some q => s.setLink { s.link with queue := q }
  | none => sendAll (.beacon b) s

/-! ## Lists -/

/-- The list with the element at an index changed. -/
def modifyAt {α : Type} (f : α → α) : Nat → List α → List α
  | _, [] => []
  | 0, x :: xs => f x :: xs
  | n + 1, x :: xs => x :: modifyAt f n xs

/-- Inserts an element before the first one it comes before. -/
def insertBy {α : Type} (before : α → α → Bool) (x : α) : List α → List α
  | [] => [x]
  | y :: ys => if before x y then x :: y :: ys else y :: insertBy before x ys

/-- Sorts a list; of two elements neither of which comes before the other, the earlier stays first. -/
def sortBy {α : Type} (before : α → α → Bool) : List α → List α
  | [] => []
  | x :: xs => insertBy (fun a b => !before b a) x (sortBy before xs)

/-- The first of the best elements of a list. -/
def bestBy {α : Type} (better : α → α → Bool) : List α → Option α
  | [] => none
  | x :: xs =>
    match bestBy better xs with
    | none => some x
    | some y => if better y x then some y else some x

/-- Removes the first element that satisfies a test. -/
def removeFirst {α : Type} (p : α → Bool) : List α → List α
  | [] => []
  | x :: xs => if p x then xs else x :: removeFirst p xs

/-- The element at a one-based position, or a default. -/
def nth1 {α : Type} (d : α) (l : List α) (n : Nat) : α := if n = 0 then d else l.getD (n - 1) d

/-- The peer directory's entry of a station (R30). -/
def peerAt (d : PeerDir) (n : Nat) : PeerEntry := nth1 PeerEntry.reset d.table n

/-- The lot record is of the lot (lot id, sublot index). -/
def isLot (l : LotRecord) (lotId index : Nat) : Bool := l.lotId == lotId && l.index == index

/-! ## Masks -/

/-- Bit n − 1 of a mask, for a site or a bin n from 1. -/
def maskHas {w : Nat} (m : BitVec w) (n : Nat) : Bool := 1 ≤ n && m.getLsbD (n - 1)

/-- The mask with the bit of site or bin n set. -/
def maskAdd {w : Nat} (m : BitVec w) (n : Nat) : BitVec w := m ||| BitVec.twoPow w (n - 1)

/-- The mask without the bit of site n. -/
def maskDrop {w : Nat} (m : BitVec w) (n : Nat) : BitVec w := m &&& ~~~(BitVec.twoPow w (n - 1))

/-- The sites 1 to 8. -/
def siteNumbers : List Nat := [1, 2, 3, 4, 5, 6, 7, 8]

end Sys2Proof.Machine
end

