-- ==== Sys2Proof/Machine/Codes.lean ====
section
/-! DEFINITION. Machine/Codes.lean: the codes of the enumerated fields, in the order of the lists of
spec/11 section 11.5, and the field each code names. -/
namespace Sys2Proof.Machine

/-- A flag as a byte, 0 or 1. -/
def flagCode (b : Bool) : Nat := if b then 1 else 0

/-- The code of a role. -/
def roleCode : Role → Nat
  | .cell => 0
  | .handler => 1
  | .stage => 2
  | .pack => 3

/-- The role a code names. -/
def roleOf : Nat → Option Role
  | 0 => some .cell
  | 1 => some .handler
  | 2 => some .stage
  | 3 => some .pack
  | _ => none

/-- The code of a station state. -/
def stationStateCode : StationState → Nat
  | .start => 0
  | .learning => 1
  | .active => 2
  | .silent => 3

/-- The station state a code names. -/
def stationStateOf : Nat → Option StationState
  | 0 => some .start
  | 1 => some .learning
  | 2 => some .active
  | 3 => some .silent
  | _ => none

/-- The code of a SILENT cause. -/
def silentCauseCode : SilentCause → Nat
  | .none => 0
  | .badNumber => 1
  | .imageBad => 2
  | .dupId => 3

/-- The code of a scope. -/
def scopeCode : Scope → Nat
  | .lot => 0
  | .product => 1
  | .group => 2
  | .program => 3

/-- The scope a code names. -/
def scopeOf : Nat → Option Scope
  | 0 => some .lot
  | 1 => some .product
  | 2 => some .group
  | 3 => some .program
  | _ => none

/-- The code of a hold state. -/
def holdStateCode : HoldState → Nat
  | .inForce => 0
  | .cleared => 1

/-- The hold state a code names. -/
def holdStateOf : Nat → Option HoldState
  | 0 => some .inForce
  | 1 => some .cleared
  | _ => none

/-- The code of a hold reason. -/
def holdReasonCode : HoldReason → Nat
  | .operator => 0
  | .yieldAlarm => 1
  | .binLimit => 2
  | .siteDelta => 3
  | .noSites => 4
  | .countExcess => 5
  | .jamRate => 6
  | .finalYield => 7
  | .noUnits => 8
  | .releaseYield => 9
  | .countMismatch => 10
  | .packCount => 11

/-- The hold reason a code names. -/
def holdReasonOf : Nat → Option HoldReason
  | 0 => some .operator
  | 1 => some .yieldAlarm
  | 2 => some .binLimit
  | 3 => some .siteDelta
  | 4 => some .noSites
  | 5 => some .countExcess
  | 6 => some .jamRate
  | 7 => some .finalYield
  | 8 => some .noUnits
  | 9 => some .releaseYield
  | 10 => some .countMismatch
  | 11 => some .packCount
  | _ => none

/-- The code of a disposition. -/
def dispositionCode : Disposition → Nat
  | .none => 0
  | .resume => 1
  | .scrap => 2
  | .retest => 3

/-- The disposition a code names. -/
def dispositionOf : Nat → Option Disposition
  | 0 => some .none
  | 1 => some .resume
  | 2 => some .scrap
  | 3 => some .retest
  | _ => none

/-- The code of a completion result. -/
def completionResultCode : CompletionResult → Nat
  | .passed => 0
  | .accepted => 1
  | .held => 2
  | .scrapped => 3
  | .empty => 4

/-- The completion result a code names. -/
def completionResultOf : Nat → Option CompletionResult
  | 0 => some .passed
  | 1 => some .accepted
  | 2 => some .held
  | 3 => some .scrapped
  | 4 => some .empty
  | _ => none

/-- The code of a ACCEPT answer. -/
def acceptAnswerCode : AcceptAnswer → Nat
  | .take => 0
  | .decline => 1

/-- The ACCEPT answer a code names. -/
def acceptAnswerOf : Nat → Option AcceptAnswer
  | 0 => some .take
  | 1 => some .decline
  | _ => none

/-- The code of a REVOKE reason. -/
def revokeReasonCode : RevokeReason → Nat
  | .held => 0
  | .conflict => 1

/-- The REVOKE reason a code names. -/
def revokeReasonOf : Nat → Option RevokeReason
  | 0 => some .held
  | 1 => some .conflict
  | _ => none

/-- The code of a RETURN reason. -/
def returnReasonCode : ReturnReason → Nat
  | .held => 0
  | .operator => 1

/-- The RETURN reason a code names. -/
def returnReasonOf : Nat → Option ReturnReason
  | 0 => some .held
  | 1 => some .operator
  | _ => none

/-- The code of a RESERVE-REPLY result. -/
def reserveResultCode : ReserveResult → Nat
  | .ok => 0
  | .busy => 1
  | .lapsed => 2

/-- The RESERVE-REPLY result a code names. -/
def reserveResultOf : Nat → Option ReserveResult
  | 0 => some .ok
  | 1 => some .busy
  | 2 => some .lapsed
  | _ => none

/-- The code of a BIND-REPLY result. -/
def bindResultCode : BindResult → Nat
  | .ok => 0
  | .busy => 1
  | .mismatch => 2

/-- The BIND-REPLY result a code names. -/
def bindResultOf : Nat → Option BindResult
  | 0 => some .ok
  | 1 => some .busy
  | 2 => some .mismatch
  | _ => none

/-- The code of a UNBIND reason. -/
def unbindReasonCode : UnbindReason → Nat
  | .undock => 0
  | .cancel => 1
  | .timeout => 2

/-- The UNBIND reason a code names. -/
def unbindReasonOf : Nat → Option UnbindReason
  | 0 => some .undock
  | 1 => some .cancel
  | 2 => some .timeout
  | _ => none

/-- The code of a handler state. -/
def relStateCode : RelState → Nat
  | .free => 0
  | .reserved => 1
  | .binding => 2
  | .bound => 3
  | .orphaned => 4

/-- The handler state a code names. -/
def relStateOf : Nat → Option RelState
  | 0 => some .free
  | 1 => some .reserved
  | 2 => some .binding
  | 3 => some .bound
  | 4 => some .orphaned
  | _ => none

/-- The code of a soak state. -/
def soakStateCode : SoakState → Nat
  | .unset => 0
  | .settling => 1
  | .soaking => 2
  | .ready => 3
  | .excursion => 4

/-- The soak state a code names. -/
def soakStateOf : Nat → Option SoakState
  | 0 => some .unset
  | 1 => some .settling
  | 2 => some .soaking
  | 3 => some .ready
  | 4 => some .excursion
  | _ => none

/-- The code of a site down reason. -/
def siteStatusCode : SiteStatus → Nat
  | .up => 0
  | .contactLife => 1
  | .failRun => 2
  | .countLimit => 3

/-- The site down reason a code names. -/
def siteStatusOf : Nat → Option SiteStatus
  | 0 => some .up
  | 1 => some .contactLife
  | 2 => some .failRun
  | 3 => some .countLimit
  | _ => none

/-- The code of a image outcome. -/
def imageOutcomeCode : ImageOutcome → Nat
  | .absent => 0
  | .noSignature => 1
  | .badCrc => 2
  | .loaded => 3

/-- The code of a peer presence. -/
def presenceCode : Presence → Nat
  | .unknown => 0
  | .present => 1
  | .lost => 2

/-- The code of a eligibility result. -/
def eligibilityCode : Eligibility → Nat
  | .eligible => 0
  | .notActive => 1
  | .overflow => 2
  | .held => 3
  | .program => 4
  | .noHandler => 5
  | .kit => 6
  | .temperature => 7
  | .outboxFull => 8
  | .queueFull => 9

/-- The code of a binding part state. -/
def bindStateCode : BindState → Nat
  | .none => 0
  | .binding => 1
  | .bound => 2
  | .orphaned => 3

/-- The code of a limit source. -/
def limitSourceCode : LimitSource → Nat
  | .product => 0
  | .default => 1

/-- The code of a pack entry state. -/
def packStateCode : PackState → Nat
  | .collecting => 0
  | .complete => 1
  | .released => 2
  | .scrapped => 3

/-- The code of a waiting reason. -/
def waitReasonCode : WaitReason → Nat
  | .none => 0
  | .sublotHeld => 1
  | .noUnits => 2
  | .countMismatch => 3
  | .releaseYield => 4
  | .packCount => 5

/-- The code of a refusal reason. -/
def reasonCode : Reason → Nat
  | .state => 1
  | .busy => 2
  | .full => 3
  | .duplicate => 4
  | .wrongCell => 5
  | .unknown => 6
  | .notQueued => 7
  | .notRunning => 8
  | .held => 9
  | .notEnded => 10
  | .reserved => 11
  | .handlerPresent => 12
  | .notBound => 13
  | .content => 14
  | .noPartA => 15
  | .wrongSetpoint => 16
  | .jamActive => 17
  | .lifeSpent => 18
  | .unknownHold => 19
  | .genMismatch => 20
  | .scope => 21
  | .notHere => 22
  | .count => 23

/-- The code of a ERROR kind. -/
def errorKindCode : ErrorKind → Nat
  | .length => 0
  | .check => 1
  | .code => 2
  | .content => 3

/-- The code of a staging entry state. -/
def entryStateCode : EntryState → Nat
  | .waiting => 0
  | .contest => 1
  | .granted _ _ => 2
  | .claimed _ => 3
  | .issued _ => 4

/-- The code of a sighting state. -/
def sightStateCode : SightState → Nat
  | .seen => 0
  | .pending _ _ => 1

/-- The code of a reservation part state. -/
def reservationCode : Reservation → Nat
  | .none => 0
  | .collecting _ _ _ _ => 1
  | .reserving _ _ _ _ _ => 2
  | .reserved _ _ _ => 3

/-- The code of a lot phase; 0 is the empty slot. -/
def phaseCode : Phase → Nat
  | .inPass => 1
  | .awaiting => 2
  | .finished => 3

/-- The code of an outcome: DONE 1, REFUSED 2, ALREADY 3, ERROR 4, START 5 (spec/11 section 11.4). -/
def answerCode : Answer → Nat
  | .done _ => 1
  | .refused _ => 2
  | .already _ => 3
  | .error _ => 4
  | .start => 5

/-! ## UNBOUND reasons and BIND_FAILED results -/

/-- UNBOUND reason RESTART. -/
def unboundRestart : Nat := 3
/-- UNBOUND reason TIMEOUT. -/
def unboundTimeout : Nat := 2
/-- UNBOUND reason UNDOCK. -/
def unboundUndock : Nat := 0
/-- BIND_FAILED result TIMEOUT. -/
def bindFailedTimeout : Nat := 3
/-- BIND_FAILED result RESTART. -/
def bindFailedRestart : Nat := 4

/-! ## Frame kinds (spec/11 section 11.2) -/

/-- The code of a payload's frame kind. -/
def kindCode : Payload → Nat
  | .beacon _ => 0x01
  | .offer _ => 0x02
  | .claim _ _ _ _ => 0x03
  | .grant _ _ _ _ => 0x04
  | .accept _ _ _ _ => 0x05
  | .revoke _ _ _ => 0x06
  | .return_ _ _ _ => 0x07
  | .lotDone _ => 0x08
  | .doneTaken _ _ => 0x09
  | .release _ => 0x0A
  | .hold _ => 0x0B
  | .clear _ _ _ _ _ => 0x0C
  | .holdListReq _ => 0x0D
  | .holdList _ _ _ _ => 0x0E
  | .holdListNone _ _ => 0x0F
  | .handlerWanted _ _ => 0x10
  | .handlerAvailable _ _ => 0x11
  | .reserve => 0x12
  | .reserveReply _ _ => 0x13
  | .bindReq _ => 0x14
  | .bindReply _ _ _ => 0x15
  | .bindConfirm _ _ => 0x16
  | .unbind _ => 0x17
  | .permit _ => 0x18
  | .handlerStatus _ => 0x19
  | .siteDown _ _ => 0x1A
  | .raw k _ => k

/-- The 26 known kinds (R15). -/
def kindKnown (k : Nat) : Bool := 1 ≤ k && k ≤ 0x1A

/-! ## Port commands (spec/11 section 11.4) -/

/-- The code of a port command. -/
def commandCode : PortCommand → Nat
  | .nop => 0x01
  | .readStatus _ => 0x02
  | .readDiagnostics => 0x03
  | .readEvent => 0x04
  | .readPeer _ _ => 0x05
  | .readHold _ _ => 0x06
  | .placeHold _ _ _ => 0x07
  | .disposition _ _ _ _ => 0x08
  | .armWatch _ _ _ => 0x09
  | .disarmWatch _ => 0x0A
  | .restart => 0x0B
  | .lotArrived _ => 0x20
  | .lotIssued _ _ _ => 0x21
  | .lotReturned _ _ => 0x22
  | .lotRemoved _ _ => 0x23
  | .readStage _ => 0x24
  | .dock _ => 0x40
  | .undock => 0x41
  | .requestHandler _ _ => 0x42
  | .unqueue _ _ => 0x43
  | .lotLoaded _ _ => 0x44
  | .binReport _ _ => 0x45
  | .endPass => 0x46
  | .lotUnloaded => 0x47
  | .limitSetA _ => 0x48
  | .limitSetB _ _ _ => 0x49
  | .limitClear _ => 0x4A
  | .readLot _ => 0x4B
  | .readQueue _ _ => 0x4C
  | .readSighting _ => 0x4D
  | .readSite _ => 0x4E
  | .readOutbox _ _ => 0x4F
  | .tempReached _ => 0x60
  | .tempLost => 0x61
  | .unitIndexed _ => 0x62
  | .kitChanged _ => 0x63
  | .contactorReplaced _ => 0x64
  | .contactorCount _ _ => 0x65
  | .siteRestore _ => 0x66
  | .reArm => 0x67
  | .readHandler _ => 0x68
  | .packDone _ _ => 0x80
  | .readPack _ _ => 0x81
  | .readRelease _ _ => 0x82

/-- The role a command code belongs to: none for a common command (R174). Unknown codes fail the CODE
check (spec/11 section 11.4). -/
inductive CodeGroup where
  | unknown | common | role (r : Role)
deriving DecidableEq, Repr

/-- The group of a command code. -/
def codeGroup (code : Nat) : CodeGroup :=
  if 0x01 ≤ code ∧ code ≤ 0x0B then .common
  else if 0x20 ≤ code ∧ code ≤ 0x24 then .role .stage
  else if 0x40 ≤ code ∧ code ≤ 0x4F then .role .cell
  else if 0x60 ≤ code ∧ code ≤ 0x68 then .role .handler
  else if 0x80 ≤ code ∧ code ≤ 0x82 then .role .pack
  else .unknown

end Sys2Proof.Machine
end

