-- ==== Sys2Proof/Machine/Formats.lean ====
section
/-! DEFINITION. Machine/Formats.lean: the byte layouts of spec/11 (R181): numbers and temperatures, the
CRC-16 of R3 and the CRC-8 of R169, the records, the 26 payloads, whole frames, events and outcomes,
and the readers of received frames. -/
namespace Sys2Proof.Machine

/-! ## Numbers (R181) -/

/-- The low byte of a number. -/
def byte (n : Nat) : Byte := BitVec.ofNat 8 n

/-- One byte. -/
def be1 (n : Nat) : List Byte := [byte n]
/-- Two bytes, the more significant first. -/
def be2 (n : Nat) : List Byte := [byte (n / 256), byte n]
/-- Three bytes, the most significant first. -/
def be3 (n : Nat) : List Byte := [byte (n / 65536), byte (n / 256), byte n]
/-- Four bytes, the most significant first. -/
def be4 (n : Nat) : List Byte := [byte (n / 16777216), byte (n / 65536), byte (n / 256), byte n]
/-- A temperature: signed 16-bit two's complement. -/
def beTemp (t : Int) : List Byte := be2 (t % 65536).toNat
/-- A 16-bit mask. -/
def beMask (m : Mask16) : List Byte := be2 m.toNat

/-- The number a list of bytes spells, the first byte most significant. -/
def num (bs : List Byte) : Nat := bs.foldl (fun n b => n * 256 + b.toNat) 0

/-- The number in the `width` bytes at an offset. -/
def field (bs : List Byte) (offset width : Nat) : Nat := num ((bs.drop offset).take width)

/-- The temperature in the two bytes at an offset. -/
def fieldTemp (bs : List Byte) (offset : Nat) : Int :=
  let n := field bs offset 2
  if n < 32768 then n else (n : Int) - 65536

/-- The 16-bit mask in the two bytes at an offset. -/
def fieldMask (bs : List Byte) (offset : Nat) : Mask16 := BitVec.ofNat 16 (field bs offset 2)

/-- The sublot byte: the index in the upper four bits, the count in the lower four. -/
def sublotByte (index count : Nat) : List Byte := be1 (index % 16 * 16 + count % 16)

/-! ## CRCs -/

/-- One bit into the CRC-16 register: generator x^16 + x^15 + x^2 + 1 (R3). -/
def crc16Bit (r : BitVec 16) (b : Bool) : BitVec 16 :=
  if r.msb != b then (r <<< 1) ^^^ 0x8005#16 else r <<< 1

/-- The bits of a byte, most significant first. -/
def byteBits (b : Byte) : List Bool := [7, 6, 5, 4, 3, 2, 1, 0].map b.getLsbD

/-- The CRC-16 of R3: the register starts at 0, each byte enters most significant bit first. -/
def crc16 (bs : List Byte) : BitVec 16 :=
  bs.foldl (fun r b => (byteBits b).foldl crc16Bit r) 0#16

/-- One bit into the CRC-8 register: generator x^8 + x^2 + x + 1 (R169). -/
def crc8Bit (r : BitVec 8) (b : Bool) : BitVec 8 :=
  if r.msb != b then (r <<< 1) ^^^ 0x07#8 else r <<< 1

/-- The CRC-8 of R169. -/
def crc8 (bs : List Byte) : BitVec 8 :=
  bs.foldl (fun r b => (byteBits b).foldl crc8Bit r) 0#8

/-! ## Records (spec/11 section 11.3) -/

/-- The lot record, 17 bytes. -/
def lotBytes (l : LotRecord) : List Byte :=
  be4 l.lotId ++ sublotByte l.index l.count ++ be2 l.product ++ be2 l.program ++ be1 l.kit ++
    beTemp l.temp ++ be2 l.quantity ++ be1 l.group ++ be1 l.priority ++ be1 l.packStation

/-- The hold record, 15 bytes. -/
def holdBytes (r : HoldRec) : List Byte :=
  be1 (scopeCode r.scope) ++ be4 r.key ++ be2 r.generation ++ be1 (holdStateCode r.state) ++
    be1 r.origin ++ be1 (holdReasonCode r.reason) ++ be1 r.detail ++ be4 r.trigger

/-- The completion record from lot id through cell, 13 bytes. -/
def completionHead (c : Completion) : List Byte :=
  be4 c.lotId ++ sublotByte c.index c.count ++ be2 c.product ++ be2 c.program ++ be2 c.quantity ++
    be1 c.packStation ++ be1 c.cell

/-- The completion record from T through the reasons word, 16 bytes. -/
def completionTail (c : Completion) : List Byte :=
  be3 c.tested ++ be3 c.good ++ be3 c.unretested ++ be3 c.excess ++ be1 c.passes ++
    be1 (completionResultCode c.result) ++ beMask c.reasons

/-- The completion record, 29 bytes. -/
def completionBytes (c : Completion) : List Byte := completionHead c ++ completionTail c

/-- The flags byte of a release record: bit 0 GATE_WAIVED, bit 1 HAS_ACCEPTED. -/
def releaseFlags (r : ReleaseRec) : Nat := flagCode r.gateWaived + 2 * flagCode r.hasAccepted

/-- The release record before its code, the 20 bytes the release code is computed over (R166). -/
def releaseHead (r : ReleaseRec) : List Byte :=
  be4 r.lotId ++ be2 r.product ++ be1 r.count ++ be4 r.sumTested ++ be4 r.sumGood ++ be2 r.yield ++
    be1 (releaseFlags r) ++ be2 r.sequence

/-- The release record, 22 bytes. -/
def releaseBytes (r : ReleaseRec) : List Byte := releaseHead r ++ be2 r.code

/-- A handler's kit, range and site count, 6 bytes. -/
def fitBytes (f : HandlerFit) : List Byte :=
  be1 f.kit ++ beTemp f.tempMin ++ beTemp f.tempMax ++ be1 f.sites

/-- The role block of a BEACON. -/
def blockBytes : BeaconBlock → List Byte
  | .cell b r l => be1 b ++ be1 r ++ be1 l
  | .handler st c k lo hi n m =>
    be1 (relStateCode st) ++ be1 c ++ be1 k ++ beTemp lo ++ beTemp hi ++ be1 n ++ be1 m.toNat
  | .stage w z => be1 w ++ be1 z
  | .pack n => be1 n

/-- The role a role block belongs to. -/
def blockRole : BeaconBlock → Role
  | .cell _ _ _ => .cell
  | .handler _ _ _ _ _ _ _ => .handler
  | .stage _ _ => .stage
  | .pack _ => .pack

/-! ## Payloads (spec/11 section 11.2) -/

/-- The flags byte of a HANDLER-STATUS. -/
def statusFlags (b : StatusBody) : Nat :=
  flagCode b.ready + 2 * flagCode b.reachedValid + 4 * flagCode b.jam

/-- The payload bytes. -/
def payloadBytes : Payload → List Byte
  | .beacon b =>
    be1 (roleCode (blockRole b.block)) ++ be1 (stationStateCode b.state) ++ beMask b.zones ++
      be1 b.holdCount ++ be2 b.digest ++ blockBytes b.block
  | .offer l => lotBytes l
  | .claim lot ix sc ow => be4 lot ++ be1 ix ++ be1 sc ++ be1 (flagCode ow)
  | .grant lot ix c sc => be4 lot ++ be1 ix ++ be1 c ++ be1 sc
  | .accept lot ix a sc => be4 lot ++ be1 ix ++ be1 (acceptAnswerCode a) ++ be1 sc
  | .revoke lot ix r => be4 lot ++ be1 ix ++ be1 (revokeReasonCode r)
  | .return_ lot ix r => be4 lot ++ be1 ix ++ be1 (returnReasonCode r)
  | .lotDone c => completionBytes c
  | .doneTaken lot ix => be4 lot ++ be1 ix
  | .release r => releaseBytes r
  | .hold r => holdBytes r
  | .clear sc k g d n =>
    be1 (scopeCode sc) ++ be4 k ++ be2 g ++ be1 (dispositionCode d) ++ be1 n
  | .holdListReq i => be1 i
  | .holdList t i n rs => be1 t ++ be1 i ++ be1 n ++ rs.flatMap holdBytes
  | .holdListNone t i => be1 t ++ be1 i
  | .handlerWanted k t => be1 k ++ beTemp t
  | .handlerAvailable f m => fitBytes f ++ be2 m
  | .reserve => []
  | .reserveReply r m => be1 (reserveResultCode r) ++ be1 m
  | .bindReq k => be1 k
  | .bindReply r f m => be1 (bindResultCode r) ++ fitBytes f ++ be1 m.toNat
  | .bindConfirm k n => be1 k ++ be1 n
  | .unbind r => be1 (unbindReasonCode r)
  | .permit p => be1 (flagCode p.run) ++ be4 p.lotId ++ be1 p.index ++ be1 p.kit ++ beTemp p.temp
  | .handlerStatus b =>
    be1 (statusFlags b) ++ be1 (soakStateCode b.soak) ++ beTemp b.reached ++ be1 b.mask.toNat ++
      b.sites.flatMap (fun st => be1 (siteStatusCode st)) ++ be1 b.jamCount
  | .siteDown st r => be1 st ++ be1 (siteStatusCode r)
  | .raw _ bs => bs

/-! ## Frames (section 1.2, spec/11 section 11.2) -/

/-- The fixed start byte. -/
def startByte : Byte := 0xA5

/-- The code of an address type. -/
def addrTypeCode : AddrType → Nat
  | .toStation => 0
  | .toAll => 1
  | .toZone => 2
  | .type3 => 3

/-- The address type a code names. -/
def addrTypeOf : Nat → AddrType
  | 0 => .toStation
  | 1 => .toAll
  | 2 => .toZone
  | _ => .type3

/-- The bytes the frame check is computed over: kind through the last payload byte (R3). -/
def frameBody (h : Header) (p : Payload) : List Byte :=
  be1 (kindCode p) ++ be1 (addrTypeCode h.addr.type * 64 + h.addr.value % 64) ++ be1 h.source ++
    be1 (flagCode h.fresh * 128) ++ be1 (payloadBytes p).length ++ payloadBytes p

/-- The whole frame, from start byte to check. -/
def frameBytes (h : Header) (p : Payload) : List Byte :=
  startByte :: frameBody h p ++ be2 (crc16 (frameBody h p)).toNat

/-! ## Reading records and payloads -/

/-- The lot record in 17 bytes. -/
def readLot (bs : List Byte) : LotRecord :=
  { lotId := field bs 0 4, index := field bs 4 1 / 16, count := field bs 4 1 % 16,
    product := field bs 5 2, program := field bs 7 2, kit := field bs 9 1, temp := fieldTemp bs 10,
    quantity := field bs 12 2, group := field bs 14 1, priority := field bs 15 1,
    packStation := field bs 16 1 }

/-- The hold record in 15 bytes, when its codes are known. -/
def readHold (bs : List Byte) : Option HoldRec :=
  match scopeOf (field bs 0 1), holdStateOf (field bs 7 1), holdReasonOf (field bs 9 1) with
  | some sc, some st, some rs =>
    some { scope := sc, key := field bs 1 4, generation := field bs 5 2, state := st,
           origin := field bs 8 1, reason := rs, detail := field bs 10 1, trigger := field bs 11 4 }
  | _, _, _ => none

/-- The completion record in 29 bytes, when its result is known. The reasons word keeps the bits of
the twelve reasons; the others are not examined (R181). -/
def readCompletion (bs : List Byte) : Option Completion :=
  (completionResultOf (field bs 26 1)).map fun r =>
    { lotId := field bs 0 4, index := field bs 4 1 / 16, count := field bs 4 1 % 16,
      product := field bs 5 2, program := field bs 7 2, quantity := field bs 9 2,
      packStation := field bs 11 1, cell := field bs 12 1, tested := field bs 13 3,
      good := field bs 16 3, unretested := field bs 19 3, excess := field bs 22 3,
      passes := field bs 25 1, result := r, reasons := fieldMask bs 27 &&& 0x0FFF#16 }

/-- The release record in 22 bytes. -/
def readRelease (bs : List Byte) : ReleaseRec :=
  { lotId := field bs 0 4, product := field bs 4 2, count := field bs 6 1, sumTested := field bs 7 4,
    sumGood := field bs 11 4, yield := field bs 15 2, gateWaived := (field bs 17 1).testBit 0,
    hasAccepted := (field bs 17 1).testBit 1, sequence := field bs 18 2, code := field bs 20 2 }

/-- A handler's kit, range and site count at an offset. -/
def readFit (bs : List Byte) (o : Nat) : HandlerFit :=
  { kit := field bs o 1, tempMin := fieldTemp bs (o + 1), tempMax := fieldTemp bs (o + 3),
    sites := field bs (o + 5) 1 }

/-- The site mask in the byte at an offset. -/
def fieldSites (bs : List Byte) (o : Nat) : SiteMask := BitVec.ofNat 8 (field bs o 1)

/-- The role block of a BEACON, judged against the length for the role its role byte names. -/
def readBlock (bs : List Byte) : Option BeaconBlock :=
  match roleOf (field bs 0 1), bs.length with
  | some .cell, 10 => some (.cell (field bs 7 1) (field bs 8 1) (field bs 9 1))
  | some .handler, 16 =>
    (relStateOf (field bs 7 1)).map fun st =>
      .handler st (field bs 8 1) (field bs 9 1) (fieldTemp bs 10) (fieldTemp bs 12) (field bs 14 1)
        (fieldSites bs 15)
  | some .stage, 9 => some (.stage (field bs 7 1) (field bs 8 1))
  | some .pack, 8 => some (.pack (field bs 7 1))
  | _, _ => none

/-- The BEACON in its bytes, when its length and codes are right. -/
def readBeacon (bs : List Byte) : Option Payload :=
  match readBlock bs, stationStateOf (field bs 1 1) with
  | some blk, some st =>
    some (.beacon { state := st, zones := fieldMask bs 2, holdCount := field bs 4 1,
                    digest := field bs 5 2, block := blk })
  | _, _ => none

/-- The hold records that follow one another from an offset, when their codes are known. -/
def readHolds (bs : List Byte) : Nat → Nat → Option (List HoldRec)
  | _, 0 => some []
  | o, n + 1 =>
    match readHold (bs.drop o), readHolds bs (o + 15) n with
    | some r, some rs => some (r :: rs)
    | _, _ => none

/-- The down reasons of sites 1 to 8 from an offset, when their codes are known. -/
def readSites (bs : List Byte) : Nat → Nat → Option (List SiteStatus)
  | _, 0 => some []
  | o, n + 1 =>
    match siteStatusOf (field bs o 1), readSites bs (o + 1) n with
    | some r, some rs => some (r :: rs)
    | _, _ => none

/-- The HANDLER-STATUS in its 14 bytes, when its codes are known. -/
def readStatusBody (bs : List Byte) : Option Payload :=
  match soakStateOf (field bs 1 1), readSites bs 5 8 with
  | some so, some sites =>
    some (.handlerStatus
      { ready := (field bs 0 1).testBit 0, reachedValid := (field bs 0 1).testBit 1,
        jam := (field bs 0 1).testBit 2, soak := so, reached := fieldTemp bs 2,
        mask := fieldSites bs 4, sites := sites, jamCount := field bs 13 1 })
  | _, _ => none

/-- The PERMIT in its 9 bytes, when its run code is known. -/
def readPermit (bs : List Byte) : Option Payload :=
  if field bs 0 1 ≤ 1 then
    some (.permit { run := field bs 0 1 == 1, lotId := field bs 1 4, index := field bs 5 1,
                    kit := field bs 6 1, temp := fieldTemp bs 7 })
  else none

/-- The CLEAR in its 9 bytes, when its codes are known. -/
def readClear (bs : List Byte) : Option Payload :=
  match scopeOf (field bs 0 1), dispositionOf (field bs 7 1) with
  | some sc, some d => some (.clear sc (field bs 1 4) (field bs 5 2) d (field bs 8 1))
  | _, _ => none

/-- Whether a length is one its kind allows (spec/11 section 11.2). -/
def lengthAllowed (kind len : Nat) : Bool :=
  match kind with
  | 0x01 => len == 10 || len == 16 || len == 9 || len == 8
  | 0x02 => len == 17
  | 0x03 => len == 7
  | 0x04 => len == 7
  | 0x05 => len == 7
  | 0x06 => len == 6
  | 0x07 => len == 6
  | 0x08 => len == 29
  | 0x09 => len == 5
  | 0x0A => len == 22
  | 0x0B => len == 15
  | 0x0C => len == 9
  | 0x0D => len == 1
  | 0x0E => len == 18 || len == 33 || len == 48
  | 0x0F => len == 2
  | 0x10 => len == 3
  | 0x11 => len == 8
  | 0x12 => len == 0
  | 0x13 => len == 2
  | 0x14 => len == 1
  | 0x15 => len == 8
  | 0x16 => len == 2
  | 0x17 => len == 1
  | 0x18 => len == 9
  | 0x19 => len == 14
  | 0x1A => len == 2
  | _ => false

/-- The payload of a kind in bytes of an allowed length, when its codes are known. -/
def readKnown (kind : Nat) (bs : List Byte) : Option Payload :=
  match kind with
  | 0x01 => readBeacon bs
  | 0x02 => some (.offer (readLot bs))
  | 0x03 => some (.claim (field bs 0 4) (field bs 4 1) (field bs 5 1) ((field bs 6 1).testBit 0))
  | 0x04 => some (.grant (field bs 0 4) (field bs 4 1) (field bs 5 1) (field bs 6 1))
  | 0x05 =>
    (acceptAnswerOf (field bs 5 1)).map fun a => .accept (field bs 0 4) (field bs 4 1) a (field bs 6 1)
  | 0x06 => (revokeReasonOf (field bs 5 1)).map fun r => .revoke (field bs 0 4) (field bs 4 1) r
  | 0x07 => (returnReasonOf (field bs 5 1)).map fun r => .return_ (field bs 0 4) (field bs 4 1) r
  | 0x08 => (readCompletion bs).map .lotDone
  | 0x09 => some (.doneTaken (field bs 0 4) (field bs 4 1))
  | 0x0A => some (.release (readRelease bs))
  | 0x0B => (readHold bs).map .hold
  | 0x0C => readClear bs
  | 0x0D => some (.holdListReq (field bs 0 1))
  | 0x0E =>
    (readHolds bs 3 ((bs.length - 3) / 15)).map fun rs =>
      .holdList (field bs 0 1) (field bs 1 1) (field bs 2 1) rs
  | 0x0F => some (.holdListNone (field bs 0 1) (field bs 1 1))
  | 0x10 => some (.handlerWanted (field bs 0 1) (fieldTemp bs 1))
  | 0x11 => some (.handlerAvailable (readFit bs 0) (field bs 6 2))
  | 0x12 => some .reserve
  | 0x13 => (reserveResultOf (field bs 0 1)).map fun r => .reserveReply r (field bs 1 1)
  | 0x14 => some (.bindReq (field bs 0 1))
  | 0x15 => (bindResultOf (field bs 0 1)).map fun r => .bindReply r (readFit bs 1) (fieldSites bs 7)
  | 0x16 => some (.bindConfirm (field bs 0 1) (field bs 1 1))
  | 0x17 => (unbindReasonOf (field bs 0 1)).map .unbind
  | 0x18 => readPermit bs
  | 0x19 => readStatusBody bs
  | 0x1A => (siteStatusOf (field bs 1 1)).map fun r => .siteDown (field bs 0 1) r
  | _ => none

/-- The payload a receiver reads from a kind code and the payload bytes. -/
def readPayload (kind : Nat) (bs : List Byte) : Payload :=
  if lengthAllowed kind bs.length then (readKnown kind bs).getD (.raw kind bs) else .raw kind bs

/-! ## Bytes on the segment (R1) -/

/-- The state the segment shows for a bit: a 0 is dominant and a 1 is recessive. -/
def levelOfBit : Bool → Level
  | false => .dominant
  | true => .recessive

/-- The bit a state of the segment carries. -/
def bitOfLevel : Level → Bool
  | .dominant => false
  | .recessive => true

/-- A byte as it is sent: a dominant start bit, eight data bits with the most significant first, and a
recessive stop bit. -/
def byteLevels (b : Byte) : List Level :=
  .dominant :: ([7, 6, 5, 4, 3, 2, 1, 0].map fun i => levelOfBit (b.getLsbD i)) ++ [.recessive]

/-- Bytes sent back to back. -/
def lineLevels (bs : List Byte) : List Level := bs.flatMap byteLevels

/-- The states of the line up to the end of the transmission: ten recessive bit times in a row end it,
whatever follows. `run` is the number of recessive bit times just seen. -/
def untilSilence (run : Nat) : List Level → List Level
  | [] => []
  | .dominant :: ls => .dominant :: untilSilence 0 ls
  | .recessive :: ls => if run = 9 then [] else .recessive :: untilSilence (run + 1) ls

/-- A transmission as the receiver collected it: its bytes, and whether a byte had a dominant stop
bit. -/
structure Reception where
  bytes : List Byte
  stopFault : Bool
deriving DecidableEq, Repr

/-- The byte of data bits, most significant first; bits not seen before the end of the transmission were
recessive. -/
def byteOfBits (bits : List Bool) : Byte :=
  (bits ++ List.replicate (8 - bits.length) true).foldl
    (fun n b => 2 * n + (if b then 1#8 else 0#8)) 0#8

/-- The receiver: between bytes it waits for a start bit; in a byte it holds the data bits so far. A
dominant stop bit is a framing fault, after which nothing further is collected. -/
def collect : Option (List Bool) → List Level → Reception
  | none, [] => { bytes := [], stopFault := false }
  | none, .recessive :: ls => collect none ls
  | none, .dominant :: ls => collect (some []) ls
  | some bits, [] => { bytes := [byteOfBits bits], stopFault := false }
  | some bits, l :: ls =>
    if bits.length < 8 then collect (some (bits ++ [bitOfLevel l])) ls
    else
      match l with
      | .dominant => { bytes := [], stopFault := true }
      | .recessive =>
        let r := collect none ls
        { r with bytes := byteOfBits bits :: r.bytes }

/-- What the receiver collects of a transmission. -/
def received (t : Transmission) : Reception := collect none (untilSilence 0 t.levels)

/-! ## The checks of a transmission (R14) -/

/-- The transmission passes the FRAMING check (R14): no byte fault, the start byte, a length of at
most 48, and exactly the bytes that length asks for. -/
def framingOk (rx : Reception) : Bool :=
  !rx.stopFault && 6 ≤ rx.bytes.length && rx.bytes.headD 0 == startByte && field rx.bytes 5 1 ≤ 48 &&
    rx.bytes.length == 6 + field rx.bytes 5 1 + 2

/-- The bytes of a well-framed transmission that its check is computed over. -/
def receivedBody (bs : List Byte) : List Byte := (bs.drop 1).take (5 + field bs 5 1)

/-- The transmission passes the CHECK check (R14). -/
def checkOk (bs : List Byte) : Bool :=
  (crc16 (receivedBody bs)).toNat == field bs (6 + field bs 5 1) 2

/-- The header of a well-framed transmission. -/
def readHeader (bs : List Byte) : Header :=
  { addr := { type := addrTypeOf (field bs 2 1 / 64), value := field bs 2 1 % 64 },
    source := field bs 3 1, fresh := (field bs 4 1).testBit 7 }

/-- The payload of a well-framed transmission. -/
def readFramePayload (bs : List Byte) : Payload :=
  readPayload (field bs 1 1) ((bs.drop 6).take (field bs 5 1))

/-! ## What the watch slots compare (R180) -/

/-- The scope and key a hold record in bytes names. -/
def rawHoldKey (bs : List Byte) : List (Scope × Nat) :=
  match scopeOf (field bs 0 1) with
  | some sc => [(sc, field bs 1 4)]
  | none => []

/-- The scopes and keys a frame names, when its kind is one the watch slots examine and its length is
one the kind allows. A payload whose codes are unknown is compared in its bytes. A HOLD-LIST whose length
disagrees with its record count is examined, in as many records as its length holds: the model's choice
(log entry 47). -/
def watchKeys : Payload → List (Scope × Nat)
  | .offer l => [(.lot, l.lotId), (.product, l.product), (.group, l.group), (.program, l.program)]
  | .lotDone c => [(.lot, c.lotId), (.product, c.product), (.program, c.program)]
  | .release r => [(.lot, r.lotId), (.product, r.product)]
  | .hold r => [(r.scope, r.key)]
  | .holdList _ _ _ rs => rs.map fun r => (r.scope, r.key)
  | .raw k bs =>
    if !lengthAllowed k bs.length then []
    else if k = 0x08 then
      [(.lot, field bs 0 4), (.product, field bs 5 2), (.program, field bs 7 2)]
    else if k = 0x0B then rawHoldKey bs
    else if k = 0x0E then
      (List.range ((bs.length - 3) / 15)).flatMap fun i => rawHoldKey (bs.drop (3 + 15 * i))
    else []
  | _ => []

/-! ## Events (spec/11 sections 11.4 and 11.5, R176) -/

/-- The code of an event kind. -/
def eventCode : Event → Nat
  | .peerLost _ => 1
  | .peerBack _ => 2
  | .peerRestart _ => 3
  | .holdPlaced _ _ _ _ => 4
  | .holdCleared _ _ _ _ => 5
  | .holdOverflow _ _ => 6
  | .lotGranted _ _ _ => 7
  | .lotLost _ _ _ => 8
  | .lotRevoked _ _ _ _ => 9
  | .retestStarted _ _ _ _ => 10
  | .stageFinished _ _ _ => 11
  | .cellFinished _ _ _ => 11
  | .handlerReserved _ => 12
  | .reservationLapsed _ => 13
  | .noHandler _ _ => 14
  | .bound _ => 15
  | .unbound _ _ => 16
  | .cellBindFailed _ _ _ => 17
  | .handlerBindFailed _ => 17
  | .siteDown _ _ => 18
  | .jam _ _ => 19
  | .setpointRequest _ => 20
  | .doneConflict _ _ _ => 21
  | .released _ _ _ => 22
  | .lateHold _ _ _ _ => 23
  | .watchHit _ _ _ _ => 24
  | .dupId => 25

/-- A lot field: lot id and sublot index. -/
def beLot (lotId index : Nat) : List Byte := be4 lotId ++ be1 index

/-- A scope-and-key field. -/
def beKey (sc : Scope) (key : Nat) : List Byte := be1 (scopeCode sc) ++ be4 key

/-- The key fields of an event, in the order of R176's table. -/
def eventFields : Event → List Byte
  | .peerLost n => be1 n
  | .peerBack n => be1 n
  | .peerRestart n => be1 n
  | .dupId => []
  | .holdPlaced sc k g o => beKey sc k ++ be2 g ++ be1 o
  | .holdCleared sc k g d => beKey sc k ++ be2 g ++ be1 (dispositionCode d)
  | .holdOverflow e n => be1 (if e then 0 else 1) ++ be1 n
  | .lotGranted lot ix n => beLot lot ix ++ be1 n
  | .lotLost lot ix c => beLot lot ix ++ (match c with | some n => be1 n | none => [])
  | .lotRevoked lot ix n r =>
    beLot lot ix ++ be1 n ++ (match r with | some x => be1 (revokeReasonCode x) | none => [])
  | .retestStarted lot ix n p => beLot lot ix ++ be1 n ++ be3 p
  | .stageFinished lot ix c => beLot lot ix ++ be1 c
  | .cellFinished lot ix r => beLot lot ix ++ be1 (completionResultCode r)
  | .handlerReserved n => be1 n
  | .reservationLapsed n => be1 n
  | .noHandler k t => be1 k ++ beTemp t
  | .bound n => be1 n
  | .unbound n r => be1 n ++ be1 r
  | .cellBindFailed n r k => be1 n ++ be1 r ++ be1 k
  | .handlerBindFailed n => be1 n
  | .siteDown st r => be1 st ++ be1 (siteStatusCode r)
  | .jam lot ix => beLot lot ix
  | .setpointRequest t => beTemp t
  | .doneConflict lot ix c => beLot lot ix ++ be1 c
  | .released lot n c => be4 lot ++ be2 n ++ be2 c
  | .lateHold lot sc k g => be4 lot ++ beKey sc k ++ be2 g
  | .watchHit slot kind sc k => be1 slot ++ be1 kind ++ beKey sc k

/-! ## Outcomes (R169, spec/11 section 11.4) -/

/-- A list of bytes followed by zeros up to a length. -/
def padTo (n : Nat) (bs : List Byte) : List Byte := bs.take n ++ List.replicate (n - bs.length) 0

/-- The START fields as they stand (R171). -/
def startFields (s : State) : List Byte :=
  [Config.revision] ++ be1 (roleCode s.start.role) ++ be1 s.start.number ++
    be1 (flagCode s.numberValid) ++ be1 (stationStateCode s.start.station) ++
    be1 (silentCauseCode s.start.cause)

/-- The result bytes of an answer before their padding. -/
def answerBytes (s : State) : Answer → List Byte
  | .start => startFields s
  | .done r => r
  | .refused r => be1 (reasonCode r)
  | .already g => be2 g
  | .error k => be1 (errorKindCode k)

/-- The 20 bytes shifted out for an outcome. -/
def outcomeBytes (s : State) (o : Outcome) : List Byte :=
  let head := be1 (answerCode o.answer) ++ be1 o.echo ++ padTo 17 (answerBytes s o.answer)
  head ++ [crc8 head]

/-- The result bytes of a READ EVENT that removed a record, or found none (spec/11 section 11.4). -/
def eventBytes (r : Option EventRec) (overflowed : Bool) (left : Nat) : List Byte :=
  (match r with
    | some e => be1 (eventCode e.event) ++ be4 e.time ++ padTo 11 (eventFields e.event)
    | none => List.replicate 16 0) ++
  be1 (128 * flagCode overflowed + left % 64)

end Sys2Proof.Machine
end

