-- ==== Sys2Proof/Machine/Operands.lean ====
section
/-! DEFINITION. Machine/Operands.lean: the ranges of the fields that frames and port commands carry: the
CONTENT check of the floor link (R15, R182) and the CONTENT check of the station port (R172), the
address types and roles of R5, and the availability of commands by station state (R174). -/
namespace Sys2Proof.Machine

/-! ## Ranges -/

/-- A number lies between two bounds, ends included. -/
def within (lo hi n : Nat) : Bool := lo ≤ n && n ≤ hi

/-- A station number, 1–40. -/
def stationOk (n : Nat) : Bool := within 1 40 n

/-- A temperature, −60 to +200 °C. -/
def tempOk (t : Int) : Bool := -60 ≤ t && t ≤ 200

/-- A site count, 1, 2, 4 or 8. -/
def siteCountOk (n : Nat) : Bool := n == 1 || n == 2 || n == 4 || n == 8

/-- A lot to act on: a lot id of 1 or more and a sublot index of 1–4. -/
def lotOk (lotId index : Nat) : Bool := within 1 4294967295 lotId && within 1 4 index

/-- A sublot index and count: 1–4 each, the count not below the index. -/
def sublotOk (index count : Nat) : Bool := within 1 4 index && within 1 4 count && index ≤ count

/-- A key in its scope's range (R137). -/
def keyOk : Scope → Nat → Bool
  | .lot, k => within 1 4294967295 k
  | .product, k => within 1 65535 k
  | .group, k => within 1 31 k
  | .program, k => within 1 65535 k

/-- A generation, 1–65535 (R137). -/
def generationOk (g : Nat) : Bool := within 1 65535 g

/-- The ranges of the lot record (section 3.1, R34). -/
def lotRecordOk (l : LotRecord) : Bool :=
  within 1 4294967295 l.lotId && sublotOk l.index l.count && within 1 65535 l.product &&
    within 1 65535 l.program && within 1 255 l.kit && tempOk l.temp && within 1 65535 l.quantity &&
    within 0 31 l.group && within 0 7 l.priority && stationOk l.packStation

/-- The ranges of the hold record (R137). -/
def holdRecOk (r : HoldRec) : Bool :=
  keyOk r.scope r.key && generationOk r.generation && stationOk r.origin && r.detail ≤ 16 &&
    (r.scope != .lot || r.trigger == 0)

/-- The ranges of the completion record (R182). -/
def completionOk (c : Completion) : Bool :=
  within 1 4294967295 c.lotId && sublotOk c.index c.count && within 1 65535 c.product &&
    within 1 65535 c.program && within 1 65535 c.quantity && stationOk c.packStation &&
    stationOk c.cell && within 1 255 c.passes

/-- The ranges of the release record (R182). -/
def releaseOk (r : ReleaseRec) : Bool :=
  within 1 4294967295 r.lotId && within 1 65535 r.product && within 1 4 r.count && r.yield ≤ 4096 &&
    within 1 65535 r.sequence

/-- A handler's temperature range and site count (R182). -/
def fitOk (f : HandlerFit) : Bool := tempOk f.tempMin && tempOk f.tempMax && siteCountOk f.sites

/-- The ranges of a BEACON's role block (R182). -/
def blockOk : BeaconBlock → Bool
  | .cell b r l => b ≤ 40 && r ≤ 40 && l ≤ 5
  | .handler _ c _ lo hi n _ => c ≤ 40 && tempOk lo && tempOk hi && siteCountOk n
  | .stage w z => w ≤ 64 && z ≤ 15
  | .pack n => n ≤ 32

/-- The ranges of a BEACON (R182). -/
def beaconOk (b : BeaconBody) : Bool :=
  (b.state == .learning || b.state == .active) && b.holdCount ≤ 24 && blockOk b.block

/-- The ranges of a CLEAR (R143, R182). -/
def clearOk (sc : Scope) (k g : Nat) (d : Disposition) (n : Nat) : Bool :=
  keyOk sc k && generationOk g && d != .none && (d == .resume || sc == .lot) && stationOk n

/-- The ranges of a HOLD-LIST (R151). -/
def holdListOk (total start count : Nat) (rs : List HoldRec) : Bool :=
  within 1 3 count && count == rs.length && start < 24 && start + count ≤ total && rs.all holdRecOk

/-- The ranges of a PERMIT: the idle form, or one that names a lot (spec/11 section 11.2). -/
def permitOk (p : Permit) : Bool :=
  if p.lotId = 0 then p.index == 0 && p.kit == 0 && p.temp == 0
  else lotOk p.lotId p.index && tempOk p.temp

/-- The site count S that this station holds of a handler: that of the binding part's copy, once a
BIND-REPLY or a BEACON has set it (R86), else that of the last BEACON the peer directory has heard of it
as a HANDLER (R30). A HANDLER-STATUS carries no S; that its check takes S from these, and none where
neither gives it, is the model's choice (log entry 35). -/
def siteCountOf (s : State) (handler : Nat) : Option Nat :=
  if s.cell.binding.state ≠ .none ∧ s.cell.binding.handler = handler ∧ s.cell.binding.fit.sites ≠ 0 then
    some s.cell.binding.fit.sites
  else
    match (peerAt s.peers handler).beacon with
    | some { block := .handler _ _ _ _ _ sites _, .. } => some sites
    | _ => none

/-- The site is above the site count S, where S is known. -/
def aboveSites (sites : Option Nat) (n : Nat) : Bool := sites.any (· < n)

/-- The ranges of a HANDLER-STATUS from a handler of site count S (spec/11 section 11.2, R182): the
reached temperature is in range when the valid flag is set and 0 when it is clear, and the down reason of
a site that is up, or above S, is 0. Where no S is known, the reason of a site that is not up is held to
the range of its code alone: the model's choice (log entry 35). -/
def statusOk (sites : Option Nat) (b : StatusBody) : Bool :=
  (if b.reachedValid then tempOk b.reached else b.reached == 0) &&
    siteNumbers.all fun n =>
      !(maskHas b.mask n || aboveSites sites n) || b.sites.getD (n - 1) .up == .up

/-- The CONTENT check of R15 on a payload from a source: the length and every field. A `raw` payload has
a length or a code that its kind does not allow. The down reasons of a HANDLER-STATUS are held to the S
this station holds of the source (log entry 35). -/
def contentOk (s : State) (source : Nat) : Payload → Bool
  | .beacon b => beaconOk b
  | .offer l => lotRecordOk l
  | .claim lot ix _ _ => lotOk lot ix
  | .grant lot ix c _ => lotOk lot ix && stationOk c
  | .accept lot ix _ _ => lotOk lot ix
  | .revoke lot ix _ => lotOk lot ix
  | .return_ lot ix _ => lotOk lot ix
  | .lotDone c => completionOk c
  | .doneTaken lot ix => lotOk lot ix
  | .release r => releaseOk r
  | .hold r => holdRecOk r
  | .clear sc k g d n => clearOk sc k g d n
  | .holdListReq i => i ≤ 23
  | .holdList t i n rs => holdListOk t i n rs
  | .holdListNone t i => t ≤ 24 && i ≤ 23
  | .handlerWanted k t => within 1 255 k && tempOk t
  | .handlerAvailable f _ => fitOk f
  | .reserve => true
  | .reserveReply _ _ => true
  | .bindReq _ => true
  | .bindReply _ f _ => fitOk f
  | .bindConfirm _ n => siteCountOk n
  | .unbind _ => true
  | .permit p => permitOk p
  | .handlerStatus b => statusOk (siteCountOf s source) b
  | .siteDown st r => within 1 8 st && (r == .failRun || r == .countLimit)
  | .raw _ _ => false

/-! ## The table of R5 -/

/-- The address types a kind may be sent with (R5). -/
def addrAllowed (kind : Nat) (t : AddrType) : Bool :=
  match kind with
  | 0x02 => t == .toZone || t == .toAll
  | 0x10 => t == .toZone
  | 0x01 | 0x04 | 0x08 | 0x0A | 0x0B | 0x0C => t == .toAll
  | _ => t == .toStation

/-- The role takes the kind (R5). -/
def takenBy (kind : Nat) (r : Role) : Bool :=
  match kind with
  | 0x01 | 0x0B | 0x0C | 0x0D | 0x0E | 0x0F => true
  | 0x02 | 0x04 | 0x06 | 0x09 | 0x11 | 0x13 | 0x15 | 0x19 => r == .cell
  | 0x03 | 0x05 | 0x07 => r == .stage
  | 0x08 => r == .stage || r == .pack
  | 0x10 | 0x12 | 0x14 | 0x16 | 0x18 | 0x1A => r == .handler
  | 0x17 => r == .cell || r == .handler
  | _ => false

/-- The ADDRESS check of R14. -/
def addressOk (h : Header) (p : Payload) : Bool :=
  (match h.addr.type with
    | .toStation => within 1 40 h.addr.value
    | .toAll => true
    | .toZone => h.addr.value ≤ 15
    | .type3 => false) &&
  stationOk h.source && (!kindKnown (kindCode p) || addrAllowed (kindCode p) h.addr.type)

/-- The frame is for this station (R4). A station without a valid number takes no to-station frame. -/
def forThisStation (s : State) (h : Header) : Bool :=
  match h.addr.type with
  | .toAll => true
  | .toStation => s.numberValid && h.addr.value == s.own
  | .toZone => s.start.config.zoneMask.getLsbD h.addr.value
  | .type3 => false

/-! ## The CONTENT check of the station port (R172) -/

/-- The ranges of LIMIT SET A (R112, R113). -/
def partAOk (a : LimitPartA) : Bool :=
  a.lya ≤ 4096 && a.lyf ≤ 4096 && within 1 65535 a.nMin && within 1 65535 a.nSite && a.sdl ≤ 4096 &&
    a.cf ≤ 255 && (a.good &&& a.retestable) == 0#16 && a.passes ≤ 3

/-- The used places of the bin-limit pairs of LIMIT SET B: a pair whose bin is 0 is unused (R113). -/
def usedPairs (ps : List (Nat × Nat)) : List (Nat × Nat) := ps.filter fun p => p.1 != 0

/-- No bin is named twice. -/
def binsDistinct : List (Nat × Nat) → Bool
  | [] => true
  | p :: ps => ps.all (fun q => q.1 != p.1) && binsDistinct ps

/-- The ranges of LIMIT SET B (R112, R113). -/
def partBOk (ps : List (Nat × Nat)) (jam : Nat) : Bool :=
  (usedPairs ps).all (fun p => within 2 16 p.1 && p.2 ≤ 4096) && binsDistinct (usedPairs ps) &&
    jam ≤ 255

/-- A site of the handler, 1 to its site count S. -/
def siteOk (s : State) (site : Nat) : Bool := within 1 s.start.config.siteCount site

/-- A site mask names no site above S. -/
def sitesOk (s : State) (m : SiteMask) : Bool :=
  siteNumbers.all fun n => !maskHas m n || siteOk s n

/-- The fields of a command lie in the ranges stated for them (R172). The bin of a BIN REPORT is held to
0–16 for a site out of its mask too: the model's choice (log entry 39). -/
def commandOk (s : State) : PortCommand → Bool
  | .nop => true
  | .readStatus part => part ≤ 1
  | .readDiagnostics => true
  | .readEvent => true
  | .readPeer n part => stationOk n && part ≤ 1
  | .readHold i part => i ≤ 23 && part ≤ 1
  | .placeHold sc k t => keyOk sc k && (sc != .lot || t == 0)
  | .disposition sc k g a => keyOk sc k && generationOk g && a != .none
  | .armWatch slot sc k => slot ≤ 3 && keyOk sc k
  | .disarmWatch slot => slot ≤ 3
  | .restart => true
  | .lotArrived l => lotRecordOk l
  | .lotIssued lot ix c => lotOk lot ix && stationOk c
  | .lotReturned lot ix => lotOk lot ix
  | .lotRemoved lot ix => lotOk lot ix
  | .readStage i => i ≤ 63
  | .dock n => stationOk n
  | .undock => true
  | .requestHandler k t => within 1 255 k && tempOk t
  | .unqueue lot ix => lotOk lot ix
  | .lotLoaded lot ix => lotOk lot ix
  | .binReport _ bins => bins.all (· ≤ 16)
  | .endPass => true
  | .lotUnloaded => true
  | .limitSetA a => partAOk a
  | .limitSetB _ ps jam => partBOk ps jam
  | .limitClear _ => true
  | .readLot part => part ≤ 6
  | .readQueue i part => i ≤ 3 && part ≤ 1
  | .readSighting i => i ≤ 31
  | .readSite site => within 1 8 site
  | .readOutbox i part => i ≤ 7 && part ≤ 1
  | .tempReached t => tempOk t
  | .tempLost => true
  | .unitIndexed m => sitesOk s m
  | .kitChanged k => k ≤ 255
  | .contactorReplaced site => siteOk s site
  | .contactorCount site v => siteOk s site && v ≤ 4294967295
  | .siteRestore site => siteOk s site
  | .reArm => true
  | .readHandler part => part ≤ 10
  | .packDone lot n => within 1 4294967295 lot && n ≤ 4294967295
  | .readPack i part => i ≤ 31 && part ≤ 4
  | .readRelease lot part => within 1 4294967295 lot && part ≤ 1

/-! ## Commands by station state (R174) -/

/-- When a command is taken rather than refused STATE. -/
inductive Availability where
  /-- in every station state -/
  | always
  /-- in every station state but START -/
  | notStart
  /-- in LEARNING and ACTIVE -/
  | live
  /-- in ACTIVE alone -/
  | activeOnly
  /-- RESTART: in LEARNING, ACTIVE and SILENT with cause DUP_ID (R26) -/
  | restart
deriving DecidableEq, Repr

/-- The availability of each command, by R174 and the rule that owns it. -/
def availability : PortCommand → Availability
  | .nop | .readStatus _ | .readDiagnostics | .readEvent => .always
  | .readPeer _ _ | .readHold _ _ | .placeHold _ _ _ | .armWatch _ _ _ | .disarmWatch _ => .notStart
  | .readStage _ | .readLot _ | .readQueue _ _ | .readSighting _ | .readSite _ | .readOutbox _ _
  | .readHandler _ | .readPack _ _ | .readRelease _ _ => .notStart
  | .restart => .restart
  | .lotArrived _ | .lotIssued _ _ _ | .lotReturned _ _ | .lotRemoved _ _ => .live
  | .limitSetA _ | .limitSetB _ _ _ | .limitClear _ => .live
  | .tempReached _ | .tempLost | .unitIndexed _ | .kitChanged _ | .contactorReplaced _
  | .contactorCount _ _ | .siteRestore _ | .reArm => .live
  | .dock _ | .undock | .requestHandler _ _ | .unqueue _ _ | .lotLoaded _ _ | .binReport _ _
  | .endPass | .lotUnloaded | .packDone _ _ | .disposition _ _ _ _ => .activeOnly

/-- The command is taken in the station's state (R174). -/
def available (s : State) : Availability → Bool
  | .always => true
  | .notStart => s.start.station != .start
  | .live => s.isLive
  | .activeOnly => s.isActive
  | .restart => s.isLive || (s.start.station == .silent && s.start.cause == .dupId)

/-- A command of the catalogue taken by this station's role (R172, R174). -/
def codeOk (s : State) (code : Nat) : Bool :=
  match codeGroup code with
  | .common => true
  | .role r => s.isRole r
  | .unknown => false

end Sys2Proof.Machine
end

