-- ==== Sys2Proof/Machine/Flags.lean ====
section
/-! DEFINITION. Machine/Flags.lean: the conditions and levels that are derived from the state: whether a
lot is held (R146), the hold digest (R149), the line access position (R8), the active lot's state
(R67) and its permit (R68), the INDEX-ENABLE conditions (R109), and a BEACON's payload (R28). -/
namespace Sys2Proof.Machine

/-! ## Holds (R146) -/

/-- What a block knows of a lot it asks about; a field given as unknown is absent. -/
structure LotQuery where
  lotId : Nat
  product : Option Nat
  program : Option Nat
  group : Option Nat
deriving DecidableEq, Repr

/-- The query the staging and dispatch controllers make: all four fields of the lot record. -/
def queryOf (l : LotRecord) : LotQuery :=
  { lotId := l.lotId, product := some l.product, program := some l.program, group := some l.group }

/-- A key names the lot, whatever the state of its record: a field given as unknown, and a hold group
of 0, name no lot of their scope. -/
def keyMatches (q : LotQuery) : Scope → Nat → Bool
  | .lot, k => k == q.lotId
  | .product, k => q.product == some k
  | .group, k => k != 0 && q.group == some k
  | .program, k => q.program == some k

/-- A record matches the lot (R146): it is IN_FORCE and its key names it. -/
def holdMatches (q : LotQuery) (r : HoldRec) : Bool :=
  r.state == .inForce && keyMatches q r.scope r.key

/-- The matching IN_FORCE records, in index order (R146). -/
def matchingHolds (h : HoldTable) (q : LotQuery) : List HoldRec :=
  (h.records.map StoredHold.hold).filter (holdMatches q)

/-- An IN_FORCE record matches the lot. -/
def lotMatched (h : HoldTable) (q : LotQuery) : Bool := h.records.any fun r => holdMatches q r.hold

/-- The lot is held: a record matches it or the table is in overflow (R146). -/
def lotHeld (h : HoldTable) (q : LotQuery) : Bool := h.overflow || lotMatched h q

/-- The record of a key. -/
def findHold (h : HoldTable) (sc : Scope) (key : Nat) : Option StoredHold :=
  h.records.find? fun r => r.hold.scope == sc && r.hold.key == key

/-- A record of the key is IN_FORCE. -/
def keyInForce (h : HoldTable) (sc : Scope) (key : Nat) : Bool :=
  match findHold h sc key with
  | some r => r.hold.state == .inForce
  | none => false

/-- The number of records IN_FORCE. -/
def inForceCount (rs : List StoredHold) : Nat := (rs.filter fun r => r.hold.state == .inForce).length

/-- What a record contributes to the digest: scope, key, generation and state (R149). -/
def digestBytes (r : HoldRec) : List Byte :=
  be1 (scopeCode r.scope) ++ be4 r.key ++ be2 r.generation ++ be1 (holdStateCode r.state)

/-- The digest of a hold list (R149). -/
def digestOf (rs : List StoredHold) : Nat := (crc16 (rs.flatMap fun r => digestBytes r.hold)).toNat

/-- Generation a is newer than generation b (R139). -/
def genNewer (a b : Nat) : Bool := within 1 32767 ((a + (65536 - b % 65536)) % 65536)

/-- The successor of a generation (R139). -/
def genSucc (g : Nat) : Nat := if g = 65535 then 1 else g + 1

/-! ## Line access (R8) -/

/-- The position of station s in a round counted with last sender L: ((s − L − 1) mod 40) + 1. -/
def position (s last : Nat) : Nat := (s + 79 - last) % 40 + 1

/-! ## The peer table -/

/-- The peer is a mismatching peer (R150): PRESENT, its BEACON heard, since it was last LOST if it ever was
(R153), a count or digest that differs from this station's own, and a count that is not 0. R153 says of a
peer-back that the peer counts again from its next BEACON; that the same holds of a LOST peer that returns
with a restart notice is the model's choice (log entry 52). -/
def mismatching (h : HoldTable) (e : PeerEntry) : Bool :=
  e.presence == .present && e.beaconSince &&
    match e.beacon with
    | none => false
    | some b => (b.holdCount != h.records.length || b.digest != h.digest) && b.holdCount != 0

/-! ## The cell -/

/-- The cell's load: its queue length, plus 1 if a lot is active (R59). -/
def load (c : Cell) : Nat := c.queue.length + (if c.active.isSome then 1 else 0)

/-- The claims pending (R58). -/
def claimsPending (c : Cell) : Nat :=
  (c.sightings.filter fun x => match x.state with | .pending _ _ => true | .seen => false).length

/-- G, the sum of the bin counts over the good bins (R116). -/
def goodCount (bins : List Nat) (good : Mask16) : Nat :=
  ((bins.zipIdx 1).map fun (n, b) => if maskHas good b then n else 0).sum

/-- The sum of the bin counts. -/
def binSum (bins : List Nat) : Nat := bins.sum

/-- floor(4096 × numerator / denominator), for a denominator of at least 1 (R122). -/
def q12 (numerator denominator : Nat) : Nat := 4096 * numerator / denominator

/-- The states of the active lot (R67). -/
inductive LotState where
  | setup | running | paused | held | finished
deriving DecidableEq, Repr

/-- The code of a lot state. -/
def lotStateCode : LotState → Nat
  | .setup => 0
  | .running => 1
  | .paused => 2
  | .held => 3
  | .finished => 4

/-- The active lot's state: the first row of R67's table whose condition holds. -/
def lotState (s : State) (a : ActiveLot) : LotState :=
  if a.phase = .finished then .finished
  else if a.phase = .awaiting || lotHeld s.holds (queryOf a.lot) then .held
  else if s.cell.binding.state ≠ .bound then .paused
  else if s.cell.ready then .running
  else if !a.readySeen then .setup
  else .paused

/-- The permit the dispatch controller would send now (R68). -/
def permitNow (s : State) : Permit :=
  match s.cell.active with
  | none => Permit.idle
  | some a =>
    { run := match lotState s a with
        | .setup | .running | .paused => true
        | .held | .finished => false,
      lotId := a.lot.lotId, index := a.lot.index, kit := a.lot.kit, temp := a.lot.temp }

/-- The handler the cell beacons as bound: the one of BOUND and ORPHANED (R86). -/
def beaconedHandler (b : BindingPart) : Nat :=
  match b.state with
  | .bound | .orphaned => b.handler
  | .none | .binding => 0

/-- The reserved handler, 0 for none (R74). -/
def reservedHandler : Reservation → Nat
  | .reserved n _ _ => n
  | _ => 0

/-- The handler of check 4 of R58, with the cell's copy of it: the bound handler when one is bound and
not ORPHANED, else the reserved one. A handler in BINDING, that of a rebind included, is not counted as
bound for checks 4 to 6, nor for K and M of R59, although its copy is kept: the model's choice (log entry
43). -/
def fitHandler (c : Cell) : Option HandlerFit :=
  if c.binding.state = .bound then some c.binding.fit
  else
    match c.reservation with
    | .reserved _ f _ => some f
    | _ => none

/-! ## The handler -/

/-- The contactor limit (R104). -/
def contactorLimit (c : Settings) : Option Nat :=
  if c.granularity then some (c.contactorField * 1024 + 1023)
  else if c.contactorField = 0 then none else some c.contactorField

/-- The status of site n; a site above S does not exist. -/
def siteAt (h : Handler) (n : Nat) : Site := nth1 { status := .up, counter := 0 } h.sites n

/-- The site mask: the sites 1 to S that are up (R94). -/
def siteMask (s : State) : SiteMask :=
  siteNumbers.foldl
    (fun m n => if siteOk s n && (siteAt s.handler n).status == .up then maskAdd m n else m) 0#8

/-- The down reason of each site 1 to 8 as HANDLER-STATUS carries it: `up` for a site that is up or
above S (R110). -/
def siteReasons (s : State) : List SiteStatus :=
  siteNumbers.map fun n => if siteOk s n then (siteAt s.handler n).status else .up

/-- The conditions under which INDEX-ENABLE is high (R109). -/
def indexConditions (s : State) : Bool :=
  !s.pins.inReset && s.isRole .handler && s.isActive && s.handler.rel == .bound &&
    s.handler.permit.run && s.handler.permit.lotId != 0 &&
    !keyInForce s.holds .lot s.handler.permit.lotId && !s.holds.overflow &&
    s.handler.kit == s.handler.permit.kit && s.handler.soak == .ready &&
    s.handler.target == some s.handler.permit.temp && !s.handler.jamLatch && siteMask s != 0#8

/-- The idle minutes of R79: the age of the free-since time in whole minutes, saturating at 65535. -/
def idleMinutes (s : State) : Nat := min (s.age s.handler.freeSince / 60000) 65535

/-- The handler's installed kit, temperature range and site count. -/
def ownFit (s : State) : HandlerFit :=
  { kit := s.handler.kit, tempMin := s.start.config.tempMin, tempMax := s.start.config.tempMax,
    sites := s.start.config.siteCount }

/-- The HANDLER-STATUS of the present state (R110). -/
def statusNow (s : State) : StatusBody :=
  let valid := s.handler.soak == .soaking || s.handler.soak == .ready
  { ready := indexConditions s, reachedValid := valid, jam := s.handler.jamLatch,
    soak := s.handler.soak, reached := if valid then s.handler.target.getD 0 else 0,
    mask := siteMask s, sites := siteReasons s, jamCount := s.handler.jamCount }

/-! ## Staging and pack tables -/

/-- The staging entry is held (R40). -/
def entryHeld (s : State) (e : StageEntry) : Bool := lotHeld s.holds (queryOf e.lot)

/-- The WAITING entries that are not held. -/
def offerable (s : State) : List StageEntry :=
  s.stage.entries.filter fun e => e.state == .waiting && !entryHeld s e

/-- The query the release controller makes: the completion record carries no hold group (R162). -/
def packQuery (e : PackEntry) : LotQuery :=
  { lotId := e.lotId, product := some e.product, program := some e.program, group := none }

/-- The pack entry is held (R162). -/
def packHeld (s : State) (e : PackEntry) : Bool := lotHeld s.holds (packQuery e)

/-- RELEASED or SCRAPPED, and so open to eviction (R158). -/
def packClosed (e : PackEntry) : Bool := e.state == .released || e.state == .scrapped

/-! ## BEACON (R28) -/

/-- The role block of the BEACON. -/
def roleBlock (s : State) : BeaconBlock :=
  match s.start.role with
  | .cell =>
    .cell (beaconedHandler s.cell.binding) (reservedHandler s.cell.reservation) (load s.cell)
  | .handler =>
    .handler s.handler.rel s.handler.cell s.handler.kit s.start.config.tempMin
      s.start.config.tempMax s.start.config.siteCount (siteMask s)
  | .stage => .stage (offerable s).length s.start.config.offerZone
  | .pack =>
    .pack (Config.packSize - s.pack.entries.length + (s.pack.entries.filter packClosed).length)

/-- The BEACON's payload, filled from the present state. -/
def beaconNow (s : State) : BeaconBody :=
  { state := s.start.station, zones := s.start.config.zoneMask, holdCount := s.holds.records.length,
    digest := s.holds.digest, block := roleBlock s }

end Sys2Proof.Machine
end

