-- ==== Sys2Proof/Machine/Holds.lean ====
section
/-! DEFINITION. Machine/Holds.lean: the hold table of spec/08: storing, merging, clearing and placing
records (R140 to R145), and the resync record (R150 to R153). The operations that change the set of
records in force answer, beside the state, the keys a held-state notice names (R147). -/
namespace Sys2Proof.Machine

/-- A key a held-state notice names: its record in force was added or replaced, or removed (R147). -/
structure NoticeKey where
  scope : Scope
  key : Nat
  added : Bool
deriving DecidableEq, Repr

/-! ## The list (R138, R144) -/

/-- The order of the hold list: by scope, and within a scope by key (R138). -/
def keyBefore (a b : StoredHold) : Bool :=
  scopeCode a.hold.scope < scopeCode b.hold.scope ||
    (a.hold.scope == b.hold.scope && a.hold.key < b.hold.key)

/-- The two records have one (scope, key). -/
def sameKey (a b : HoldRec) : Bool := a.scope == b.scope && a.key == b.key

/-- Sets the records of the hold list, and the digest with them (R149). -/
def setRecords (rs : List StoredHold) (s : State) : State :=
  s.setHolds { s.holds with records := rs, digest := digestOf rs }

/-- A record as it is stored now: a CLEARED one takes the present time as its time cleared (R137). -/
def stamp (r : HoldRec) (s : State) : StoredHold :=
  { hold := r, timeCleared := if r.state = .cleared then some s.clock else none }

/-- Puts a record in the place of the one of its own key. -/
def replaceRecord (r : StoredHold) (rs : List StoredHold) : List StoredHold :=
  rs.map fun x => if sameKey x.hold r.hold then r else x

/-- The CLEARED record with the earliest time cleared, the one of the lowest index among equals: the
one an eviction takes (R144). -/
def evictable (s : State) : Option StoredHold :=
  bestBy (fun a b => s.age (b.timeCleared.getD 0) < s.age (a.timeCleared.getD 0))
    (s.holds.records.filter fun r => r.hold.state == .cleared)

/-- Stores a record under a key that has none, evicting a CLEARED record from a full list; a list full
of records in force stores nothing (R144). -/
def storeNew (r : StoredHold) (s : State) : Option State :=
  if s.holds.records.length < Config.holdSize then
    some (setRecords (insertBy keyBefore r s.holds.records) s)
  else
    match evictable s with
    | some v =>
      some (setRecords
        (insertBy keyBefore r (s.holds.records.filter fun x => !sameKey x.hold v.hold)) s)
    | none => none

/-- Enters overflow, raising HOLD_OVERFLOW(ENTERED); a table already in overflow stays so (R145). -/
def enterOverflow (s : State) : State :=
  if s.holds.overflow then s
  else raise (.holdOverflow true (inForceCount s.holds.records))
        (s.setHolds { s.holds with overflow := true })

/-- Ends overflow when the records in force are 20 or fewer, raising HOLD_OVERFLOW(LEFT) (R145). -/
def leaveOverflow (s : State) : State :=
  if s.holds.overflow && inForceCount s.holds.records ≤ Config.overflowEnd then
    raise (.holdOverflow false (inForceCount s.holds.records))
      (s.setHolds { s.holds with overflow := false })
  else s

/-! ## Merging (R142) -/

/-- The received record replaces the stored one (R142): its generation is newer, or the same with the
stored record IN_FORCE and the received one CLEARED or of a lower origin. -/
def mergeReplaces (old new : HoldRec) : Bool :=
  genNewer new.generation old.generation ||
    (new.generation == old.generation && old.state == .inForce &&
      (new.state == .cleared || new.origin < old.origin))

/-- The event of a key that becomes IN_FORCE (R148). -/
def placedEvent (r : HoldRec) : Event := .holdPlaced r.scope r.key r.generation r.origin

/-- Merges a received record into the list (R142). HOLD_CLEARED comes before HOLD_OVERFLOW(LEFT) in the
event queue: the model's choice (log entry 25). -/
def mergeHold (r : HoldRec) (s : State) : State × List NoticeKey :=
  match findHold s.holds r.scope r.key with
  | none =>
    match storeNew (stamp r s) s with
    | some s1 =>
      if r.state = .inForce then
        (raise (placedEvent r) s1, [{ scope := r.scope, key := r.key, added := true }])
      else (s1, [])
    | none => (enterOverflow s, [])
  | some old =>
    if mergeReplaces old.hold r then
      let s1 := setRecords (replaceRecord (stamp r s) s.holds.records) s
      match old.hold.state, r.state with
      | .inForce, .inForce => (s1, [{ scope := r.scope, key := r.key, added := true }])
      | .inForce, .cleared =>
        (leaveOverflow (raise (.holdCleared r.scope r.key r.generation .none) s1),
          [{ scope := r.scope, key := r.key, added := false }])
      | .cleared, .inForce =>
        (raise (placedEvent r) s1, [{ scope := r.scope, key := r.key, added := true }])
      | .cleared, .cleared => (s1, [])
    else (s, [])

/-! ## Clearing (R143) -/

/-- The four outcomes of a CLEAR. -/
inductive ClearOutcome where
  | applied | tombstone | advanced | stale
deriving DecidableEq, Repr

/-- Which outcome a CLEAR of generation g has (R143). -/
def clearOutcome (h : HoldTable) (sc : Scope) (key g : Nat) : ClearOutcome :=
  match findHold h sc key with
  | none => .tombstone
  | some r =>
    if r.hold.state = .inForce then (if genNewer r.hold.generation g then .stale else .applied)
    else if r.hold.generation = g || genNewer r.hold.generation g then .stale
    else .advanced

/-- The tombstone of a CLEAR that finds no record (R143). -/
def tombstoneRec (sc : Scope) (key g station : Nat) : HoldRec :=
  { scope := sc, key := key, generation := g, state := .cleared, origin := station,
    reason := .operator, detail := 0, trigger := 0 }

/-- The stored record made CLEARED with generation g, its time cleared the present time. -/
def clearRecord (old : HoldRec) (g : Nat) (s : State) : StoredHold :=
  { hold := { old with state := .cleared, generation := g }, timeCleared := some s.clock }

/-- Applies a CLEAR to the list (R143). HOLD_CLEARED comes before HOLD_OVERFLOW(LEFT) in the event queue:
the model's choice (log entry 25). -/
def applyClear (sc : Scope) (key g : Nat) (d : Disposition) (station : Nat) (s : State) :
    State × List NoticeKey :=
  match clearOutcome s.holds sc key g, findHold s.holds sc key with
  | .applied, some r =>
    (leaveOverflow (raise (.holdCleared sc key g d)
        (setRecords (replaceRecord (clearRecord r.hold g s) s.holds.records) s)),
      [{ scope := sc, key := key, added := false }])
  | .advanced, some r =>
    (setRecords (replaceRecord (clearRecord r.hold g s) s.holds.records) s, [])
  | .tombstone, _ =>
    match storeNew (stamp (tombstoneRec sc key g station) s) s with
    | some s1 => (s1, [])
    | none => (enterOverflow s, [])
  | _, _ => (s, [])

/-! ## Placing (R140) -/

/-- What a placement comes to (R140). -/
inductive PlaceResult where
  | already (generation : Nat)
  | placed (generation : Nat) (stored : Bool)
deriving DecidableEq, Repr

/-- The record a placement makes. -/
def placedRec (s : State) (sc : Scope) (key g : Nat) (reason : HoldReason) (detail trigger : Nat) :
    HoldRec :=
  { scope := sc, key := key, generation := g, state := .inForce, origin := s.own, reason := reason,
    detail := detail, trigger := trigger }

/-- Sends HOLD to all when the station is ACTIVE, and raises HOLD_PLACED (R140). -/
def announce (r : HoldRec) (s : State) : State :=
  raise (placedEvent r) (if s.isActive then sendAll (.hold r) s else s)

/-- Places a hold in the list, before its notice (R140). HOLD_PLACED comes before HOLD_OVERFLOW(ENTERED) in
the event queue: the model's choice (log entry 25). -/
def placeCore (sc : Scope) (key : Nat) (reason : HoldReason) (detail trigger : Nat) (s : State) :
    State × PlaceResult × List NoticeKey :=
  match findHold s.holds sc key with
  | some old =>
    if old.hold.state = .inForce then (s, .already old.hold.generation, [])
    else
      let r := placedRec s sc key (genSucc old.hold.generation) reason detail trigger
      (announce r (setRecords (replaceRecord (stamp r s) s.holds.records) s),
        .placed r.generation true, [{ scope := sc, key := key, added := true }])
  | none =>
    let r := placedRec s sc key 1 reason detail trigger
    match storeNew (stamp r s) s with
    | some s1 => (announce r s1, .placed 1 true, [{ scope := sc, key := key, added := true }])
    | none => (enterOverflow (announce r s), .placed 1 false, [])

/-! ## Resync (R150 to R153) -/

/-- Sets the resync record. -/
def setResync (r : Resync) (s : State) : State := s.setHolds { s.holds with resync := r }

/-- The mismatching peer of lowest station number (R150). -/
def lowestMismatching (s : State) : Option Nat :=
  ((s.peers.table.zipIdx 1).find? fun (e, _) => mismatching s.holds e).map Prod.snd

/-- At least one beacon interval has passed since the last request (R150). -/
def spacingPassed (s : State) : Bool :=
  match s.holds.resync.lastRequest with
  | none => true
  | some t => s.beaconMs ≤ s.age t

/-- The peer and start index the next request goes to: the continuation when its peer is still a
mismatching peer, else the lowest mismatching peer from index 0 (R150). -/
def requestTarget (s : State) : Option (Nat × Nat) :=
  match s.holds.resync.continuation with
  | some (n, i) =>
    if mismatching s.holds (peerAt s.peers n) then some (n, i)
    else (lowestMismatching s).map (·, 0)
  | none => (lowestMismatching s).map (·, 0)

/-- Tests the conditions of R150 and sends HOLD-LIST-REQ when they all hold. -/
def resyncTest (s : State) : State :=
  if s.isLive && s.holds.resync.waiting.isNone && spacingPassed s then
    match requestTarget s with
    | none => s
    | some (n, i) =>
      let keep := s.holds.resync.continuation == some (n, i)
      sendTo n (.holdListReq i)
        (setResync
          { waiting := some { peer := n, next := i, total := none, timer := s.now + s.beaconMs },
            continuation := if keep then some (n, i) else none,
            lastRequest := some s.clock, spacing := none } s)
  else s

/-- The spacing timer after an event: it runs while a mismatching peer exists and the spacing alone
holds the request back (R150); once due it is left for its expiry. -/
def spacingTimer (s : State) : Option Nat :=
  if s.isLive && s.holds.resync.waiting.isNone && (lowestMismatching s).isSome then
    if spacingPassed s then s.holds.resync.spacing
    else some (s.now + (s.beaconMs - s.age (s.holds.resync.lastRequest.getD 0)))
  else none

/-- Sets the spacing timer after an event. -/
def spacingUpkeep (s : State) : State := setResync { s.holds.resync with spacing := spacingTimer s } s

/-- A request ends in IDLE, with the continuation given, and the conditions are tested (R152). -/
def endRequest (continuation : Option (Nat × Nat)) (s : State) : State :=
  resyncTest (setResync { s.holds.resync with waiting := none, continuation := continuation } s)

/-- The resync record's move on a HOLD-LIST from the peer asked (R152). -/
def resyncAdvance (source total start count : Nat) (s : State) : State :=
  match s.holds.resync.waiting with
  | some w =>
    if w.peer = source then
      let next := if start = w.next then w.next + count else w.next
      if total ≤ next then endRequest none s
      else setResync
        { s.holds.resync with
          waiting := some { w with next := next, total := some total, timer := s.now + s.beaconMs } } s
    else s
  | none => s

/-- HOLD-LIST-NONE from the peer asked completes the request (R152). -/
def resyncNone (source : Nat) (s : State) : State :=
  match s.holds.resync.waiting with
  | some w => if w.peer = source then endRequest none s else s
  | none => s

/-- The answer timer's expiry (R152). While the total is unknown no index is below it, so the continuation
is dropped, also when the request was a continuation from above 0: the model's choice (log entry 46). -/
def resyncExpiry (w : ResyncWait) (s : State) : State :=
  endRequest
    (match w.total with
      | some t => if 0 < w.next && w.next < t then some (w.peer, w.next) else none
      | none => none) s

/-- The hold table's answer to a lost or restarted peer (R153). -/
def resyncPeerGone (n : Nat) (s : State) : State :=
  setResync
    { s.holds.resync with
      waiting := match s.holds.resync.waiting with
        | some w => if w.peer = n then none else some w
        | none => none,
      continuation := match s.holds.resync.continuation with
        | some (p, i) => if p = n then none else some (p, i)
        | none => none } s

/-- The frames of an answer from an index: three records to a frame (R151). -/
def answerFrames (total : Nat) : Nat → Nat → List HoldRec → List Payload
  | 0, _, _ => []
  | fuel + 1, start, rs =>
    if rs.isEmpty then []
    else .holdList total start (rs.take 3).length (rs.take 3) ::
      answerFrames total fuel (start + 3) (rs.drop 3)

/-- The answer to a HOLD-LIST-REQ (R151), in LEARNING and ACTIVE. -/
def answerRequest (source i : Nat) (s : State) : State :=
  if !s.isLive then s
  else
    let n := s.holds.records.length
    if n ≤ i then sendTo source (.holdListNone n i) s
    else
      (answerFrames n Config.holdSize i ((s.holds.records.drop i).map StoredHold.hold)).foldl
        (fun s p => sendTo source p s) s

end Sys2Proof.Machine
end

