-- ==== Sys2Proof/Machine/Cell.lean ====
section
/-! DEFINITION. Machine/Cell.lean: the dispatch controller's sightings, claims, queue and done outbox
(spec/04 sections 4.1 to 4.5 and 4.8). -/
namespace Sys2Proof.Machine

/-! ## Sightings (R55 to R57) -/

/-- Sets the sighting table. -/
def setSightings (xs : List Sighting) (s : State) : State := s.setCell { s.cell with sightings := xs }

/-- The sighting of a lot. -/
def findSighting (s : State) (lotId index : Nat) : Option Sighting :=
  s.cell.sightings.find? fun x => isLot x.lot lotId index

/-- Removes the sighting of a lot. -/
def dropSighting (lotId index : Nat) (s : State) : State :=
  setSightings (s.cell.sightings.filter fun x => !isLot x.lot lotId index) s

/-- Changes the sighting of a lot. -/
def updateSighting (lotId index : Nat) (f : Sighting → Sighting) (s : State) : State :=
  setSightings (s.cell.sightings.map fun x => if isLot x.lot lotId index then f x else x) s

/-- The sighting is SEEN. -/
def isSeen (x : Sighting) : Bool := x.state == .seen

/-- The sighting back in SEEN: a mark is possible only in CLAIM_PENDING. -/
def Sighting.toSeen (x : Sighting) : Sighting := { x with state := .seen, marked := false }

/-- The lot is in the cell queue. -/
def inQueue (c : Cell) (lotId index : Nat) : Bool := c.queue.any fun q => isLot q.lot lotId index

/-- The lot is the active lot. -/
def isActiveLot (c : Cell) (lotId index : Nat) : Bool :=
  match c.active with
  | some a => isLot a.lot lotId index
  | none => false

/-- A sighting has aged: its last offer is 3 beacon intervals old (R57). -/
def sightingAged (s : State) (x : Sighting) : Bool := 3 * s.beaconMs ≤ s.age x.lastOffered

/-- A sighting refreshed by an OFFER: a pending claim that stands at another STAGE ends (R56). -/
def refreshSighting (source : Nat) (l : LotRecord) (s : State) (x : Sighting) : Sighting :=
  let y := if x.stage = source then x else x.toSeen
  { y with lot := l, lastOffered := s.clock, stage := source }

/-- A new SEEN sighting. Its eligibility result is made at the end of the event by R58. -/
def newSighting (source : Nat) (l : LotRecord) (s : State) : Sighting :=
  { lot := l, stage := source, firstHeard := s.clock, lastOffered := s.clock, state := .seen,
    marked := false, result := .notActive }

/-- The SEEN sighting with the oldest time last offered (R56), the first in the table among equals: the
model's choice (log entry 38). -/
def oldestSeen (s : State) : Option Sighting :=
  bestBy (fun a b => s.age b.lastOffered < s.age a.lastOffered) (s.cell.sightings.filter isSeen)

/-- Makes a sighting, in the place of the oldest SEEN one when the table is full (R56). -/
def addSighting (x : Sighting) (s : State) : State :=
  if s.cell.sightings.length < Config.sightingSize then setSightings (s.cell.sightings ++ [x]) s
  else
    match oldestSeen s with
    | some o =>
      setSightings ((s.cell.sightings.filter fun y => !isLot y.lot o.lot.lotId o.lot.index) ++ [x]) s
    | none => s

/-- An OFFER delivered to the dispatch controller: in ACTIVE, by the steps of R56; a lot the cell holds
is answered with an owned claim (R61). -/
def cellOffer (source : Nat) (l : LotRecord) (s : State) : State :=
  if !s.isActive then s
  else if isActiveLot s.cell l.lotId l.index then
    (if s.holds.overflow then s else sendTo source (.claim l.lotId l.index 255 true) s)
  else if inQueue s.cell l.lotId l.index then
    (if s.holds.overflow then s else sendTo source (.claim l.lotId l.index (load s.cell) true) s)
  else if lotMatched s.holds (queryOf l) then dropSighting l.lotId l.index s
  else if (findSighting s l.lotId l.index).isSome then
    updateSighting l.lotId l.index (refreshSighting source l s) s
  else addSighting (newSighting source l s) s

/-! ## Eligibility, score and claims (R58 to R60) -/

/-- The eligibility result of a SEEN sighting: the reason of the first check of R58 that fails. -/
def eligibility (s : State) (l : LotRecord) : Eligibility :=
  if !s.isActive then .notActive
  else if s.holds.overflow then .overflow
  else if lotMatched s.holds (queryOf l) then .held
  else if !(s.start.config.programs.isEmpty || s.start.config.programs.contains l.program) then .program
  else
    match fitHandler s.cell with
    | none => .noHandler
    | some f =>
      if !(l.kit == f.kit || s.start.config.kitChangeAllowed) then .kit
      else if !(f.tempMin ≤ l.temp && l.temp ≤ f.tempMax) then .temperature
      else if Config.outboxSize ≤ s.cell.outbox.length then .outboxFull
      else if Config.cellQueueSize ≤ s.cell.queue.length + claimsPending s.cell then .queueFull
      else .eligible

/-- K of R59: 64 for the bound handler's kit, 32 for the reserved handler's when none is bound. A handler
in BINDING is not counted as bound: the model's choice (log entry 43). -/
def scoreKit (c : Cell) (l : LotRecord) : Nat :=
  if c.binding.state = .bound then (if l.kit = c.binding.fit.kit then 64 else 0)
  else
    match c.reservation with
    | .reserved _ f _ => if l.kit = f.kit then 32 else 0
    | _ => 0

/-- M of R59: 32 when the bound handler's reached temperature is within 2 °C of the lot's. A handler in
BINDING is not counted as bound: the model's choice (log entry 43). -/
def scoreTemp (c : Cell) (l : LotRecord) : Nat :=
  if c.binding.state = .bound then
    match c.reached with
    | some t => if (l.temp - t).natAbs ≤ 2 then 32 else 0
    | none => 0
  else 0

/-- The score of R59: 128 + K + M − 24 × load. -/
def score (c : Cell) (l : LotRecord) : Nat := 128 + scoreKit c l + scoreTemp c l - 24 * load c

/-- Makes the eligibility result of every SEEN sighting again (R58). -/
def judgeSightings (s : State) : State :=
  setSightings
    (s.cell.sightings.map fun x => if isSeen x then { x with result := eligibility s x.lot } else x) s

/-- The order in which sightings are claimed (R60). -/
def claimFirst (s : State) (a b : Sighting) : Bool :=
  let sa := score s.cell a.lot
  let sb := score s.cell b.lot
  if a.lot.priority ≠ b.lot.priority then b.lot.priority < a.lot.priority
  else if sa ≠ sb then sb < sa
  else if s.age a.firstHeard ≠ s.age b.firstHeard then s.age b.firstHeard < s.age a.firstHeard
  else if a.lot.lotId ≠ b.lot.lotId then a.lot.lotId < b.lot.lotId
  else a.lot.index < b.lot.index

/-- Claims one sighting: the CLAIM is sent to its STAGE and it becomes CLAIM_PENDING (R60). -/
def claimSighting (x : Sighting) (s : State) : State :=
  let sc := score s.cell x.lot
  updateSighting x.lot.lotId x.lot.index (fun x => { x with state := .pending sc s.clock })
    (sendTo x.stage (.claim x.lot.lotId x.lot.index sc false) s)

/-- Claims the ELIGIBLE SEEN sightings one by one, the eligibility made again before each (R58, R60). -/
def claimLoop : Nat → State → State
  | 0, s => judgeSightings s
  | n + 1, s =>
    let s1 := judgeSightings s
    match bestBy (claimFirst s1) (s1.cell.sightings.filter fun x => isSeen x && x.result == .eligible) with
    | none => s1
    | some x => claimLoop n (claimSighting x s1)

/-- A pending claim ends by lapse: a marked sighting is removed, an unmarked one returns to SEEN and is
aged at once (R57, R60). -/
def lapseClaim (x : Sighting) (s : State) : State :=
  if x.marked || sightingAged s x then dropSighting x.lot.lotId x.lot.index s
  else updateSighting x.lot.lotId x.lot.index Sighting.toSeen s

/-! ## Grant and revoke (R57, R62, R63) -/

/-- Checks 1, 2 and 7 of R58, made anew at a GRANT (R62). -/
def takeChecks (s : State) (l : LotRecord) : Bool :=
  s.isActive && !s.holds.overflow && !lotMatched s.holds (queryOf l) &&
    s.cell.outbox.length < Config.outboxSize

/-- Answers a GRANT with ACCEPT to its source, echoing the granted score (R62). -/
def sendAccept (source lotId index : Nat) (a : AcceptAnswer) (sc : Nat) (s : State) : State :=
  sendTo source (.accept lotId index a sc) s

/-- A GRANT naming this cell (R62). -/
def grantHere (source lotId index sc : Nat) (s : State) : State :=
  if inQueue s.cell lotId index || isActiveLot s.cell lotId index then
    sendAccept source lotId index .take sc s
  else
    match findSighting s lotId index with
    | some x =>
      if x.stage = source then
        if isSeen x then dropSighting lotId index (sendAccept source lotId index .decline sc s)
        else if takeChecks s x.lot then
          let s1 := dropSighting lotId index (sendAccept source lotId index .take sc s)
          raise (.lotGranted lotId index source)
            (s1.setCell { s1.cell with queue := s1.cell.queue ++
              [{ lot := x.lot, stage := source, accepted := s1.clock }] })
        else dropSighting lotId index (sendAccept source lotId index .decline sc s)
      else sendAccept source lotId index .decline sc s
    | none => sendAccept source lotId index .decline sc s

/-- A GRANT naming another cell, from the sighting's STAGE: a SEEN sighting is removed, a pending one
is marked (R57). -/
def grantElsewhere (source lotId index : Nat) (s : State) : State :=
  match findSighting s lotId index with
  | some x =>
    if x.stage = source then
      (if isSeen x then dropSighting lotId index s
       else updateSighting lotId index (fun x => { x with marked := true }) s)
    else s
  | none => s

/-- A GRANT delivered to the dispatch controller, in ACTIVE. -/
def cellGrant (source lotId index cell sc : Nat) (s : State) : State :=
  if !s.isActive then s
  else if cell = s.own then grantHere source lotId index sc s
  else grantElsewhere source lotId index s

/-- A REVOKE delivered to the dispatch controller, in ACTIVE (R63). -/
def cellRevoke (source lotId index : Nat) (r : RevokeReason) (s : State) : State :=
  if !s.isActive then s
  else
    let s1 :=
      if s.cell.queue.any fun q => isLot q.lot lotId index && q.stage == source then
        raise (.lotRevoked lotId index source (some r))
          (s.setCell { s.cell with queue := s.cell.queue.filter fun q => !isLot q.lot lotId index })
      else s
    dropSighting lotId index s1

/-! ## The queue (R64, R65) -/

/-- Returns a queued lot to its STAGE because it is held, and raises LOT_LOST (R64). -/
def returnHeld (s : State) (q : QueuedLot) : State :=
  raise (.lotLost q.lot.lotId q.lot.index none)
    (sendTo q.stage (.return_ q.lot.lotId q.lot.index .held) s)

/-- A held-state notice at the sightings and the queue: sightings that a record matches are removed
(R57), and queued lots that are held are returned (R64), in queue order: the model's choice (log entry
37). -/
def cellNoticeLots (s : State) : State :=
  let s1 := setSightings (s.cell.sightings.filter fun x => !lotMatched s.holds (queryOf x.lot)) s
  let gone := s1.cell.queue.filter fun q => lotHeld s1.holds (queryOf q.lot)
  let s2 := s1.setCell { s1.cell with
    queue := s1.cell.queue.filter fun q => !lotHeld s1.holds (queryOf q.lot) }
  gone.foldl returnHeld s2

/-- UNQUEUE (R65). -/
def unqueue (lotId index : Nat) (s : State) : State × Answer :=
  match s.cell.queue.find? fun q => isLot q.lot lotId index with
  | none => (s, .refused .notQueued)
  | some q =>
    let s1 := sendTo q.stage (.return_ lotId index .operator) s
    let queue := s1.cell.queue.filter fun q => !isLot q.lot lotId index
    (s1.setCell { s1.cell with queue := queue }, .done (be1 queue.length))

/-! ## The done outbox (R70, R72, R73) -/

/-- Sets the outbox. -/
def setOutbox (xs : List OutboxRecord) (s : State) : State := s.setCell { s.cell with outbox := xs }

/-- The record is of the lot. -/
def isRecordOf (c : Completion) (lotId index : Nat) : Bool := c.lotId == lotId && c.index == index

/-- The outbox has a record of the lot. -/
def outboxHas (c : Cell) (lotId index : Nat) : Bool :=
  c.outbox.any fun r => isRecordOf r.record lotId index

/-- The outbox has a place for a record of the lot: one to replace, or fewer than 8 records (R70). -/
def outboxPlace (c : Cell) (lotId index : Nat) : Bool :=
  outboxHas c lotId index || c.outbox.length < Config.outboxSize

/-- A record enters the outbox: in the place, and with the mark, of the record of its lot, else at the
end; a record that enters an empty outbox starts the delivery timer to expire at once (R70, R73). -/
def enterOutbox (c : Completion) (s : State) : State :=
  if outboxHas s.cell c.lotId c.index then
    setOutbox (s.cell.outbox.map fun r =>
      if isRecordOf r.record c.lotId c.index then { r with record := c, sent := 0 } else r) s
  else
    let s1 := if s.cell.outbox.isEmpty then s.setCell { s.cell with deliveryTimer := s.after 0 } else s
    setOutbox (s1.cell.outbox ++ [{ record := c, sent := 0, mark := false }]) s1

/-- Sends the LOT-DONE of the record at a place of the outbox, counting it (R72, R73). -/
def sendLotDone (i : Nat) (s : State) : State :=
  match s.cell.outbox[i]? with
  | none => s
  | some r =>
    let s1 := sendAll (.lotDone r.record) s
    setOutbox (modifyAt (fun r => { r with sent := min (r.sent + 1) 255 }) i s1.cell.outbox) s1

/-- The place of the second send of an expiry: the record after the marked one, wrapping from the
newest to the second-oldest, or the second-oldest when none is marked (R73). -/
def secondSend (xs : List OutboxRecord) : Nat :=
  match xs.findIdx? OutboxRecord.mark with
  | some i => if i + 1 < xs.length then i + 1 else 1
  | none => 1

/-- The outbox with the delivery mark on the record at a place alone. -/
def markAt (i : Nat) (xs : List OutboxRecord) : List OutboxRecord :=
  xs.zipIdx.map fun (r, j) => { r with mark := i == j }

/-- The delivery timer's expiry (R73). -/
def deliveryExpiry (s : State) : State :=
  let s1 := sendLotDone 0 s
  let s2 :=
    if 2 ≤ s1.cell.outbox.length then
      let j := secondSend s1.cell.outbox
      let s3 := sendLotDone j s1
      setOutbox (markAt j s3.cell.outbox) s3
    else s1
  s2.setCell { s2.cell with deliveryTimer := s2.after s2.beaconMs }

/-- The outbox without the record at a place: when it carried the delivery mark, the mark passes to the
record made just before it, or is dropped (R73). -/
def takeRecord (i : Nat) (xs : List OutboxRecord) : List OutboxRecord :=
  match xs[i]? with
  | none => xs
  | some r =>
    let ys := xs.eraseIdx i
    if r.mark then (if i = 0 then ys else markAt (i - 1) ys) else ys

/-- A completion record waiting in the active slot enters the outbox when a place is free (R70). -/
def admitWaiting (s : State) : State :=
  match s.cell.active with
  | some a =>
    match a.waiting with
    | some c =>
      if s.cell.outbox.length < Config.outboxSize then
        enterOutbox c (s.setCell { s.cell with active := some { a with waiting := none } })
      else s
    | none => s
  | none => s

/-- A DONE-TAKEN delivered in ACTIVE, from the pack station the record names (R73). -/
def cellDoneTaken (source lotId index : Nat) (s : State) : State :=
  if !s.isActive then s
  else
    match s.cell.outbox.findIdx? fun r =>
        isRecordOf r.record lotId index && r.record.packStation == source with
    | none => s
    | some i =>
      let s1 := setOutbox (takeRecord i s.cell.outbox) s
      let s2 := if s1.cell.outbox.isEmpty then s1.setCell { s1.cell with deliveryTimer := none } else s1
      admitWaiting s2

end Sys2Proof.Machine
end

