-- ==== Sys2Proof/Machine/CellHandler.lean ====
section
/-! DEFINITION. Machine/CellHandler.lean: the cell's handler relation: finding and reserving a handler
(spec/04 section 4.9) and the binding part (spec/05 section 5.4). -/
namespace Sys2Proof.Machine

/-! ## Finding a handler (R74 to R77) -/

/-- Sets the reservation part. -/
def setReservation (r : Reservation) (s : State) : State := s.setCell { s.cell with reservation := r }

/-- The zones HANDLER-WANTED goes to: the cell's zones, lowest first, at most 4 (R75). -/
def wantedZones (m : Mask16) : List Nat := ((List.range 16).filter m.getLsbD).take 4

/-- Sends HANDLER-WANTED for a kit and temperature: a frame per zone and a reply window, or NO_HANDLER
at once for an empty zone mask; the spacing of 6 intervals starts in either case (R75). -/
def sendWanted (kit : Nat) (temp : Int) (s : State) : State :=
  let zones := wantedZones s.start.config.zoneMask
  let s1 := s.setCell { s.cell with wantedSpacing := s.after (6 * s.beaconMs) }
  if zones.isEmpty then raise (.noHandler kit temp) s1
  else
    setReservation (.collecting kit temp [] (s.after s.start.config.contestWindow))
      (zones.foldl (fun s z => sendZone z (.handlerWanted kit temp) s) s1)

/-- The sighting calls for a handler: it stays ineligible at check 4, 5 or 6 (R75). -/
def callsForHandler (x : Sighting) : Bool :=
  x.result == .noHandler || x.result == .kit || x.result == .temperature

/-- The order in which HANDLER-WANTED takes its sighting (R75). -/
def wantedFirst (s : State) (a b : Sighting) : Bool :=
  if a.lot.priority ≠ b.lot.priority then b.lot.priority < a.lot.priority
  else if s.age a.firstHeard ≠ s.age b.firstHeard then s.age b.firstHeard < s.age a.firstHeard
  else if a.lot.lotId ≠ b.lot.lotId then a.lot.lotId < b.lot.lotId
  else a.lot.index < b.lot.index

/-- At least 6 beacon intervals have passed since the last HANDLER-WANTED, or none has been sent (R75). -/
def wantedSpaced (s : State) : Bool :=
  match s.cell.wantedSpacing with
  | none => true
  | some d => d ≤ s.now

/-- Tests the conditions of R75 and sends HANDLER-WANTED when they all hold. -/
def wantedTest (s : State) : State :=
  if s.isActive && s.cell.reservation == .none && wantedSpaced s &&
      (s.cell.binding.state == .none || s.cell.idleElapsed) then
    match bestBy (wantedFirst s) (s.cell.sightings.filter callsForHandler) with
    | some x => sendWanted x.lot.kit x.lot.temp s
    | none => s
  else s

/-- REQUEST HANDLER, in ACTIVE (R75). -/
def requestHandler (kit : Nat) (temp : Int) (s : State) : State × Answer :=
  match s.cell.reservation with
  | .collecting _ _ _ _ | .reserving _ _ _ _ _ => (s, .refused .busy)
  | .reserved _ _ _ => (s, .refused .reserved)
  | .none => (sendWanted kit temp s, .done [])

/-- The order of the candidate list: most idle minutes first, then lowest station number (R76). -/
def candidateBefore (a b : Candidate) : Bool :=
  b.idle < a.idle || (a.idle == b.idle && a.handler < b.handler)

/-- A candidate list without a handler. -/
def dropCandidate (n : Nat) (cs : List Candidate) : List Candidate := cs.filter fun c => c.handler != n

/-- The candidate list with a reply: a handler's second reply replaces its first, and of five the last
in the order is left out (R76). -/
def joinCandidates (c : Candidate) (cs : List Candidate) : List Candidate :=
  (insertBy candidateBefore c (dropCandidate c.handler cs)).take Config.candidateSize

/-- A HANDLER-AVAILABLE, taken while COLLECTING (R76). -/
def cellAvailable (source : Nat) (f : HandlerFit) (idle : Nat) (s : State) : State :=
  match s.cell.reservation with
  | .collecting k t cs tm =>
    setReservation (.collecting k t (joinCandidates { handler := source, fit := f, idle := idle } cs) tm) s
  | _ => s

/-- RESERVE goes to the first candidate, or NO_HANDLER is raised and the part returns to NONE (R76,
R77). -/
def tryCandidates (kit : Nat) (temp : Int) (cs : List Candidate) (s : State) : State :=
  match cs with
  | [] => raise (.noHandler kit temp) (setReservation .none s)
  | c :: _ =>
    setReservation (.reserving kit temp c.handler cs (s.after s.start.config.bindTimeout))
      (sendTo c.handler .reserve s)

/-- The candidate being tried is out, as by a BUSY reply (R77). -/
def candidateOut (s : State) : State :=
  match s.cell.reservation with
  | .reserving k t n cs _ => tryCandidates k t (dropCandidate n cs) s
  | _ => s

/-- A RESERVE-REPLY (R77). -/
def cellReserveReply (source : Nat) (r : ReserveResult) (minutes : Nat) (s : State) : State :=
  match s.cell.reservation with
  | .reserving _ _ n cs _ =>
    if n = source then
      match r, cs.find? (fun c => c.handler == n) with
      | .ok, some c =>
        raise (.handlerReserved n)
          (setReservation (.reserved n c.fit (s.after (minutes * 60000))) s)
      | _, _ => candidateOut s
    else s
  | .reserved n _ _ =>
    if n = source && r == .lapsed then raise (.reservationLapsed n) (setReservation .none s) else s
  | _ => s

/-- The reservation part when a peer is lost or restarts (R76, R77): a candidate is removed, and a
restarted reserved handler ends the reservation. -/
def reservationPeerGone (n : Nat) (restarted : Bool) (s : State) : State :=
  match s.cell.reservation with
  | .collecting k t cs tm => setReservation (.collecting k t (dropCandidate n cs) tm) s
  | .reserving k t m cs tm =>
    if m = n then candidateOut s else setReservation (.reserving k t m (dropCandidate n cs) tm) s
  | .reserved m _ _ => if m = n && restarted then setReservation .none s else s
  | .none => s

/-! ## The binding part (R86 to R93) -/

/-- Sets the binding part. -/
def setBinding (b : BindingPart) (s : State) : State := s.setCell { s.cell with binding := b }

/-- The binding part becomes NONE: the ready copy, the reached temperature, the effective site mask,
the down-requested marks and the permit timer go with it (R67, R68, R111, R117). -/
def dropBinding (s : State) : State :=
  s.setCell { s.cell with
    binding := BindingPart.none, ready := false, reached := none, mask := 0,
    marks := List.replicate 8 SiteStatus.up, permitTimer := none }

/-- The binding part leaves BOUND for another state that keeps the handler: the ready copy is not ready
and the permit timer stops (R67, R68). -/
def leaveBound (b : BindingPart) (s : State) : State :=
  s.setCell { s.cell with binding := b, ready := false, permitTimer := none }

/-- A rebind of the present handler: BIND-REQ with expected kit 0, BINDING with the previous state
given (R92, R93). -/
def rebind (prev : BindState) (s : State) : State :=
  leaveBound { s.cell.binding with
      state := .binding, prev := prev, first := false, timer := s.after s.start.config.bindTimeout }
    (sendTo s.cell.binding.handler (.bindReq 0) s)

/-- The kit DOCK expects: that of a reservation on the same handler, else 0 (R87). -/
def expectedKit (c : Cell) (n : Nat) : Nat :=
  match c.reservation with
  | .reserved m f _ => if m = n then f.kit else 0
  | _ => 0

/-- DOCK, in ACTIVE (R87). The copy of the handler is zeros until a BIND-REPLY or a BEACON gives it: the
model's choice (log entry 40). The cell's own number is refused CONTENT also in BINDING, BOUND and ORPHANED,
where R87 gives BUSY or HANDLER_PRESENT too and neither the precedence: the model's choice (log entry 51). -/
def dock (n : Nat) (s : State) : State × Answer :=
  if n = s.own then (s, .refused .content)
  else
    match s.cell.binding.state with
    | .bound | .orphaned => (s, .refused .handlerPresent)
    | .binding => (s, .refused .busy)
    | .none =>
      (setBinding { state := .binding, handler := n, fit := HandlerFit.none, mask := 0,
                    timer := s.after s.start.config.bindTimeout, prev := .none, first := true }
        (sendTo n (.bindReq (expectedKit s.cell n)) s), .done [])

/-- The reservation part is settled when the binding part becomes BOUND (R88): a reservation on this
handler becomes the binding, one on another is cancelled. -/
def settleReservation (n : Nat) (s : State) : State :=
  match s.cell.reservation with
  | .reserved m _ _ =>
    if m = n then setReservation .none s
    else setReservation .none (sendTo m (.unbind .cancel) s)
  | _ => s

/-- A BIND-REPLY(OK) from the handler being bound (R88). -/
def bindOk (n : Nat) (f : HandlerFit) (m : SiteMask) (s : State) : State :=
  let s1 := sendTo n (.bindConfirm f.kit f.sites) s
  let s2 := s1.setCell { s1.cell with
    binding := { state := .bound, handler := n, fit := f, mask := m, timer := none, prev := .none,
                 first := false },
    ready := false, permitTimer := s1.after s1.beaconMs }
  settleReservation n (raise (.bound n) s2)

/-- A BIND-REPLY, taken in BINDING from the handler being bound (R88). -/
def cellBindReply (source : Nat) (r : BindResult) (f : HandlerFit) (m : SiteMask) (s : State) : State :=
  if s.cell.binding.state = .binding ∧ s.cell.binding.handler = source then
    match r with
    | .ok => bindOk source f m s
    | .busy | .mismatch =>
      if s.cell.binding.first then
        raise (.cellBindFailed source (bindResultCode r) f.kit) (dropBinding s)
      else raise (.unbound source unboundTimeout) (dropBinding s)
  else s

/-- The cell's bind timer expires in BINDING (R89). -/
def cellBindExpiry (s : State) : State :=
  let b := s.cell.binding
  let s1 := sendTo b.handler (.unbind .timeout) s
  if b.first then raise (.cellBindFailed b.handler bindFailedTimeout 0) (dropBinding s1)
  else
    s1.setCell { s1.cell with
      binding := { b with state := b.prev, timer := none, prev := .none },
      ready := false, permitTimer := if b.prev = .bound then s1.after s1.beaconMs else none }

/-- UNDOCK, in ACTIVE (R90). -/
def undock (s : State) : State × Answer :=
  match s.cell.binding.state with
  | .none => (s, .refused .notBound)
  | .binding | .bound | .orphaned =>
    let n := s.cell.binding.handler
    let s1 := raise (.unbound n unboundUndock) (dropBinding (sendTo n (.unbind .undock) s))
    (match s1.cell.reservation with
      | .reserved m _ _ => if m = n then setReservation .none s1 else s1
      | _ => s1, .done [])

/-- An UNBIND from the handler of the binding part (R91). -/
def cellUnbind (source : Nat) (r : UnbindReason) (s : State) : State :=
  if s.cell.binding.handler = source then
    match s.cell.binding.state with
    | .bound | .orphaned => raise (.unbound source (unbindReasonCode r)) (dropBinding s)
    | .binding =>
      if s.cell.binding.first then
        raise (.cellBindFailed source bindFailedTimeout 0) (dropBinding s)
      else dropBinding s
    | .none => s
  else s

/-- The binding part when a peer restarts (R92). -/
def bindingPeerRestart (n : Nat) (s : State) : State :=
  if s.cell.binding.handler = n then
    match s.cell.binding.state with
    | .binding =>
      if s.cell.binding.first then
        raise (.cellBindFailed n bindFailedRestart 0) (dropBinding s)
      else raise (.unbound n unboundRestart) (dropBinding s)
    | .bound | .orphaned => raise (.unbound n unboundRestart) (dropBinding s)
    | .none => s
  else s

/-- The binding part when a peer is lost (R92). -/
def bindingPeerLost (n : Nat) (s : State) : State :=
  if s.cell.binding.handler = n ∧ s.cell.binding.state = .bound then
    leaveBound { s.cell.binding with state := .orphaned } s
  else s

/-- The binding part when a peer comes back (R92). -/
def bindingPeerBack (n : Nat) (s : State) : State :=
  if s.cell.binding.handler = n ∧ s.cell.binding.state = .orphaned then rebind .orphaned s else s

/-- A BEACON's role block agrees with a binding to this cell (R93). -/
def beaconAgrees (own : Nat) : BeaconBlock → Bool
  | .handler st c _ _ _ _ _ => (st == .binding || st == .bound || st == .orphaned) && c == own
  | _ => false

/-- The copies of a handler's kit, range, site count and site mask take those of its BEACON (R58,
R86). -/
def refreshCopies (source : Nat) (b : BeaconBlock) (s : State) : State :=
  match b with
  | .handler _ _ k lo hi n m =>
    let f : HandlerFit := { kit := k, tempMin := lo, tempMax := hi, sites := n }
    let s1 :=
      if s.cell.binding.state ≠ .none ∧ s.cell.binding.handler = source then
        setBinding { s.cell.binding with fit := f, mask := m } s
      else s
    match s1.cell.reservation with
    | .reserved h _ d => if h = source then setReservation (.reserved h f d) s1 else s1
    | _ => s1
  | _ => s

/-- A BEACON at the dispatch controller: the copies are refreshed, and the binding is checked (R86,
R93). Nothing is sent outside ACTIVE. -/
def cellBeacon (source : Nat) (b : BeaconBlock) (s : State) : State :=
  let s1 := refreshCopies source b s
  if s1.isActive ∧ s1.cell.binding.handler = source then
    match s1.cell.binding.state with
    | .bound => if beaconAgrees s1.own b then s1 else rebind .bound s1
    | .orphaned => rebind .orphaned s1
    | .none | .binding => s1
  else s1

end Sys2Proof.Machine
end

