-- ==== Sys2Proof/Machine/Staging.lean ====
section
/-! DEFINITION. Machine/Staging.lean: the staging controller of spec/03: the four lot commands, the
offers, the contest and its cascade, returns and retirement, and what a held-state notice, a
disposition and a lost or restarted peer do to the staging table. -/
namespace Sys2Proof.Machine

/-! ## The table (R35) -/

/-- The entry of a lot. -/
def findEntry (s : State) (lotId index : Nat) : Option StageEntry :=
  s.stage.entries.find? fun e => isLot e.lot lotId index

/-- Changes the entry of a lot. -/
def updateEntry (lotId index : Nat) (f : StageEntry → StageEntry) (s : State) : State :=
  s.setStage { s.stage with
    entries := s.stage.entries.map fun e => if isLot e.lot lotId index then f e else e }

/-- Deletes the entry of a lot. -/
def deleteEntry (lotId index : Nat) (s : State) : State :=
  s.setStage { s.stage with entries := s.stage.entries.filter fun e => !isLot e.lot lotId index }

/-- An entry back in WAITING: no cell, no claims, no timer. -/
def StageEntry.toWaiting (e : StageEntry) : StageEntry :=
  { e with state := .waiting, claims := [], window := none, accept := none }

/-- An entry with a cell at the end of its exclusion list, the oldest dropped from a full one (R50). -/
def StageEntry.exclude (e : StageEntry) (cell : Nat) : StageEntry :=
  { e with excluded :=
      (if e.excluded.length < Config.exclusionSize then e.excluded else e.excluded.drop 1) ++ [cell] }

/-- Sends REVOKE for a lot to a cell and raises LOT_REVOKED with the cell answered. -/
def revoke (lotId index cell : Nat) (r : RevokeReason) (s : State) : State :=
  raise (.lotRevoked lotId index cell none) (sendTo cell (.revoke lotId index r) s)

/-! ## Commands from the rack terminal -/

/-- LOT ARRIVED (R36). A lot already present that finds the table full is refused DUPLICATE: the model's
choice (log entry 36). -/
def lotArrived (l : LotRecord) (s : State) : State × Answer :=
  if (findEntry s l.lotId l.index).isSome then (s, .refused .duplicate)
  else if Config.stageSize ≤ s.stage.entries.length then (s, .refused .full)
  else
    (s.setStage { s.stage with entries := s.stage.entries ++
        [{ lot := l, arrived := s.clock, state := .waiting, claims := [], excluded := [],
           returnPending := false, window := none, accept := none }] },
      .done (be1 (s.stage.entries.length + 1)))

/-- LOT ISSUED (R37). -/
def lotIssued (lotId index cell : Nat) (s : State) : State × Answer :=
  match findEntry s lotId index with
  | none => (s, .refused .unknown)
  | some e =>
    match e.state with
    | .claimed c =>
      if c = cell then
        (updateEntry lotId index (fun e => { e with state := .issued cell }) s, .done [])
      else (s, .refused .wrongCell)
    | _ => (s, .refused .state)

/-- LOT RETURNED (R38). -/
def lotReturned (lotId index : Nat) (s : State) : State × Answer :=
  match findEntry s lotId index with
  | none => (s, .refused .unknown)
  | some e =>
    match e.state with
    | .issued _ =>
      (updateEntry lotId index
        (fun e => { e.toWaiting with excluded := [], returnPending := false }) s, .done [])
    | _ => (s, .refused .state)

/-- Deletes an entry as LOT REMOVED does: a cell named by GRANTED or CLAIMED is revoked (R39). -/
def removeEntry (e : StageEntry) (s : State) : State :=
  let s1 := deleteEntry e.lot.lotId e.lot.index s
  match e.state with
  | .granted c _ | .claimed c => revoke e.lot.lotId e.lot.index c .conflict s1
  | .waiting | .contest | .issued _ => s1

/-- LOT REMOVED (R39). -/
def lotRemoved (lotId index : Nat) (s : State) : State × Answer :=
  match findEntry s lotId index with
  | none => (s, .refused .unknown)
  | some e => (removeEntry e s, .done [])

/-! ## Offers (R43) -/

/-- The order of the offers: highest priority, then earliest arrival time; equals keep their arrival
order. -/
def offerBefore (s : State) (a b : StageEntry) : Bool :=
  b.lot.priority < a.lot.priority ||
    (a.lot.priority == b.lot.priority && s.age b.arrived < s.age a.arrived)

/-- The entries offered at an expiry, at most 8. -/
def offers (s : State) : List StageEntry := (sortBy (offerBefore s) (offerable s)).take 8

/-- Sends one OFFER: to the configured zone, or to all when it is 0. -/
def sendOffer (s : State) (e : StageEntry) : State :=
  if s.start.config.offerZone = 0 then sendAll (.offer e.lot) s
  else sendZone s.start.config.offerZone (.offer e.lot) s

/-- The offer timer's expiry. -/
def offerExpiry (s : State) : State :=
  let s1 := (offers s).foldl sendOffer s
  s1.setStage { s1.stage with offerTimer := s1.after s1.beaconMs }

/-! ## The contest (R44 to R51) -/

/-- The better of two claims: the higher score, and among equals the lower station number (R48). -/
def claimBetter (a b : Claim) : Bool := b.score < a.score || (a.score == b.score && a.cell < b.cell)

/-- The worse of two claims: the lower score, and among equals the higher station number (R46). -/
def claimWorse (a b : Claim) : Bool := a.score < b.score || (a.score == b.score && b.cell < a.cell)

/-- A claim list without the claim of a cell. -/
def dropClaim (cell : Nat) (cs : List Claim) : List Claim := cs.filter fun c => c.cell != cell

/-- A claim taken for a CONTEST entry: it replaces its cell's claim, joins a list of fewer than 8, or
replaces the lowest claim when its score is strictly greater (R45, R46). -/
def joinClaims (c : Claim) (cs : List Claim) : List Claim :=
  if cs.any fun x => x.cell == c.cell then cs.map fun x => if x.cell == c.cell then c else x
  else if cs.length < Config.claimSize then cs ++ [c]
  else
    match bestBy claimWorse cs with
    | some w => if w.score < c.score then dropClaim w.cell cs ++ [c] else cs
    | none => cs

/-- A CLAIM with OWNED clear (R44, R45). -/
def claimOpen (lotId index cell score : Nat) (s : State) : State :=
  match findEntry s lotId index with
  | none => s
  | some e =>
    if e.excluded.contains cell || entryHeld s e then s
    else
      match e.state with
      | .waiting =>
        updateEntry lotId index
          (fun e => { e with state := .contest,
                             claims := [{ cell := cell, score := score, owned := false }],
                             window := s.after s.start.config.contestWindow }) s
      | .contest =>
        updateEntry lotId index
          (fun e => { e with
            claims := joinClaims { cell := cell, score := score, owned := false } e.claims }) s
      | .granted _ _ | .claimed _ | .issued _ => s

/-- The entry taken for the cell of an owned claim (R47): ISSUED on a score of 255, else CLAIMED, which
raises LOT_GRANTED. -/
def takeOwned (lotId index cell score : Nat) (s : State) : State :=
  if score = 255 then
    updateEntry lotId index (fun e => { e.toWaiting with state := .issued cell }) s
  else
    raise (.lotGranted lotId index cell)
      (updateEntry lotId index (fun e => { e.toWaiting with state := .claimed cell }) s)

/-- A CLAIM with OWNED set (R47). -/
def claimOwned (lotId index cell score : Nat) (s : State) : State :=
  match findEntry s lotId index with
  | none => s
  | some e =>
    match e.state with
    | .waiting | .contest =>
      if entryHeld s e && score != 255 then revoke lotId index cell .held s
      else takeOwned lotId index cell score s
    | .granted c _ =>
      if c = cell then takeOwned lotId index cell score s else revoke lotId index cell .conflict s
    | .claimed c =>
      if c = cell then
        (if score = 255 then
          updateEntry lotId index (fun e => { e with state := .issued cell }) s else s)
      else revoke lotId index cell .conflict s
    | .issued c => if c = cell then s else revoke lotId index cell .conflict s

/-- A CLAIM delivered to the staging controller: taken in ACTIVE, discarded in LEARNING (R23, R44). -/
def stageClaim (source lotId index score : Nat) (owned : Bool) (s : State) : State :=
  if !s.isActive then s
  else if owned then claimOwned lotId index source score s
  else claimOpen lotId index source score s

/-- Grants the best claim of the entry's list, or returns the entry to WAITING when it is empty (R48,
R50). -/
def grantBest (lotId index : Nat) (s : State) : State :=
  match findEntry s lotId index with
  | none => s
  | some e =>
    match bestBy claimBetter e.claims with
    | none => updateEntry lotId index StageEntry.toWaiting s
    | some c =>
      sendAll (.grant lotId index c.cell c.score)
        (updateEntry lotId index
          (fun e => { e with state := .granted c.cell c.score, claims := dropClaim c.cell e.claims,
                             window := none, accept := s.after s.start.config.acceptTimeout }) s)

/-- A grant ends: the grantee is excluded when the rule says so, and the cascade grants the best claim
left or returns the entry to WAITING (R50). -/
def endGrant (lotId index grantee : Nat) (excluded : Bool) (s : State) : State :=
  grantBest lotId index
    (if excluded then updateEntry lotId index (·.exclude grantee) s else s)

/-- An ACCEPT that R49 and R50 do not take (R51). -/
def answerAccept (lotId index source : Nat) (s : State) : State :=
  match findEntry s lotId index with
  | none => revoke lotId index source .conflict s
  | some e =>
    match e.state with
    | .granted _ _ => revoke lotId index source .conflict s
    | .claimed c | .issued c =>
      if c = source then s else revoke lotId index source .conflict s
    | .waiting | .contest =>
      revoke lotId index source (if entryHeld s e then .held else .conflict) s

/-- An ACCEPT delivered to the staging controller (R49 to R51). -/
def stageAccept (source lotId index : Nat) (answer : AcceptAnswer) (score : Nat) (s : State) : State :=
  if !s.isActive then s
  else
    match (findEntry s lotId index).map StageEntry.state with
    | some (.granted c sc) =>
      if c = source then
        if sc = score then
          match answer with
          | .take =>
            raise (.lotGranted lotId index source)
              (updateEntry lotId index (fun e => { e.toWaiting with state := .claimed source }) s)
          | .decline => endGrant lotId index source true s
        else s
      else answerAccept lotId index source s
    | _ => answerAccept lotId index source s

/-! ## Returns and retirement (R52, R53) -/

/-- A RETURN delivered to the staging controller (R52). -/
def stageReturn (source lotId index : Nat) (reason : ReturnReason) (s : State) : State :=
  if !s.isActive then s
  else
    match findEntry s lotId index with
    | none => s
    | some e =>
      match e.state with
      | .claimed c =>
        if c = source then
          raise (.lotLost lotId index (some source))
            (updateEntry lotId index
              (fun e => if reason = .operator then e.toWaiting.exclude source else e.toWaiting) s)
        else s
      | .granted c _ =>
        if c = source then endGrant lotId index source (reason == .operator) s else s
      | .issued c =>
        if c = source then
          let s1 := updateEntry lotId index (fun e => { e with returnPending := true }) s
          if e.returnPending then s1 else raise (.lotLost lotId index (some source)) s1
        else s
      | .waiting | .contest => s

/-- A LOT-DONE delivered to the staging controller, in LEARNING and ACTIVE (R53). -/
def stageLotDone (c : Completion) (s : State) : State :=
  if !s.isLive then s
  else
    match (findEntry s c.lotId c.index).map StageEntry.state with
    | some (.issued n) =>
      if n = c.cell then
        raise (.stageFinished c.lotId c.index c.cell) (deleteEntry c.lotId c.index s)
      else s
    | _ => s

/-- A CLEAR with disposition SCRAP of a LOT key deletes every entry of the lot id, as LOT REMOVED does
(R53), in arrival order: the model's choice (log entry 37). -/
def stageHandoff (sc : Scope) (key : Nat) (d : Disposition) (s : State) : State :=
  if s.isLive && sc == .lot && d == .scrap then
    (s.stage.entries.filter fun e => e.lot.lotId == key).foldl (fun s e => removeEntry e s) s
  else s

/-! ## Held entries (R41) -/

/-- What R41 does to one entry that is held. -/
def holdEntry (s : State) (e : StageEntry) : State :=
  match e.state with
  | .waiting | .issued _ => s
  | .contest => updateEntry e.lot.lotId e.lot.index StageEntry.toWaiting s
  | .granted c _ | .claimed c =>
    revoke e.lot.lotId e.lot.index c .held (updateEntry e.lot.lotId e.lot.index StageEntry.toWaiting s)

/-- The staging controller's answer to a held-state notice: every entry that is held is handled by
R41, in arrival order: the model's choice (log entry 37). -/
def stageNotice (s : State) : State :=
  (s.stage.entries.filter (entryHeld s)).foldl holdEntry s

/-! ## Peers lost and restarted (R54) -/

/-- What R54 does to one entry when a peer is lost, or restarted. -/
def peerGoneEntry (n : Nat) (restarted : Bool) (s : State) (e : StageEntry) : State :=
  let lotId := e.lot.lotId
  let index := e.lot.index
  let drop := updateEntry lotId index (fun e => { e with claims := dropClaim n e.claims })
  match e.state with
  | .contest => drop s
  | .granted c _ => if c = n then endGrant lotId index n true s else drop s
  | .claimed c =>
    if c = n && restarted then
      raise (.lotLost lotId index (some n)) (updateEntry lotId index StageEntry.toWaiting s)
    else s
  | .waiting | .issued _ => s

/-- The staging controller's answer to a peer-lost or restart notice (R54), entry by entry in arrival
order: the model's choice (log entry 37). -/
def stagePeerGone (n : Nat) (restarted : Bool) (s : State) : State :=
  s.stage.entries.foldl (peerGoneEntry n restarted) s

end Sys2Proof.Machine
end

