-- ==== Sys2Proof/Machine/Notices.lean ====
section
/-! DEFINITION. Machine/Notices.lean: the held-state notice of R147 as each role block answers it, and
the placement of a hold with its notice (R140). -/
namespace Sys2Proof.Machine

/-- The bit of a reason in a reasons word (R181). -/
def reasonBit (r : HoldReason) : Mask16 := BitVec.twoPow 16 (holdReasonCode r)

/-- The reasons word of a list of records. -/
def reasonsOf (rs : List HoldRec) : Mask16 := rs.foldl (fun m r => m ||| reasonBit r.reason) 0#16

/-- Changes the active lot, when there is one. -/
def updateActive (f : ActiveLot → ActiveLot) (s : State) : State :=
  s.setCell { s.cell with active := s.cell.active.map f }

/-- The reasons of the holds that match the active lot join its reasons set, while it is in IN_PASS or
AWAITING_DISPOSITION (R130). -/
def noteReasons (s : State) : State :=
  updateActive
    (fun a =>
      if a.phase = .finished then a
      else { a with reasons := a.reasons ||| reasonsOf (matchingHolds s.holds (queryOf a.lot)) }) s

/-- The LATE_HOLD events of a RELEASED entry, one for each matching key whose record in force the
notice names as added or replaced (R162). -/
def lateHoldsOf (names : List NoticeKey) (s : State) (e : PackEntry) : State :=
  names.foldl
    (fun s n =>
      if n.added && keyMatches (packQuery e) n.scope n.key then
        match findHold s.holds n.scope n.key with
        | some r => raise (.lateHold e.lotId n.scope n.key r.hold.generation) s
        | none => s
      else s) s

/-- The release controller's first answer to a notice: LATE_HOLD for its RELEASED entries (R162), in
creation order: the model's choice (log entry 37). -/
def lateHolds (names : List NoticeKey) (s : State) : State :=
  (s.pack.entries.filter fun e => e.state == .released).foldl (lateHoldsOf names) s

/-- The held-state notice as the enabled role block answers it (R147): a block frozen by SILENT does not
act. INDEX-ENABLE is judged at the end of the event, for the HANDLER (R109). -/
def notice (names : List NoticeKey) (s : State) : State :=
  if s.isLive then
    match s.start.role with
    | .stage => stageNotice s
    | .cell => noteReasons (cellNoticeLots s)
    | .handler => s
    | .pack => lateHolds names s
  else s

/-- Delivers the notice when a record in force changed or overflow was entered or left (R147). -/
def noticeAfter (overflowBefore : Bool) (names : List NoticeKey) (s : State) : State :=
  if names.isEmpty && s.holds.overflow == overflowBefore then s else notice names s

/-- Places a hold; a placement that made a record, stored or not, delivers its notice in the same event
(R140, R147). -/
def placeHold (sc : Scope) (key : Nat) (reason : HoldReason) (detail trigger : Nat) (s : State) :
    State × PlaceResult :=
  let p := placeCore sc key reason detail trigger s
  match p.2.1 with
  | .already g => (p.1, .already g)
  | .placed g stored => (notice p.2.2 p.1, .placed g stored)

end Sys2Proof.Machine
end

