-- ==== Sys2Proof/Machine/Yield.lean ====
section
/-! DEFINITION. Machine/Yield.lean: the yield guard of spec/07 with the active lot of spec/04 sections
4.6 and 4.7: loading, counting, the six checks, the pass-end judgment, retest passes, dispositions and
completion, the HANDLER-STATUS of R111, and the limit table commands. -/
namespace Sys2Proof.Machine

/-! ## The limit table (R112 to R115) -/

/-- The product entry of a product. -/
def productEntry (t : LimitTable) (product : Nat) : Option LimitEntry :=
  (t.products.find? fun p => p.1 == product).map Prod.snd

/-- The limit entry a lot takes (R115). -/
def limitsFor (t : LimitTable) (product : Nat) : LimitSource × LimitEntry :=
  match productEntry t product with
  | some e => (.product, e)
  | none => (.default, t.default)

/-- LIMIT SET A (R113). -/
def limitSetA (a : LimitPartA) (s : State) : State × Answer :=
  (s.setCell { s.cell with partA := some a }, .done [])

/-- The entry two parts form (R113). -/
def joinParts (a : LimitPartA) (pairs : List (Nat × Nat)) (jam : Nat) : LimitEntry :=
  { lya := a.lya, lyf := a.lyf, nMin := a.nMin, nSite := a.nSite, sdl := a.sdl, cf := a.cf,
    good := a.good, retestable := a.retestable, passes := a.passes, binLimits := usedPairs pairs,
    jamLimit := jam }

/-- Puts an entry into the table: the default one for product 0, else that of its product, replaced in
place or added at the end (R113). -/
def putEntry (product : Nat) (e : LimitEntry) (t : LimitTable) : LimitTable :=
  if product = 0 then { t with default := e }
  else if (productEntry t product).isSome then
    { t with products := t.products.map fun p => if p.1 = product then (product, e) else p }
  else { t with products := t.products ++ [(product, e)] }

/-- LIMIT SET B (R113). -/
def limitSetB (product : Nat) (pairs : List (Nat × Nat)) (jam : Nat) (s : State) : State × Answer :=
  match s.cell.partA with
  | none => (s, .refused .noPartA)
  | some a =>
    if a.product ≠ product then (s, .refused .noPartA)
    else if product ≠ 0 ∧ (productEntry s.limits product).isNone ∧
        Config.productSize ≤ s.limits.products.length then (s, .refused .full)
    else
      let t := putEntry product (joinParts a pairs jam) s.limits
      ((s.setLimits t).setCell { s.cell with partA := none }, .done (be1 t.products.length))

/-- LIMIT CLEAR (R114). -/
def limitClear (product : Nat) (s : State) : State × Answer :=
  if product = 0 then
    (s.setLimits { s.limits with default := s.start.config.limits.default }, .done [])
  else if (productEntry s.limits product).isSome then
    let ps := s.limits.products.filter fun p => p.1 != product
    (s.setLimits { s.limits with products := ps }, .done (be1 ps.length))
  else (s, .refused .unknown)

/-! ## Loading (R66, R115, R116) -/

/-- The active lot at LOT LOADED. -/
def newActive (s : State) (q : QueuedLot) : ActiveLot :=
  let l := limitsFor s.limits q.lot.product
  { lot := q.lot, stage := q.stage, phase := .inPass, readySeen := false, lastPermit := none,
    waiting := none, source := l.1, limits := l.2, pass := 1, allowance := l.2.passes, tested := 0,
    bins := List.replicate 16 0, pool := 0, unretested := 0, excess := 0,
    sites := List.replicate 8 { tested := 0, good := 0, run := 0 }, reasons := 0, suppressed := 0,
    jamArmed := false }

/-- LOT LOADED (R66). -/
def lotLoaded (lotId index : Nat) (s : State) : State × Answer :=
  match s.cell.queue.find? fun q => isLot q.lot lotId index with
  | none => (s, .refused .notQueued)
  | some q =>
    if s.cell.active.isSome then (s, .refused .busy)
    else
      let a := newActive s q
      (s.setCell { s.cell with
          queue := s.cell.queue.filter fun q => !isLot q.lot lotId index, active := some a,
          ready := false },
        .done (be1 (limitSourceCode a.source)))

/-! ## Completion (R70, R71, R136) -/

/-- The completion record of the active lot with a result. -/
def completionOf (s : State) (a : ActiveLot) (r : CompletionResult) : Completion :=
  { lotId := a.lot.lotId, index := a.lot.index, count := a.lot.count, product := a.lot.product,
    program := a.lot.program, quantity := a.lot.quantity, packStation := a.lot.packStation,
    cell := s.own, tested := a.tested, good := goodCount a.bins a.limits.good, unretested := a.pool,
    excess := a.excess, passes := a.pass, result := r, reasons := a.reasons }

/-- The active lot becomes FINISHED: its record is made, LOT_FINISHED is raised, and the record enters
the outbox or waits in the slot (R70, R136). -/
def finishLot (a : ActiveLot) (r : CompletionResult) (s : State) : State :=
  let c := completionOf s a r
  let b := { a with phase := .finished, unretested := a.pool }
  let s1 := raise (.cellFinished a.lot.lotId a.lot.index r) s
  if outboxPlace s.cell a.lot.lotId a.lot.index then
    enterOutbox c (s1.setCell { s1.cell with active := some b })
  else s1.setCell { s1.cell with active := some { b with waiting := some c } }

/-- Frees the active slot (R71). -/
def freeSlot (s : State) : State := s.setCell { s.cell with active := none }

/-- LOT UNLOADED (R71). With no active lot it is refused STATE. R71 names a FINISHED lot whose record is in
the outbox and one whose record waits; one whose record DONE-TAKEN has removed, which is neither, is taken
as the first: the slot is freed and the answer is DONE, the model's choice (log entry 50). -/
def lotUnloaded (s : State) : State × Answer :=
  match s.cell.active with
  | none => (s, .refused .state)
  | some a =>
    match lotState s a with
    | .finished => if a.waiting.isSome then (s, .refused .full) else (freeSlot s, .done [])
    | .held =>
      if outboxPlace s.cell a.lot.lotId a.lot.index then
        (freeSlot (finishLot a .held s), .done [])
      else (s, .refused .full)
    | .setup | .running | .paused => (s, .refused .notEnded)

/-! ## Trigger handling (R130) -/

/-- A check that triggered: its reason and its detail. -/
abbrev Trigger := HoldReason × Nat

/-- The reasons word of the triggers. -/
def triggerWord (ts : List Trigger) : Mask16 := ts.foldl (fun m t => m ||| reasonBit t.1) 0#16

/-- A hold is asked for: something triggered, and no LOT hold of the lot is in force (R130). -/
def holdAsked (ts : List Trigger) (lotId : Nat) (s : State) : Bool :=
  !ts.isEmpty && !keyInForce s.holds .lot lotId

/-- The trigger handling of one event for the active lot. -/
def handleTriggers (ts : List Trigger) (lotId : Nat) (s : State) : State :=
  match ts with
  | [] => s
  | t :: _ =>
    let s1 := updateActive (fun a => { a with reasons := a.reasons ||| triggerWord ts }) s
    if keyInForce s1.holds .lot lotId then s1 else (placeHold .lot lotId t.1 t.2 0 s1).1

/-! ## Retest passes and the judgment (R131, R132) -/

/-- The sum of the bin counts over the retestable bins. -/
def retestableCount (a : ActiveLot) : Nat := goodCount a.bins a.limits.retestable

/-- The bin counts with the retestable ones set to 0. -/
def clearRetestable (m : Mask16) (bins : List Nat) : List Nat :=
  (bins.zipIdx 1).map fun (n, b) => if maskHas m b then 0 else n

/-- The changes of R132, for the pass number given. -/
def ActiveLot.retest (a : ActiveLot) (pass : Nat) : ActiveLot :=
  { a with pass := pass, pool := a.pool + retestableCount a,
           bins := clearRetestable a.limits.retestable a.bins,
           sites := List.replicate 8 { tested := 0, good := 0, run := 0 }, suppressed := 0,
           phase := .inPass, readySeen := false }

/-- A retest pass starts, under the pass number given (R132). -/
def startRetest (a : ActiveLot) (pass : Nat) (s : State) : State :=
  let b := a.retest pass
  raise (.retestStarted b.lot.lotId b.lot.index b.pass b.pool)
    (s.setCell { s.cell with active := some b, ready := false })

/-- How a pass ended, in the order of the codes (R131). -/
inductive Ending where
  | finished | retest | held
deriving DecidableEq, Repr

/-- The code of a pass-end ending. -/
def endingCode : Ending → Nat
  | .finished => 0
  | .retest => 1
  | .held => 2

/-- The judgment ends with a hold and the phase AWAITING_DISPOSITION (R131). -/
def endHeld (a : ActiveLot) (r : HoldReason) (s : State) : State :=
  handleTriggers [(r, 0)] a.lot.lotId
    (s.setCell { s.cell with active := some { a with phase := .awaiting } })

/-- The pass-end judgment (R131) of the active lot. -/
def judgePass (a0 : ActiveLot) (s : State) : State × Ending :=
  let a := { a0 with unretested := a0.pool }
  if a.tested = 0 then (endHeld a .noUnits s, .held)
  else if a.limits.lyf ≤ q12 (goodCount a.bins a.limits.good) a.tested then
    (finishLot a .passed s, .finished)
  else if a.pass ≤ a.allowance ∧ 0 < a.pool + retestableCount a then
    (startRetest a (min (a.pass + 1) 255) s, .retest)
  else (endHeld a .finalYield s, .held)

/-- The pass number of the active lot, 0 with none. -/
def passNow (s : State) : Nat :=
  match s.cell.active with
  | some a => a.pass
  | none => 0

/-- END PASS (R69). -/
def endPass (s : State) : State × Answer :=
  match s.cell.active with
  | none => (s, .refused .notRunning)
  | some a =>
    match lotState s a with
    | .finished | .setup => (s, .refused .notRunning)
    | .held => (s, .refused .held)
    | .running | .paused =>
      let j := judgePass a s
      (j.1, .done (be1 (endingCode j.2) ++ be1 (passNow j.1)))

/-! ## Bin reports (R119 to R121) -/

/-- A BIN REPORT as it is taken, entry by entry. -/
structure Report where
  active : ActiveLot
  /-- the sites counted -/
  counted : SiteMask
  stray : Bool
  /-- a site was requested down -/
  requested : Bool
  /-- the site of the first excess entry -/
  excess : Option Nat
deriving DecidableEq, Repr

/-- The tallies of site n. -/
def tallyAt (a : ActiveLot) (n : Nat) : SiteTally := nth1 { tested := 0, good := 0, run := 0 } a.sites n

/-- The down-requested mark of site n, `up` for none. -/
def markOf (c : Cell) (n : Nat) : SiteStatus := nth1 .up c.marks n

/-- Requests a site down (R121). -/
def requestDown (n : Nat) (r : SiteStatus) (s : State) : State :=
  let s1 := if markOf s.cell n = .up then raise (.siteDown n r) s else s
  let s2 := s1.setCell { s1.cell with marks := modifyAt (fun _ => r) (n - 1) s1.cell.marks }
  if s2.cell.binding.state = .bound then sendTo s2.cell.binding.handler (.siteDown n r) s2 else s2

/-- The counts of a unit of a bin: in pass 1 the base, in a retest pass the pool, else the excess
(R120). -/
def countBin (b : Nat) (a : ActiveLot) : ActiveLot :=
  if a.pass = 1 then
    { a with tested := a.tested + 1, bins := modifyAt (· + 1) (b - 1) a.bins }
  else if 0 < a.pool then
    { a with pool := a.pool - 1, bins := modifyAt (· + 1) (b - 1) a.bins }
  else { a with excess := min (a.excess + 1) 16777215 }

/-- The site's tallies after a unit, and whether its fail run reached CF (R120, R121). -/
def countSite (cf : Nat) (good : Bool) (t : SiteTally) : SiteTally × Bool :=
  let run := if good then 0 else min (t.run + 1) 255
  let down := cf != 0 && cf ≤ run
  ({ tested := t.tested + 1, good := t.good + (if good then 1 else 0), run := if down then 0 else run },
    down)

/-- A unit counted for a site (R120, R121): the report, and whether the fail run asks the site down. -/
def countUnit (n b : Nat) (r : Report) : Report × Bool :=
  let a := r.active
  let c := countSite a.limits.cf (maskHas a.limits.good b) (tallyAt a n)
  let spent := a.pass != 1 && a.pool == 0
  ({ r with
      active := { countBin b a with sites := modifyAt (fun _ => c.1) (n - 1) a.sites },
      counted := maskAdd r.counted n,
      excess := if spent then some (r.excess.getD n) else r.excess },
    c.2)

/-- The entry of site n with bin b (R119): the report after it and the reason it asks the site down
for, if it does. -/
def entryFate (mask : SiteMask) (n b : Nat) (r : Report) : Report × Option SiteStatus :=
  if b = 0 || !maskHas mask n then ({ r with stray := true }, none)
  else if 1048575 ≤ (tallyAt r.active n).tested then ({ r with stray := true }, some .countLimit)
  else
    let c := countUnit n b r
    (c.1, if c.2 then some .failRun else none)

/-- The reason a site is asked down for at an entry: the entry's own, else the mark's while the site is
marked and still in the effective mask (R121, log entry 16). -/
def downReason (c : Cell) (n : Nat) (own : Option SiteStatus) : Option SiteStatus :=
  match own with
  | some r => some r
  | none => if maskHas c.mask n && markOf c n != .up then some (markOf c n) else none

/-- One entry of a BIN REPORT. -/
def takeEntry (bins : List Nat) (p : State × Report) (n : Nat) : State × Report :=
  let f := entryFate p.1.cell.mask n (nth1 0 bins n) p.2
  match downReason p.1.cell n f.2 with
  | some r => (requestDown n r p.1, { f.1 with requested := true })
  | none => (p.1, f.1)

/-! ## The checks (R123 to R129) -/

/-- A check's reason is in the suppressed set. -/
def isSuppressed (a : ActiveLot) (r : HoldReason) : Bool := (a.suppressed &&& reasonBit r) != 0#16

/-- The sites of the effective mask whose mark is clear (R124). -/
def unmarkedSites (c : Cell) : List Nat :=
  siteNumbers.filter fun n => maskHas c.mask n && markOf c n == .up

/-- NO_SITES at a report (R124). -/
def checkNoSites (requested : Bool) (c : Cell) : Option Trigger :=
  if requested && (unmarkedSites c).isEmpty then some (.noSites, 0) else none

/-- The eligible sites of SITE_DELTA with their yields, in site order (R125). -/
def siteYields (a : ActiveLot) : List (Nat × Nat) :=
  (siteNumbers.filter fun n => a.limits.nSite ≤ (tallyAt a n).tested).map fun n =>
    (n, q12 (tallyAt a n).good (tallyAt a n).tested)

/-- SITE_DELTA (R125). -/
def checkSiteDelta (a : ActiveLot) : Option Trigger :=
  let ys := siteYields a
  if ys.length < 2 then none
  else
    match bestBy (fun x y => y.2 < x.2) ys, bestBy (fun x y => x.2 < y.2) ys with
    | some hi, some lo => if a.limits.sdl < hi.2 - lo.2 then some (.siteDelta, lo.1) else none
    | _, _ => none

/-- A bin's count is over its limit: its fraction is above the limit (R126), and under a limit of 0 the
first unit of the bin is (R122), also where its fraction is floored to 0, T being above 4096: there the
model follows R122's sentence (log entry 48). -/
def overBinLimit (count tested limit : Nat) : Bool :=
  if limit = 0 then 0 < count else limit < q12 count tested

/-- BIN_LIMIT (R122, R126). -/
def checkBinLimit (a : ActiveLot) : Option Trigger :=
  if a.tested < a.limits.nMin then none
  else
    (a.limits.binLimits.find? fun p => overBinLimit (nth1 0 a.bins p.1) a.tested p.2).map fun p =>
      (.binLimit, p.1)

/-- YIELD_ALARM (R127). -/
def checkYieldAlarm (a : ActiveLot) : Option Trigger :=
  if a.pass = 1 ∧ a.limits.nMin ≤ a.tested ∧
      q12 (goodCount a.bins a.limits.good) a.tested < a.limits.lya then some (.yieldAlarm, 0)
  else none

/-- COUNT_EXCESS (R128). -/
def checkCountExcess (excess : Option Nat) : Option Trigger := excess.map fun n => (.countExcess, n)

/-- The triggers of a report, in the order of the checks (R123). -/
def reportTriggers (r : Report) (c : Cell) : List Trigger :=
  ([checkNoSites r.requested c, checkSiteDelta r.active, checkBinLimit r.active,
    checkYieldAlarm r.active, checkCountExcess r.excess].filterMap id).filter fun t =>
      !isSuppressed r.active t.1

/-- The automatic pass end's conditions (R133): a retest pass whose pool this report spent, the lot not
HELD after the trigger handling. -/
def poolSpent (before : ActiveLot) (s : State) : Bool :=
  match s.cell.active with
  | some a => a.pass != 1 && a.pool == 0 && 0 < before.pool && lotState s a != .held
  | none => false

/-- The automatic pass end, when it runs (R133). -/
def autoPassEnd (before : ActiveLot) (s : State) : State × Option Ending :=
  match s.cell.active with
  | some a =>
    if poolSpent before s then
      let j := judgePass a s
      (j.1, some j.2)
    else (s, none)
  | none => (s, none)

/-- BIN REPORT's result bytes (R119): sites counted, STRAY, the checks that triggered, hold asked for,
P, and the ending and pass of an automatic pass end, zeros when none ran (log entry 12). -/
def reportResult (r : Report) (ts : List Trigger) (asked : Bool) (e : Option Ending) (pass : Nat) :
    List Byte :=
  be1 r.counted.toNat ++ be1 (flagCode r.stray) ++ beMask (triggerWord ts) ++ be1 (flagCode asked) ++
    be3 r.active.pool ++
    (match e with
      | some x => be1 (endingCode x) ++ be1 pass
      | none => be1 0 ++ be1 0)

/-- BIN REPORT (R119 to R133). -/
def binReport (mask : SiteMask) (bins : List Nat) (s : State) : State × Answer :=
  match s.cell.active with
  | none => (s, .refused .notRunning)
  | some a =>
    if a.phase ≠ .inPass then (s, .refused .notRunning)
    else
      let p := (siteNumbers.filter (maskHas mask)).foldl (takeEntry bins)
        (s, { active := a, counted := 0, stray := false, requested := false, excess := none })
      let s1 := p.1.setCell { p.1.cell with active := some p.2.active }
      let ts := reportTriggers p.2 s1.cell
      let asked := holdAsked ts a.lot.lotId s1
      let e := autoPassEnd a (handleTriggers ts a.lot.lotId s1)
      (e.1, .done (reportResult p.2 ts asked e.2 (passNow e.1)))

/-! ## HANDLER-STATUS at the cell (R111, R117, R129) -/

/-- The marks after a status: those of sites out of its mask are cleared (R117). -/
def clearMarks (m : SiteMask) (marks : List SiteStatus) : List SiteStatus :=
  (marks.zipIdx 1).map fun (r, n) => if maskHas m n then r else .up

/-- The triggers of a HANDLER-STATUS: NO_SITES and JAM_RATE (R124, R129). -/
def statusTriggers (b : StatusBody) (a : ActiveLot) : List Trigger :=
  let noSites : List Trigger := if b.mask = 0#8 then [(.noSites, 0)] else []
  let jamRate : List Trigger :=
    if a.limits.jamLimit ≠ 0 ∧ a.jamArmed ∧ a.limits.jamLimit < b.jamCount then [(.jamRate, 0)] else []
  (noSites ++ jamRate).filter fun t => !isSuppressed a t.1

/-- The flags of a lot in IN_PASS at a status that says ready (R67, R129). -/
def ActiveLot.seeReady (ready : Bool) (a : ActiveLot) : ActiveLot :=
  if a.phase = .inPass && ready then { a with readySeen := true, jamArmed := true } else a

/-- The checks made on a status taken: with an active lot in IN_PASS (R123). -/
def statusChecks (b : StatusBody) (s : State) : State :=
  match s.cell.active with
  | some a => if a.phase = .inPass then handleTriggers (statusTriggers b a) a.lot.lotId s else s
  | none => s

/-- A HANDLER-STATUS taken whole (R111). -/
def takeStatus (b : StatusBody) (s : State) : State :=
  statusChecks b
    (s.setCell { s.cell with
      ready := b.ready, reached := if b.reachedValid then some b.reached else none, mask := b.mask,
      binding := { s.cell.binding with mask := b.mask }, marks := clearMarks b.mask s.cell.marks,
      active := s.cell.active.map (ActiveLot.seeReady b.ready) })

/-- A HANDLER-STATUS at the dispatch controller, in ACTIVE (R86, R111): a handler that the cell does not
know as its own is told UNBIND(UNDOCK). -/
def cellStatus (source : Nat) (b : StatusBody) (s : State) : State :=
  if !s.isActive then s
  else if s.cell.binding.state ≠ .none ∧ s.cell.binding.handler = source then
    (match s.cell.binding.state with
      | .bound | .binding => takeStatus b s
      | .none | .orphaned => s)
  else sendTo source (.unbind .undock) s

/-! ## Dispositions (R134, R135) -/

/-- The reasons of the six checks of R123. -/
def checkReasons : Mask16 :=
  triggerWord [(.noSites, 0), (.siteDelta, 0), (.binLimit, 0), (.yieldAlarm, 0), (.countExcess, 0),
    (.jamRate, 0)]

/-- The suppression of R134: the CLEAR removed a record that matched the active lot, which is in
IN_PASS, and none matches it now. -/
def suppressChecks (sc : Scope) (key : Nat) (s : State) : State :=
  updateActive
    (fun a =>
      if a.phase = .inPass && keyMatches (queryOf a.lot) sc key && !lotMatched s.holds (queryOf a.lot)
      then { a with suppressed := a.suppressed ||| (a.reasons &&& checkReasons) }
      else a) s

/-- A disposition of the active lot's own LOT key (R135). -/
def disposeLot (d : Disposition) (a : ActiveLot) (s : State) : State :=
  match a.phase, d with
  | .finished, _ | _, .none => s
  | .awaiting, .resume =>
    finishLot a (if a.tested = 0 then .empty else .accepted) s
  | .awaiting, .scrap | .inPass, .scrap => finishLot a .scrapped s
  | .awaiting, .retest =>
    startRetest { a with allowance := min (a.allowance + 1) 255 }
      (if a.tested = 0 then 1 else min (a.pass + 1) 255) s
  | .inPass, .resume => s
  | .inPass, .retest => updateActive (fun a => { a with allowance := min (a.allowance + 1) 255 }) s

/-- The disposition hand-off at the CELL (R134, R135); `applied` says that the CLEAR removed a record
in force. R135 says that R134 applies to a RESUME or RETEST of the lot's own LOT key in IN_PASS, and R134
speaks of a CLEAR that removes a record: one that found none (TOMBSTONE, a hold never stored in overflow)
suppresses nothing, the model's choice (log entry 49). -/
def cellHandoff (sc : Scope) (key : Nat) (d : Disposition) (applied : Bool) (s : State) : State :=
  match s.cell.active with
  | none => s
  | some a =>
    let own := sc == .lot && key == a.lot.lotId
    let s1 := if own then disposeLot d a s else s
    if applied && a.phase == .inPass && (d == .resume || (d == .retest && own)) then
      suppressChecks sc key s1
    else s1

end Sys2Proof.Machine
end

