-- ==== Sys2Proof/Machine/Pack.lean ====
section
/-! DEFINITION. Machine/Pack.lean: the release controller of spec/09: the intake of completion records,
the judgment, dispositions, freed entries, and PACK DONE. -/
namespace Sys2Proof.Machine

/-! ## The pack table (R157, R158) -/

/-- Sets the pack table. -/
def setEntries (es : List PackEntry) (s : State) : State := s.setPack { s.pack with entries := es }

/-- The entry of a lot id. -/
def findPack (s : State) (lotId : Nat) : Option PackEntry :=
  s.pack.entries.find? fun e => e.lotId == lotId

/-- Changes the entry of a lot id. -/
def updatePack (lotId : Nat) (f : PackEntry → PackEntry) (s : State) : State :=
  setEntries (s.pack.entries.map fun e => if e.lotId = lotId then f e else e) s

/-- The entry a completion record makes (R158). -/
def newEntry (c : Completion) : PackEntry :=
  { lotId := c.lotId, product := c.product, program := c.program, count := c.count,
    slots := [none, none, none, none], state := .collecting, conflict := false, waiting := .none,
    gateWaived := false, countWaived := false, timeClosed := none, release := none }

/-- The entry a full table evicts: RELEASED or SCRAPPED, of the earliest time closed, the one earliest
in creation order among equals (R158). -/
def evictEntry (s : State) : Option PackEntry :=
  bestBy (fun a b => s.age (b.timeClosed.getD 0) < s.age (a.timeClosed.getD 0))
    (s.pack.entries.filter packClosed)

/-- Makes room for the lot of a record and makes its entry, unless it has one; a table of 32 open
entries makes none (R158). -/
def admitLot (c : Completion) (s : State) : Option State :=
  if (findPack s c.lotId).isSome then some s
  else if s.pack.entries.length < Config.packSize then
    some (setEntries (s.pack.entries ++ [newEntry c]) s)
  else
    (evictEntry s).map fun v =>
      setEntries ((s.pack.entries.filter fun e => e.lotId != v.lotId) ++ [newEntry c]) s

/-! ## Sums (R163) -/

/-- The records in slots 1 to the entry's sublot count. -/
def summed (e : PackEntry) : List Completion := (e.slots.take e.count).filterMap id

/-- A record adds its units to ΣT and ΣG: one that is EMPTY, or ACCEPTED with a T of 0, adds 0 to both. -/
def addsUnits (c : Completion) : Bool :=
  c.result != .empty && !(c.result == .accepted && c.tested == 0)

/-- ΣT. -/
def sumTested (e : PackEntry) : Nat := (((summed e).filter addsUnits).map Completion.tested).sum
/-- ΣG. -/
def sumGood (e : PackEntry) : Nat := (((summed e).filter addsUnits).map Completion.good).sum
/-- ΣQ. -/
def sumQuantity (e : PackEntry) : Nat := ((summed e).map Completion.quantity).sum

/-- The records in any slot. -/
def allRecords (e : PackEntry) : List Completion := e.slots.filterMap id

/-- A slot holds a record with the result. -/
def hasResult (e : PackEntry) (r : CompletionResult) : Bool := (allRecords e).any fun c => c.result == r

/-- Slots 1 to the sublot count are all filled. -/
def slotsFull (e : PackEntry) : Bool := (e.slots.take e.count).all Option.isSome

/-! ## The judgment (R160, R161) -/

/-- The reasons of R137, in the order of their codes. -/
def reasonList : List HoldReason :=
  [.operator, .yieldAlarm, .binLimit, .siteDelta, .noSites, .countExcess, .jamRate, .finalYield,
    .noUnits, .releaseYield, .countMismatch, .packCount]

/-- The reason a HELD sublot's hold takes: the first of the reasons sets of the HELD records, or
OPERATOR (R160). -/
def heldReason (e : PackEntry) : HoldReason :=
  let word := ((allRecords e).filter fun c => c.result == .held).foldl (fun m c => m ||| c.reasons) 0#16
  (reasonList.find? fun r => (word &&& reasonBit r) != 0#16).getD .operator

/-- Places a hold of the release controller: LOT scope, detail 0, trigger lot 0 (R161). -/
def packHold (lotId : Nat) (r : HoldReason) (s : State) : State := (placeHold .lot lotId r 0 0 s).1

/-- Records a waiting reason and places its hold. -/
def waitFor (e : PackEntry) (w : WaitReason) (r : HoldReason) (s : State) : State :=
  packHold e.lotId r (updatePack e.lotId (fun e => { e with waiting := w }) s)

/-- An entry closed as SCRAPPED now (R160, R164). -/
def PackEntry.scrap (e : PackEntry) (now : Nat) : PackEntry :=
  { e with state := .scrapped, waiting := .none, timeClosed := some now }

/-- The sums account for each other within the tolerance (R160). -/
def sumsAgree (tolerance : Nat) (e : PackEntry) : Bool :=
  sumTested e - sumQuantity e ≤ tolerance && sumQuantity e - sumTested e ≤ tolerance

/-- LYF for an entry, from the station's own limit table (R163). -/
def packLyf (s : State) (e : PackEntry) : Nat := (limitsFor s.limits e.product).2.lyf

/-- The combined yield, 0 when ΣT is 0, and always in 0–4096 (R122, R163, R166). Records whose G is above
their T, which R182 lets through, give a free value in that range (log entry 41). -/
def combinedYield (e : PackEntry) : Nat :=
  if sumTested e = 0 then 0
  else if sumGood e ≤ sumTested e then q12 (sumGood e) (sumTested e)
  else (Config.yieldAbove (sumGood e) (sumTested e)).val

/-- The judgment of an entry (R160). -/
def judgeEntry (e : PackEntry) (s : State) : State :=
  if hasResult e .held then
    let s1 := updatePack e.lotId (fun e => { e with waiting := .sublotHeld }) s
    if packHeld s e then s1 else packHold e.lotId (heldReason e) s1
  else if hasResult e .scrapped then updatePack e.lotId (fun e => e.scrap s.clock) s
  else if hasResult e .empty then waitFor e .noUnits .noUnits s
  else if !e.countWaived && !sumsAgree s.start.config.countTolerance e then
    waitFor e .countMismatch .countMismatch s
  else if sumTested e = 0 ∧ e.gateWaived = false then waitFor e .noUnits .noUnits s
  else if sumTested e ≠ 0 ∧ combinedYield e < packLyf s e ∧ e.gateWaived = false then
    waitFor e .releaseYield .releaseYield s
  else updatePack e.lotId (fun e => { e with state := .complete, waiting := .none }) s

/-! ## Completion record intake (R158, R159) -/

/-- The record's sublot count, product and program are the entry's. -/
def agrees (e : PackEntry) (c : Completion) : Bool :=
  c.count == e.count && c.product == e.product && c.program == e.program

/-- The record in a slot. -/
def slotAt (e : PackEntry) (index : Nat) : Option Completion := nth1 none e.slots index

/-- Sends DONE-TAKEN for a record to its cell. -/
def sendTaken (c : Completion) (s : State) : State := sendTo c.cell (.doneTaken c.lotId c.index) s

/-- The entry with a slot filled, the conflict mark set when the record disagrees (R159). -/
def PackEntry.fill (e : PackEntry) (c : Completion) : PackEntry :=
  { e with slots := modifyAt (fun _ => some c) (c.index - 1) e.slots,
           conflict := e.conflict || !agrees e c }

/-- Judges an entry after a fill, when it is due (R159). -/
def judgeAfterFill (lotId : Nat) (s : State) : State :=
  match findPack s lotId with
  | some e => if e.state == .collecting && slotsFull e && !e.conflict then judgeEntry e s else s
  | none => s

/-- A record taken into its entry (R159). -/
def takeInto (e : PackEntry) (c : Completion) (s : State) : State :=
  if packClosed e then sendTaken c s
  else
    match slotAt e c.index with
    | some old =>
      if old = c then sendTaken c s else raise (.doneConflict c.lotId c.index c.cell) (sendTaken c s)
    | none =>
      let s1 := sendTaken c (updatePack e.lotId (·.fill c) s)
      judgeAfterFill e.lotId
        (if agrees e c then s1 else raise (.doneConflict c.lotId c.index c.cell) s1)

/-- A LOT-DONE at the release controller: in ACTIVE, for this pack station (R158). -/
def packLotDone (c : Completion) (s : State) : State :=
  if !s.isActive || c.packStation != s.own then s
  else
    match admitLot c s with
    | none => s
    | some s1 =>
      match findPack s1 c.lotId with
      | some e => takeInto e c s1
      | none => s1

/-! ## Dispositions (R164) -/

/-- HELD and EMPTY records become ACCEPTED. -/
def acceptRecord (c : Completion) : Completion :=
  if c.result = .held ∨ c.result = .empty then { c with result := .accepted } else c

/-- The entry with its HELD and EMPTY records accepted and the waiver of its waiting reason set. -/
def PackEntry.resume (e : PackEntry) : PackEntry :=
  let e1 := { e with slots := e.slots.map (Option.map acceptRecord) }
  match e.waiting with
  | .countMismatch => { e1 with countWaived := true }
  | .releaseYield => { e1 with gateWaived := true }
  | .noUnits => if sumTested e1 = 0 then { e1 with gateWaived := true } else e1
  | .none | .sublotHeld | .packCount => e1

/-- What a disposition makes of one entry that its key matches. -/
def disposeEntry (d : Disposition) (held : Bool) (now : Nat) (e : PackEntry) : PackEntry :=
  match e.state, d with
  | .released, _ | .scrapped, _ => e
  | _, .scrap => e.scrap now
  | .collecting, .resume => if held then e else e.resume
  | .complete, .resume =>
    if !held && e.waiting == .packCount then { e with waiting := .none } else e
  | _, _ => e

/-- The lot ids of the entries that a RESUME frees. -/
def resumed (sc : Scope) (key : Nat) (d : Disposition) (s : State) : List Nat :=
  if d = .resume then
    (s.pack.entries.filter fun e =>
      keyMatches (packQuery e) sc key && e.state == .collecting && !packHeld s e &&
        e.waiting != .none).map PackEntry.lotId
  else []

/-- The disposition hand-off at the PACK (R164). -/
def packHandoff (sc : Scope) (key : Nat) (d : Disposition) (s : State) : State :=
  setEntries
    (s.pack.entries.map fun e =>
      if keyMatches (packQuery e) sc key then disposeEntry d (packHeld s e) s.clock e else e) s

/-! ## Freed entries (R162) -/

/-- The entry waits for something that a change of holds may free. -/
def mayBeFreed (e : PackEntry) : Bool :=
  (e.state == .collecting && e.waiting != .none) || (e.state == .complete && e.waiting == .packCount)

/-- The lot ids of the entries held before the event and not held now. -/
def freedEntries (before s : State) : List Nat :=
  (s.pack.entries.filter fun e => mayBeFreed e && packHeld before e && !packHeld s e).map
    PackEntry.lotId

/-- Acts on one freed entry (R162). -/
def actOnFreed (s : State) (lotId : Nat) : State :=
  match findPack s lotId with
  | none => s
  | some e =>
    match e.state with
    | .collecting => if e.conflict then s else judgeEntry e s
    | .complete => updatePack lotId (fun e => { e with waiting := .none }) s
    | .released | .scrapped => s

/-- Acts on the freed entries in creation order: those held before the event and not now, and those a
RESUME freed (log entry 27). -/
def actOnAllFreed (before : State) (byResume : List Nat) (s : State) : State :=
  if s.isLive && s.isRole .pack then
    let freed := freedEntries before s
    ((s.pack.entries.map PackEntry.lotId).filter fun n => freed.contains n || byResume.contains n).foldl
      actOnFreed s
  else s

/-! ## PACK DONE (R165, R166) -/

/-- The release record of an entry (R166). -/
def releaseOf (e : PackEntry) (sequence : Nat) : ReleaseRec :=
  let r : ReleaseRec :=
    { lotId := e.lotId, product := e.product, count := e.count, sumTested := sumTested e,
      sumGood := sumGood e, yield := combinedYield e, gateWaived := e.gateWaived,
      hasAccepted := hasResult e .accepted, sequence := sequence, code := 0 }
  { r with code := (crc16 (releaseHead r)).toNat }

/-- The release sequence after a release: 65535 advances to 1. -/
def nextSequence (n : Nat) : Nat := if n = 65535 then 1 else n + 1

/-- Releases an entry (R166). -/
def releaseEntry (e : PackEntry) (s : State) : State × Answer :=
  let r := releaseOf e s.pack.sequence
  let s1 := updatePack e.lotId
    (fun e => { e with state := .released, timeClosed := some s.clock, release := some r }) s
  let s2 := s1.setPack { s1.pack with sequence := nextSequence s1.pack.sequence }
  (raise (.released r.lotId r.sequence r.code) (sendAll (.release r) s2),
    .done (be2 r.sequence ++ be2 r.code))

/-- PACK DONE, in ACTIVE (R165). -/
def packDone (lotId packed : Nat) (s : State) : State × Answer :=
  match findPack s lotId with
  | none => (s, .refused .unknown)
  | some e =>
    if e.state ≠ .complete then (s, .refused .state)
    else if packHeld s e then (s, .refused .held)
    else if packed ≠ sumGood e then (waitFor e .packCount .packCount s, .refused .count)
    else releaseEntry e s

end Sys2Proof.Machine
end

