-- ==== Sys2Proof/Machine/Dispositions.lean ====
section
/-! DEFINITION. Machine/Dispositions.lean: what the hold table's frames and its two port commands do to
the whole station: the change of the list, the notice, the disposition hand-off and the entries a
change frees, in that order (R143, R147, R155, R162). -/
namespace Sys2Proof.Machine

/-- A CLEAR with its disposition handed to the enabled role block, unless it is frozen (R143, R155).
`applied` says that the CLEAR removed a record in force. -/
def handoff (sc : Scope) (key : Nat) (d : Disposition) (applied : Bool) (s : State) : State :=
  if s.isLive then
    match s.start.role with
    | .stage => stageHandoff sc key d s
    | .cell => cellHandoff sc key d applied s
    | .handler => s
    | .pack => packHandoff sc key d s
  else s

/-- A record merged with its notice (R142, R147). -/
def mergeWithNotice (r : HoldRec) (s : State) : State :=
  let m := mergeHold r s
  noticeAfter s.holds.overflow m.2 m.1

/-- A HOLD delivered to the hold table. -/
def deliverHold (r : HoldRec) (s : State) : State := actOnAllFreed s [] (mergeWithNotice r s)

/-- The records of a HOLD-LIST merged one by one. -/
def mergeAll (rs : List HoldRec) (s : State) : State := rs.foldl (fun s r => mergeWithNotice r s) s

/-- A HOLD-LIST delivered to the hold table (R152). -/
def deliverHoldList (source total start count : Nat) (rs : List HoldRec) (s : State) : State :=
  actOnAllFreed s [] (resyncAdvance source total start count (mergeAll rs s))

/-- The notice of a CLEAR: after a change of the records in force or of overflow, and after a tombstone
that could not be stored (R143). -/
def clearNotice (o : ClearOutcome) (sc : Scope) (key : Nat) (before : State)
    (c : State × List NoticeKey) : State :=
  if o = .tombstone ∧ findHold c.1.holds sc key = none then notice c.2 c.1
  else noticeAfter before.holds.overflow c.2 c.1

/-- What follows the change a CLEAR made: its notice, the hand-off of APPLIED and TOMBSTONE, and the
freed entries (R143, R162). -/
def afterClear (o : ClearOutcome) (sc : Scope) (key : Nat) (d : Disposition) (before : State)
    (c : State × List NoticeKey) : State :=
  let s1 := clearNotice o sc key before c
  match o with
  | .applied | .tombstone =>
    actOnAllFreed before (resumed sc key d s1) (handoff sc key d (o == .applied) s1)
  | .advanced | .stale => s1

/-- A CLEAR delivered to the hold table (R143). -/
def deliverClear (sc : Scope) (key g : Nat) (d : Disposition) (station : Nat) (s : State) : State :=
  afterClear (clearOutcome s.holds sc key g) sc key d s (applyClear sc key g d station s)

/-- The active lot's lot id is the key (R154). -/
def activeHasKey (s : State) (key : Nat) : Bool :=
  match s.cell.active with
  | some a => a.lot.lotId == key
  | none => false

/-- The first check of R154 that fails. -/
def dispositionRefusal (sc : Scope) (key g : Nat) (d : Disposition) (s : State) : Option Reason :=
  match findHold s.holds sc key with
  | none => some .unknownHold
  | some r =>
    if r.hold.state ≠ .inForce then some .unknownHold
    else if r.hold.generation ≠ g then some .genMismatch
    else if d ≠ .resume ∧ sc ≠ .lot then some .scope
    else if d = .retest ∧ ¬(s.isRole .cell = true ∧ activeHasKey s key = true) then some .notHere
    else none

/-- DISPOSITION, in ACTIVE (R154, R155). -/
def dispose (sc : Scope) (key g : Nat) (d : Disposition) (s : State) : State × Answer :=
  match dispositionRefusal sc key g d s with
  | some r => (s, .refused r)
  | none =>
    let c := applyClear sc key g d s.own s
    let s1 := afterClear .applied sc key d s (sendAll (.clear sc key g d s.own) c.1, c.2)
    (s1, .done (be1 (inForceCount s1.holds.records) ++ be1 (flagCode s1.holds.overflow)))

/-- OPERATOR joins the reasons set of an active lot in IN_PASS or AWAITING_DISPOSITION that the hold
named matches (R141). -/
def noteOperator (sc : Scope) (key : Nat) (s : State) : State :=
  updateActive
    (fun a =>
      if a.phase != .finished && keyMatches (queryOf a.lot) sc key then
        { a with reasons := a.reasons ||| reasonBit .operator }
      else a) s

/-- PLACE HOLD (R141). At a frozen CELL the active lot's reasons are kept as they stand (R25). -/
def placeHoldCommand (sc : Scope) (key trigger : Nat) (s : State) : State × Answer :=
  let p := placeHold sc key .operator 0 trigger s
  match p.2 with
  | .already g =>
    (if s.isLive && s.isRole .cell then noteOperator sc key p.1 else p.1, .already g)
  | .placed g stored =>
    (p.1, .done (be2 g ++ be1 (flagCode stored) ++ be1 (flagCode p.1.holds.overflow)))

end Sys2Proof.Machine
end

