-- ==== Sys2Proof/Machine/Handler.lean ====
section
/-! DEFINITION. Machine/Handler.lean: the handler controller: its relation (spec/05 sections 5.1 to 5.3)
and its run control record (spec/06). INDEX-ENABLE and HANDLER-STATUS are judged once, at the end of each
event (R109, R110): the operations here change only what they depend on. -/
namespace Sys2Proof.Machine

/-! ## The relation (R78, R96) -/

/-- Enters FREE: the cell, the deadline and every relation timer are dropped, the free-since time is
set, and the stored permit is idle (R78, R96). -/
def enterFree (s : State) : State :=
  s.setHandler { s.handler with
    rel := .free, cell := 0, deadline := none, bindTimer := none, prevReserved := false,
    orphanTimer := none, freeSince := s.clock, permit := Permit.idle }

/-- Enters BOUND with a cell: the relation timers are dropped and the stored permit is idle (R84,
R96). -/
def enterBound (cell : Nat) (s : State) : State :=
  s.setHandler { s.handler with
    rel := .bound, cell := cell, deadline := none, bindTimer := none, prevReserved := false,
    orphanTimer := none, permit := Permit.idle }

/-- The reservation lapses: LAPSED to the reserving cell, FREE, RESERVATION_LAPSED (R81). -/
def lapseReservation (s : State) : State :=
  let n := s.handler.cell
  raise (.reservationLapsed n) (enterFree (sendTo n (.reserveReply .lapsed 0) s))

/-- The deadline has passed. -/
def deadlinePast (s : State) : Bool :=
  match s.handler.deadline with
  | some d => d ≤ s.now
  | none => false

/-- A failed handshake: BIND_FAILED, and back to the previous state; a reservation whose deadline is
past lapses in the same event (R81, R84). BIND_FAILED comes before RESERVATION_LAPSED in the event queue:
the model's choice (log entry 44). -/
def failHandshake (s : State) : State :=
  let s1 := raise (.handlerBindFailed s.handler.cell) s
  if s1.handler.prevReserved then
    let s2 := s1.setHandler { s1.handler with rel := .reserved, bindTimer := none, prevReserved := false }
    if deadlinePast s2 then lapseReservation s2 else s2
  else
    s1.setHandler { s1.handler with
      rel := .free, cell := 0, deadline := none, bindTimer := none, prevReserved := false }

/-- The relation ends in FREE, and UNBOUND is raised with the cell and a reason (R78). -/
def endRelation (reason : Nat) (s : State) : State :=
  raise (.unbound s.handler.cell reason) (enterFree s)

/-! ## The handler's answers (R79 to R84) -/

/-- HANDLER-WANTED (R79). -/
def handlerWanted (source kit : Nat) (temp : Int) (s : State) : State :=
  if s.isActive && !s.holds.overflow && s.handler.rel == .free && s.handler.kit == kit &&
      s.start.config.tempMin ≤ temp && temp ≤ s.start.config.tempMax then
    sendTo source (.handlerAvailable (ownFit s) (idleMinutes s)) s
  else s

/-- RESERVE (R80). -/
def reserve (source : Nat) (s : State) : State :=
  if !s.isActive then s
  else
    match s.handler.rel with
    | .free =>
      let m := s.start.config.reservation
      let s1 := s.setHandler { s.handler with
        rel := .reserved, cell := source, deadline := s.after (m * 60000) }
      raise (.handlerReserved source) (sendTo source (.reserveReply .ok m) s1)
    | .reserved =>
      if s.handler.cell = source then
        sendTo source (.reserveReply .ok (max 1 (s.minutesLeft s.handler.deadline))) s
      else sendTo source (.reserveReply .busy 0) s
    | .binding | .bound | .orphaned => sendTo source (.reserveReply .busy 0) s

/-- An UNBIND at the handler controller, in LEARNING or ACTIVE, from the cell concerned (R82). -/
def handlerUnbind (source : Nat) (r : UnbindReason) (s : State) : State :=
  if !s.isLive then s
  else
    match s.handler.rel with
    | .free => s
    | .reserved | .bound | .orphaned =>
      if s.handler.cell = source ∧ r ≠ .timeout then endRelation (unbindReasonCode r) s else s
    | .binding =>
      if s.handler.cell = source then
        (if r = .timeout then failHandshake s else endRelation (unbindReasonCode r) s)
      else s

/-- Sends BIND-REPLY with the handler's present figures (R83). -/
def sendBindReply (n : Nat) (r : BindResult) (s : State) : State :=
  sendTo n (.bindReply r (ownFit s) (siteMask s)) s

/-- The expected kit passes: 0 for any, else the installed one (R83). -/
def kitPasses (s : State) (kit : Nat) : Bool := kit == 0 || kit == s.handler.kit

/-- Starts, or restarts, the bind timer in BINDING for a cell (R83). -/
def startBinding (cell : Nat) (prevReserved : Bool) (s : State) : State :=
  s.setHandler { s.handler with
    rel := .binding, cell := cell, bindTimer := s.after s.start.config.bindTimeout,
    prevReserved := prevReserved }

/-- BIND-REQ (R83). -/
def bindReq (source kit : Nat) (s : State) : State :=
  if !s.isActive then s
  else
    match s.handler.rel with
    | .free =>
      if kitPasses s kit then startBinding source false (sendBindReply source .ok s)
      else sendBindReply source .mismatch s
    | .reserved =>
      if s.handler.cell ≠ source then sendBindReply source .busy s
      else if kitPasses s kit then startBinding source true (sendBindReply source .ok s)
      else sendBindReply source .mismatch s
    | .binding =>
      if s.handler.cell ≠ source then sendBindReply source .busy s
      else if kitPasses s kit then
        startBinding source s.handler.prevReserved (sendBindReply source .ok s)
      else sendBindReply source .mismatch s
    | .bound =>
      if s.handler.cell ≠ source then sendBindReply source .busy s
      else
        let s1 := sendBindReply source .ok s
        s1.setHandler { s1.handler with statusOwed := true }
    | .orphaned =>
      if s.handler.cell ≠ source then sendBindReply source .busy s
      else raise (.bound source) (enterBound source (sendBindReply source .ok s))

/-- BIND-CONFIRM (R84), in ACTIVE (R23). -/
def bindConfirm (source kit sites : Nat) (s : State) : State :=
  if s.isActive ∧ s.handler.rel = .binding ∧ s.handler.cell = source then
    if kit = s.handler.kit ∧ sites = s.start.config.siteCount then
      raise (.bound source) (enterBound source s)
    else failHandshake s
  else s

/-! ## The cell lost, back or restarted (R85) -/

/-- The cell concerned is lost: BOUND becomes ORPHANED (R85, R96). -/
def handlerPeerLost (n : Nat) (s : State) : State :=
  if s.handler.rel = .bound ∧ s.handler.cell = n then
    s.setHandler { s.handler with
      rel := .orphaned, orphanTimer := s.after (s.start.config.orphanTimeout * 60000),
      permit := Permit.idle }
  else s

/-- The cell concerned is back: ORPHANED becomes BOUND (R85). -/
def handlerPeerBack (n : Nat) (s : State) : State :=
  if s.handler.rel = .orphaned ∧ s.handler.cell = n then enterBound n s else s

/-- The cell concerned has restarted: FREE, UNBOUND(RESTART) (R85). -/
def handlerPeerRestart (n : Nat) (s : State) : State :=
  if s.handler.rel ≠ .free ∧ s.handler.cell = n then endRelation unboundRestart s else s

/-- The orphan timer's expiry (R85). -/
def orphanExpiry (s : State) : State :=
  endRelation unboundTimeout (sendTo s.handler.cell (.unbind .timeout) s)

/-! ## The permit and the soak (R95 to R100) -/

/-- The soak target set by a permit that names a lot (R97). -/
def permitTarget (temp : Int) (s : State) : State :=
  if s.handler.soak = .unset ∨ s.handler.target ≠ some temp then
    raise (.setpointRequest temp)
      (s.setHandler { s.handler with
        target := some temp, soakTimer := none, graceTimer := none, soak := .settling })
  else s

/-- The jam lot and jam count after a permit (R95, R101). -/
def permitJam (p : Permit) (h : Handler) : Handler :=
  if p.lotId ≠ 0 ∧ (p.lotId, p.index) ≠ h.jamLot then
    { h with jamLot := (p.lotId, p.index), jamCount := 0 }
  else h

/-- PERMIT (R95). -/
def takePermit (source : Nat) (p : Permit) (s : State) : State :=
  if s.isActive ∧ s.handler.rel = .bound ∧ s.handler.cell = source then
    let s1 := s.setHandler { permitJam p s.handler with permit := p }
    if p.lotId = 0 then s1 else permitTarget p.temp s1
  else s

/-- The soak time of the band a temperature lies in, in seconds (R98). -/
def bandSoak (c : Settings) (t : Int) : Nat :=
  if t < 15 then c.coldSoak else if t ≤ 35 then c.ambientSoak else c.hotSoak

/-- Starts a soak of some seconds; one of 0 goes straight to READY (R98). -/
def startSoak (seconds : Nat) (target : Int) (s : State) : State :=
  s.setHandler { s.handler with
    target := some target, graceTimer := none,
    soak := if seconds = 0 then .ready else .soaking,
    soakTimer := if seconds = 0 then none else s.after (seconds * 1000) }

/-- An answer that reports the soak state. -/
def soakAnswer (s : State) : State × Answer := (s, .done (be1 (soakStateCode s.handler.soak)))

/-- TEMP REACHED (R98). -/
def tempReached (t : Int) (s : State) : State × Answer :=
  match s.handler.soak with
  | .unset => soakAnswer (startSoak (bandSoak s.start.config t) t s)
  | .settling =>
    if s.handler.target = some t then soakAnswer (startSoak (bandSoak s.start.config t) t s)
    else (s, .refused .wrongSetpoint)
  | .soaking | .ready =>
    if s.handler.target = some t then soakAnswer s else (s, .refused .wrongSetpoint)
  | .excursion =>
    if s.handler.target = some t then soakAnswer (startSoak s.start.config.recoverySoak t s)
    else (s, .refused .wrongSetpoint)

/-- TEMP LOST (R99). -/
def tempLost (s : State) : State × Answer :=
  match s.handler.soak with
  | .unset | .settling | .excursion => soakAnswer s
  | .soaking => soakAnswer (s.setHandler { s.handler with soak := .settling, soakTimer := none })
  | .ready =>
    let g := s.start.config.excursionGrace
    soakAnswer (s.setHandler { s.handler with
      soak := if g = 0 then .settling else .excursion,
      graceTimer := if g = 0 then none else s.after (g * 1000) })

/-- The soak timer's expiry (R100). -/
def soakExpiry (s : State) : State :=
  s.setHandler { s.handler with soak := .ready, soakTimer := none }

/-- The grace timer's expiry (R100). -/
def graceExpiry (s : State) : State :=
  s.setHandler { s.handler with soak := .settling, graceTimer := none }

/-! ## Jam (R101, R102) -/

/-- The JAM latch taken by an assertion (R101). -/
def latchJam (s : State) : State :=
  if s.handler.jamLatch then s
  else
    raise (.jam s.handler.jamLot.1 s.handler.jamLot.2)
      (s.setHandler { s.handler with
        jamLatch := true,
        jamCount := if s.handler.jamLot.1 = 0 then s.handler.jamCount
          else min (s.handler.jamCount + 1) 255 })

/-- An assertion of the JAM input, acted on by the handler controller in LEARNING and ACTIVE (R101). -/
def jamAsserted (s : State) : State := if s.isRole .handler && s.isLive then latchJam s else s

/-- RE-ARM (R102). -/
def reArm (s : State) : State × Answer :=
  if s.pins.jamIn then (s, .refused .jamActive)
  else (s.setHandler { s.handler with jamLatch := false }, .done [])

/-! ## Sites and contactor life (R103 to R108) -/

/-- Changes site n. -/
def updateSite (n : Nat) (f : Site → Site) (s : State) : State :=
  s.setHandler { s.handler with sites := modifyAt f (n - 1) s.handler.sites }

/-- A site goes down, or changes its reason, and SITE_DOWN is raised (R104, R105). -/
def takeDown (n : Nat) (r : SiteStatus) (s : State) : State :=
  raise (.siteDown n r) (updateSite n (fun x => { x with status := r }) s)

/-- The counter is at or above the contactor limit (R104). -/
def lifeReached (c : Settings) (counter : Nat) : Bool :=
  match contactorLimit c with
  | some l => l ≤ counter
  | none => false

/-- The contactor limit applied to a site whose counter was counted or loaded (R104). -/
def applyLimit (n : Nat) (s : State) : State :=
  let x := siteAt s.handler n
  if lifeReached s.start.config x.counter && x.status != .contactLife then takeDown n .contactLife s
  else s

/-- One insertion at site n (R103). -/
def insertUnit (s : State) (n : Nat) : State :=
  applyLimit n (updateSite n (fun x => { x with counter := min (x.counter + 1) 4294967295 }) s)

/-- UNIT INDEXED (R103): the sites in both the mask given and the present site mask are counted, and
the INDEX-ENABLE level reported is the one the command finds (log entry 19). Sites that wear out together
raise SITE_DOWN lowest first: the model's choice (log entry 37). -/
def unitIndexed (m : SiteMask) (s : State) : State × Answer :=
  let counted := m &&& siteMask s
  ((siteNumbers.filter (maskHas counted)).foldl insertUnit s,
    .done (be1 counted.toNat ++ be1 (flagCode s.pins.indexEn)))

/-- KIT CHANGED (R108). -/
def kitChanged (kit : Nat) (s : State) : State × Answer :=
  (s.setHandler { s.handler with kit := kit }, .done [])

/-- CONTACTOR REPLACED (R106). -/
def contactorReplaced (n : Nat) (s : State) : State × Answer :=
  (updateSite n
    (fun x => { status := if x.status = .contactLife then .up else x.status, counter := 0 }) s,
    .done [])

/-- CONTACTOR COUNT (R107). -/
def contactorCount (n value : Nat) (s : State) : State × Answer :=
  match s.handler.rel with
  | .free | .reserved =>
    (applyLimit n (updateSite n (fun x => { x with counter := value }) s), .done [])
  | .binding | .bound | .orphaned => (s, .refused .busy)

/-- SITE RESTORE (R106). -/
def siteRestore (n : Nat) (s : State) : State × Answer :=
  let x := siteAt s.handler n
  if x.status = .contactLife && lifeReached s.start.config x.counter then (s, .refused .lifeSpent)
  else (updateSite n (fun x => { x with status := .up }) s, .done [])

/-- A SITE-DOWN at the handler controller (R105). -/
def siteDownFrame (source n : Nat) (r : SiteStatus) (s : State) : State :=
  if s.isActive ∧ s.handler.rel = .bound ∧ s.handler.cell = source ∧ siteOk s n = true ∧
      (siteAt s.handler n).status = .up then takeDown n r s
  else s

end Sys2Proof.Machine
end

