-- ==== Sys2Proof/Machine/Peers.lean ====
section
/-! DEFINITION. Machine/Peers.lean: the peer directory of spec/02: hearing a peer, its loss, the three
notices as each receiver takes them (R29 to R33), and the station's own BEACON (R27, R28). A notice goes
to the enabled role block, then to the hold table, and its event is raised after it (log entry 11). -/
namespace Sys2Proof.Machine

/-! ## The table -/

/-- Changes the entry of a station. -/
def updatePeer (n : Nat) (f : PeerEntry → PeerEntry) (s : State) : State :=
  s.setPeers { s.peers with table := modifyAt f (n - 1) s.peers.table }

/-! ## The notices (R33) -/

/-- Every sighting recorded with a lost or restarted STAGE is removed (R57). -/
def sightingsPeerGone (n : Nat) (s : State) : State :=
  setSightings (s.cell.sightings.filter fun x => x.stage != n) s

/-- A peer-lost notice at the role block. At a CELL the reservation part acts before the binding part: the
model's choice (log entry 45). -/
def roleLost (n : Nat) (s : State) : State :=
  if s.isLive then
    match s.start.role with
    | .stage => stagePeerGone n false s
    | .cell => bindingPeerLost n (reservationPeerGone n false (sightingsPeerGone n s))
    | .handler => handlerPeerLost n s
    | .pack => s
  else s

/-- A restart notice at the role block. At a CELL the reservation part acts before the binding part, and
its frames and events come first: the model's choice (log entry 45). -/
def roleRestart (n : Nat) (s : State) : State :=
  if s.isLive then
    match s.start.role with
    | .stage => stagePeerGone n true s
    | .cell => bindingPeerRestart n (reservationPeerGone n true (sightingsPeerGone n s))
    | .handler => handlerPeerRestart n s
    | .pack => s
  else s

/-- A peer-back notice at the role block. -/
def roleBack (n : Nat) (s : State) : State :=
  if s.isLive then
    match s.start.role with
    | .cell => bindingPeerBack n s
    | .handler => handlerPeerBack n s
    | .stage | .pack => s
  else s

/-- A peer-lost notice with its event (R31, R33). -/
def noticeLost (n : Nat) (s : State) : State := raise (.peerLost n) (resyncPeerGone n (roleLost n s))

/-- A restart notice with its event (R29, R33). -/
def noticeRestart (n : Nat) (s : State) : State :=
  raise (.peerRestart n) (resyncPeerGone n (roleRestart n s))

/-- A peer-back notice with its event (R29, R33); the hold table does nothing on one (R153). -/
def noticeBack (n : Nat) (s : State) : State := raise (.peerBack n) (roleBack n s)

/-! ## Hearing and losing a peer (R29, R31) -/

/-- The entry of a peer a qualified frame was heard from. -/
def PeerEntry.heard (e : PeerEntry) (clock moment : Nat) (fresh : Bool) : PeerEntry :=
  { e with presence := .present, fresh := fresh, lastHeard := some clock, lossTimer := some moment }

/-- A qualified frame from a peer at the peer directory (R29). -/
def hear (n : Nat) (fresh : Bool) (s : State) : State :=
  let e := peerAt s.peers n
  let s1 := updatePeer n (·.heard s.clock (s.now + 3 * s.beaconMs) fresh) s
  match e.presence, fresh, e.fresh with
  | .unknown, _, _ => s1
  | .present, true, false | .lost, true, false => noticeRestart n s1
  | .present, _, _ => s1
  | .lost, _, _ => noticeBack n s1

/-- A PRESENT peer's loss timer expires (R31). The beaconed fields stay, but the peer is not compared
again before its next BEACON (R30, R153). -/
def losePeer (n : Nat) (s : State) : State :=
  noticeLost n
    (updatePeer n
      (fun e => { e with presence := .lost, lostLatch := true, beaconSince := false, lossTimer := none })
      s)

/-! ## Beacons (R27, R30) -/

/-- A BEACON handed to the peer directory: the entry takes its fields, and the hold table compares the
count and digest (R30, R150). -/
def recordBeacon (n : Nat) (b : BeaconBody) (s : State) : State :=
  resyncTest (updatePeer n (fun e => { e with beacon := some b, beaconSince := true }) s)

/-- A BEACON delivered: the peer directory and the hold table, then the dispatch controller of a CELL
(R30, R86, R93). -/
def deliverBeacon (n : Nat) (b : BeaconBody) (s : State) : State :=
  let s1 := recordBeacon n b s
  if s1.isLive && s1.isRole .cell then cellBeacon n b.block s1 else s1

/-- The beacon timer's expiry: a BEACON is posted from the present state, and the timer starts again
(R27). -/
def beaconExpiry (s : State) : State :=
  let s1 := postBeacon (beaconNow s) s
  s1.setPeers { s1.peers with beaconTimer := s1.after s1.beaconMs }

end Sys2Proof.Machine
end

