-- ==== Sys2Proof/Machine/Settle.lean ====
section
/-! DEFINITION. Machine/Settle.lean: what every event ends with (log entry 10): the resync test after a
change of the list (R150), the CELL's claims, idle timer, HANDLER-WANTED and PERMIT (R58, R60, R75,
R68), the HANDLER's status (R110), the spacing timer, and the two output pins (R109, R178). -/
namespace Sys2Proof.Machine

/-! ## The hold table -/

/-- The resync conditions are tested when this station's own digest or count changed (R150). -/
def settleHolds (before s : State) : State :=
  if s.holds.digest = before.holds.digest ∧ s.holds.records.length = before.holds.records.length then s
  else resyncTest s

/-! ## The cell -/

/-- The cell has no active lot and an empty queue (R75). -/
def cellIdle (c : Cell) : Bool := c.active.isNone && c.queue.isEmpty

/-- The idle timer's upkeep: it starts when the cell is found idle, and is cancelled when a lot joins
the queue or the active slot (R75). -/
def idleUpkeep (s : State) : State :=
  if cellIdle s.cell then
    if s.cell.idleTimer.isNone && !s.cell.idleElapsed && s.start.config.idleThreshold != 0 then
      s.setCell { s.cell with idleTimer := s.after (s.start.config.idleThreshold * 1000) }
    else s
  else s.setCell { s.cell with idleTimer := none, idleElapsed := false }

/-- Sends PERMIT to the bound handler and keeps it in the active slot (R68). -/
def sendPermit (s : State) : State :=
  let p := permitNow s
  updateActive (fun a => { a with lastPermit := some p }) (sendTo s.cell.binding.handler (.permit p) s)

/-- The PERMIT of an event: sent when the binding became BOUND, or is BOUND and the permit changed
(R68). -/
def settlePermit (before s : State) : State :=
  if s.cell.binding.state = .bound ∧
      (before.cell.binding.state ≠ .bound ∨ permitNow before ≠ permitNow s) then sendPermit s
  else s

/-- The end of an event at an ACTIVE CELL. -/
def settleCell (before s : State) : State :=
  if s.isActive && s.isRole .cell then
    settlePermit before (wantedTest (idleUpkeep (claimLoop Config.cellQueueSize s)))
  else s

/-! ## The handler -/

/-- Something that HANDLER-STATUS reports has changed, or one is owed (R110). -/
def statusDue (before s : State) : Bool :=
  before.handler.rel != .bound || s.handler.statusOwed || before.pins.indexEn != indexConditions s ||
    before.handler.soak != s.handler.soak || siteMask before != siteMask s ||
    siteReasons before != siteReasons s || before.handler.jamLatch != s.handler.jamLatch ||
    before.handler.jamCount != s.handler.jamCount

/-- The end of an event at a HANDLER: while ACTIVE and BOUND, at most one HANDLER-STATUS, which restarts
the status timer; otherwise the timer is stopped (R110). -/
def settleHandler (before s : State) : State :=
  if s.isRole .handler && s.isActive && s.handler.rel == .bound then
    if statusDue before s then
      let s1 := sendTo s.handler.cell (.handlerStatus (statusNow s)) s
      s1.setHandler { s1.handler with statusTimer := s1.after s1.beaconMs, statusOwed := false }
    else s
  else s.setHandler { s.handler with statusTimer := none, statusOwed := false }

/-! ## The pins -/

/-- The two output pins: INDEX-ENABLE by its conditions (R109), EVENT while the event queue holds a
record (R178). -/
def settlePins (s : State) : State :=
  s.setPins { s.pins with indexEn := indexConditions s, event := !s.port.events.isEmpty }

/-- The end of an event. -/
def settle (before s : State) : State :=
  settlePins (spacingUpkeep (settleHandler before (settleCell before (settleHolds before s))))

/-- One event of the device: its body, and its end. A part held in reset takes none (R21). -/
def event (body : State → State) (s : State) : State :=
  if s.pins.inReset then s else settle s (body s)

end Sys2Proof.Machine
end

