-- ==== Sys2Proof/Machine/Link.lean ====
section
/-! DEFINITION. Machine/Link.lean: the line interface unit's own events (R8 to R13): joining, carrier,
the attempt, the clean end, the collision and its disturbance, and the backoff; and the watch slots a
frame is offered to (R179, R180). -/
namespace Sys2Proof.Machine

/-! ## Watch slots (R180) -/

/-- Slot n hits on a frame of a kind that names its scope and key: WATCH_HIT, and it is disarmed. -/
def offerSlot (kind : Nat) (keys : List (Scope × Nat)) (s : State) (n : Nat) : State :=
  match s.port.watches.getD n none with
  | some w =>
    if keys.contains w then
      raise (.watchHit n kind w.1 w.2)
        (s.setPort { s.port with watches := modifyAt (fun _ => none) n s.port.watches })
    else s
  | none => s

/-- A frame offered to the watch slots, in slot order. -/
def offerWatches (p : Payload) (s : State) : State :=
  [0, 1, 2, 3].foldl (offerSlot (kindCode p) (watchKeys p)) s

/-! ## The line -/

/-- The transmitter's state outside an attempt and a backoff. -/
def restingTx (queue : List QFrame) : TxState := if queue.isEmpty then .empty else .waiting

/-- The line has been recessive for 10 µs after START or a soft restart: the count begins with L = 0, and
the station receives from now on (R13). -/
def joinLine (s : State) : State :=
  if s.link.line = .joining then s.setLink { s.link with last := 0, line := .counting 0 } else s

/-- The transmitter after a carrier of another station: one in the round of a backoff ends the skipped
round (R11). -/
def txAfterCarrier (l : Link) (point : CountPoint) : TxState :=
  if l.tx = .backoff ∧ point = .round then restingTx l.queue else l.tx

/-- A carrier of another station during the count (R8, R11); one in the guard leaves the round still to
be skipped (log entry 20). -/
def carrier (point : CountPoint) (s : State) : State :=
  match s.link.line with
  | .counting _ => s.setLink { s.link with line := .busy, tx := txAfterCarrier s.link point }
  | .detached | .joining | .busy => s

/-- The skipped round has passed with the line idle (R11). -/
def roundOver (s : State) : State :=
  match s.link.tx, s.link.line with
  | .backoff, .counting _ => s.setLink { s.link with tx := restingTx s.link.queue }
  | _, _ => s

/-- The header of an attempt (R2). -/
def attemptHeader (s : State) (a : Address) : Header :=
  { addr := a, source := s.own, fresh := s.start.station == .learning }

/-- The station's own position starts with the line idle: the head frame is completed and its
transmission begins (R2, R3, R9). -/
def beginAttempt (s : State) : State :=
  match s.link.tx, s.link.line, s.link.queue with
  | .waiting, .counting _, f :: _ =>
    s.setLink { s.link with
      tx := .sending, line := .busy, onWire := lineLevels (frameBytes (attemptHeader s f.addr) f.payload) }
  | _, _, _ => s

/-- The frame being sent ends without collision: it leaves the queue, the station is the last sender,
and the frame is offered to the watch slots (R6, R7, R11). -/
def endClean (s : State) : State :=
  match s.link.tx, s.link.queue with
  | .sending, f :: q =>
    offerWatches f.payload
      (s.setLink { s.link with
        last := s.own, queue := q, tx := restingTx q, attempts := 0, line := .counting s.own,
        onWire := [] })
  | _, _ => s

/-- A dominant bit read while sending recessive: the disturbance begins (R10). -/
def collide (s : State) : State :=
  if s.link.tx = .sending then s.setLink { s.link with tx := .disturbing, onWire := [] } else s

/-- The disturbance ends: the attempt count rises, the count starts, and backoff begins; at the eighth
collision the frame is discarded and TX_ABANDON set (R11). -/
def endDisturbance (s : State) : State :=
  if s.link.tx = .disturbing then
    let l := { s.link with tx := .backoff, line := .counting s.link.last }
    if 8 ≤ s.link.attempts + 1 then
      s.setLink { l with queue := l.queue.drop 1, attempts := 0,
                         latches := { l.latches with txAbandon := true } }
    else s.setLink { l with attempts := s.link.attempts + 1 }
  else s

/-- The transmitter after a transmission of another station has ended: one that came with the count
running, its carrier not noted by itself, began in the round (log entry 20). -/
def Link.afterTransmission (l : Link) (last : Nat) : Link :=
  { l with
    last := last, line := .counting last,
    tx := match l.line with
      | .counting _ => txAfterCarrier l .round
      | .detached | .joining | .busy => l.tx }

/-- The station receives: it is out of START, has joined the segment (R13), and is not itself
transmitting. -/
def receiving (s : State) : Bool :=
  s.start.station != .start && s.link.line != .joining && s.link.tx != .sending &&
    s.link.tx != .disturbing

end Sys2Proof.Machine
end

