-- ==== Sys2Proof/Machine/Start.lean ====
section
/-! DEFINITION. Machine/Start.lean: the start unit of spec/02: the image read and its settings (R19, R20,
R183), the station states, entry to SILENT (R25), and the two resets (R21, R26). -/
namespace Sys2Proof.Machine

/-! ## The image (R19, spec/11 section 11.6) -/

/-- Byte i of the image as read: all ones where the memory did not drive it. -/
def imageByte (r : ImageRead) (i : Nat) : Byte := r.data.getD i 0xFF#8

/-- Word i of the image, upper byte first. -/
def imageWord (r : ImageRead) (i : Nat) : Nat := num [imageByte r (2 * i), imageByte r (2 * i + 1)]

/-- The bytes of words 0 to 94. -/
def imageBody (r : ImageRead) : List Byte := (List.range 190).map (imageByte r)

/-- The image outcome (R19). -/
def imageOutcome (r : ImageRead) : ImageOutcome :=
  if !(r.ackWrite && r.ackByte && r.ackRead) then .absent
  else if imageWord r 0 ≠ 0x4A16 then .noSignature
  else if (crc16 (imageBody r)).toNat ≠ imageWord r 95 then .badCrc
  else .loaded

/-! ## Range adjustments (R20, R183): each gives the value and whether it was adjusted -/

/-- A number set to the nearer end of its range. -/
def clampNat (lo hi n : Nat) : Nat × Bool :=
  if n < lo then (lo, true) else if hi < n then (hi, true) else (n, false)

/-- A word read as two's complement. -/
def signed (n : Nat) : Int := if n < 32768 then n else (n : Int) - 65536

/-- A temperature set to the nearer end of −60 to +200 °C. -/
def clampTemp (t : Int) : Int × Bool :=
  if t < -60 then (-60, true) else if 200 < t then (200, true) else (t, false)

/-- A site count: the largest of 1, 2, 4 and 8 that is not above it, 1 for 0. -/
def clampSites (n : Nat) : Nat × Bool :=
  (if 8 ≤ n then 8 else if 4 ≤ n then 4 else if 2 ≤ n then 2 else 1, !siteCountOk n)

/-- A retestable mask without the good bins. -/
def clampRetestable (good retestable : Mask16) : Mask16 × Bool :=
  (retestable &&& ~~~good, (good &&& retestable) != 0#16)

/-- The bin-limit pairs of a G4 entry: bin 0 is unused; bin 1, a bin above 16 and a bin named before are
dropped; limits are clamped. -/
def loadPairs : List Nat → List (Nat × Nat) → List (Nat × Nat) × Bool
  | _, [] => ([], false)
  | seen, (b, l) :: ps =>
    if b = 0 then loadPairs seen ps
    else if b = 1 ∨ 16 < b ∨ seen.contains b = true then ((loadPairs seen ps).1, true)
    else
      let c := clampNat 0 4096 l
      let r := loadPairs (b :: seen) ps
      ((b, c.1) :: r.1, c.2 || r.2)

/-- A word carrying LYA: LYA in bits 12–0, the retest passes in bits 15–14 (R183). -/
def yieldWord (w : Nat) : Nat × Nat := (w % 8192, w / 16384)

/-! ## The groups -/

/-- The group's code in the load-control word says it is loaded: 01 (R20). -/
def groupLoaded (control group : Nat) : Bool := control / 4 ^ (group - 1) % 4 == 1

/-- G1: words 2–7. -/
def loadG1 (w : Nat → Nat) (c : Settings) : Settings × Bool :=
  let b := clampNat 1 8 (w 2)
  let x := clampNat 50 1000 (w 3)
  let a := clampNat 100 2000 (w 4)
  let r := clampNat 1 120 (w 5)
  let t := clampNat 200 5000 (w 6)
  let o := clampNat 1 60 (w 7)
  ({ c with beaconInterval := b.1, contestWindow := x.1, acceptTimeout := a.1, reservation := r.1,
            bindTimeout := t.1, orphanTimeout := o.1 },
    b.2 || x.2 || a.2 || r.2 || t.2 || o.2)

/-- G2: words 8 and 9. -/
def loadG2 (w : Nat → Nat) (c : Settings) : Settings × Bool :=
  let z := clampNat 0 15 (w 9)
  ({ c with zoneMask := BitVec.ofNat 16 (w 8), offerZone := z.1 }, z.2)

/-- G3: words 10–20. -/
def loadG3 (w : Nat → Nat) (c : Settings) : Settings × Bool :=
  let k := clampNat 0 255 (w 10)
  let lo := clampTemp (signed (w 11))
  let hi := clampTemp (signed (w 12))
  let n := clampSites (w 13)
  let cold := clampNat 0 3600 (w 16)
  let amb := clampNat 0 3600 (w 17)
  let hot := clampNat 0 3600 (w 18)
  let rec_ := clampNat 0 600 (w 19)
  let g := clampNat 0 120 (w 20)
  ({ c with kit := k.1, tempMin := lo.1, tempMax := if hi.1 < lo.1 then lo.1 else hi.1,
            siteCount := n.1, contactorField := w 14, granularity := (w 15).testBit 0,
            coldSoak := cold.1, ambientSoak := amb.1, hotSoak := hot.1, recoverySoak := rec_.1,
            excursionGrace := g.1 },
    k.2 || lo.2 || hi.2 || decide (hi.1 < lo.1) || n.2 || cold.2 || amb.2 || hot.2 || rec_.2 || g.2)

/-- G6: words 21–30. -/
def loadG6 (w : Nat → Nat) (c : Settings) : Settings × Bool :=
  let t := clampNat 0 3600 (w 22)
  ({ c with kitChangeAllowed := (w 21).testBit 0, idleThreshold := t.1,
            programs := ([23, 24, 25, 26, 27, 28, 29, 30].map w).filter (· != 0) }, t.2)

/-- G7: word 31. -/
def loadG7 (w : Nat → Nat) (c : Settings) : Settings × Bool :=
  let t := clampNat 0 255 (w 31)
  ({ c with countTolerance := t.1 }, t.2)

/-- The default limit entry of G4: words 32–46. -/
def readDefaultEntry (w : Nat → Nat) : LimitEntry × Bool :=
  let y := yieldWord (w 32)
  let lya := clampNat 0 4096 y.1
  let lyf := clampNat 0 4096 (w 33)
  let nMin := clampNat 1 65535 (w 34)
  let nSite := clampNat 1 65535 (w 35)
  let sdl := clampNat 0 4096 (w 36)
  let cf := clampNat 0 255 (w 37)
  let jam := clampNat 0 255 (w 38)
  let good : Mask16 := BitVec.ofNat 16 (w 39)
  let ret := clampRetestable good (BitVec.ofNat 16 (w 40))
  let ps := loadPairs []
    [(w 41 / 256, w 43), (w 41 % 256, w 44), (w 42 / 256, w 45), (w 42 % 256, w 46)]
  ({ lya := lya.1, lyf := lyf.1, nMin := nMin.1, nSite := nSite.1, sdl := sdl.1, cf := cf.1,
     good := good, retestable := ret.1, passes := y.2, binLimits := ps.1, jamLimit := jam.1 },
    lya.2 || lyf.2 || nMin.2 || nSite.2 || sdl.2 || cf.2 || jam.2 || ret.2 || ps.2)

/-- G4: the default entry. -/
def loadG4 (w : Nat → Nat) (c : Settings) : Settings × Bool :=
  let e := readDefaultEntry w
  ({ c with limits := { c.limits with default := e.1 } }, e.2)

/-- The product entry in a slot of G5, completed from the default entry (R183). -/
def readProductEntry (w : Nat → Nat) (d : LimitEntry) (base : Nat) : LimitEntry × Bool :=
  let y := yieldWord (w (base + 1))
  let lya := clampNat 0 4096 y.1
  let lyf := clampNat 0 4096 (w (base + 2))
  let nMin := clampNat 1 65535 (w (base + 3))
  let good : Mask16 := BitVec.ofNat 16 (w (base + 4))
  let ret := clampRetestable good (BitVec.ofNat 16 (w (base + 5)))
  ({ d with lya := lya.1, lyf := lyf.1, nMin := nMin.1, good := good, retestable := ret.1,
            passes := y.2 },
    lya.2 || lyf.2 || nMin.2 || ret.2)

/-- One slot of G5: product 0 is unused, and a product named before is dropped (R20). -/
def loadSlot (w : Nat → Nat) (d : LimitEntry) (acc : List (Nat × LimitEntry) × Bool) (slot : Nat) :
    List (Nat × LimitEntry) × Bool :=
  let p := w (47 + 6 * slot)
  if p = 0 then acc
  else if acc.1.any fun x => x.1 == p then (acc.1, true)
  else
    let e := readProductEntry w d (47 + 6 * slot)
    (acc.1 ++ [(p, e.1)], acc.2 || e.2)

/-- G5: words 47–94, after G4. -/
def loadG5 (w : Nat → Nat) (c : Settings) : Settings × Bool :=
  let r := [0, 1, 2, 3, 4, 5, 6, 7].foldl (loadSlot w c.limits.default) ([], false)
  ({ c with limits := { c.limits with products := r.1 } }, r.2)

/-- A group taken from the image when its code says so. -/
def loadGroup (w : Nat → Nat) (group : Nat) (load : (Nat → Nat) → Settings → Settings × Bool)
    (c : Settings × Bool) : Settings × Bool :=
  if groupLoaded (w 1) group then
    let r := load w c.1
    (r.1, c.2 || r.2)
  else c

/-- The configuration of an image whose outcome is LOADED, and CONFIG_CLAMPED (R20). -/
def loadImage (w : Nat → Nat) : Settings × Bool :=
  loadGroup w 5 loadG5 (loadGroup w 4 loadG4 (loadGroup w 7 loadG7 (loadGroup w 6 loadG6
    (loadGroup w 3 loadG3 (loadGroup w 2 loadG2 (loadGroup w 1 loadG1 (Settings.defaults, false)))))))

/-- The configuration an image read leaves (R19). -/
def configOf (r : ImageRead) : Settings × Bool :=
  if imageOutcome r = .loaded then loadImage (imageWord r) else (Settings.defaults, false)

/-! ## Station states -/

/-- Enters LEARNING: the learning timer, the beacon timer, and the joining of the segment (R13, R22,
R27). A JAM input already active counts as an assertion (R101). -/
def enterLearning (s : State) : State :=
  let s1 := s.setStart { s.start with
    station := .learning, cause := .none, learning := s.after (3 * s.beaconMs) }
  let s2 := s1.setPeers { s1.peers with beaconTimer := s1.after (s1.own * 25) }
  let s3 := resyncTest (s2.setLink { s2.link with tx := .empty, line := .joining })
  if s3.pins.jamIn then jamAsserted s3 else s3

/-- The CELL's timers cancelled (R25, R68, R73, R74, R75, R86). -/
def Cell.stopTimers (c : Cell) : Cell :=
  { c with
    binding := { c.binding with timer := none },
    reservation := match c.reservation with
      | .none => .none
      | .collecting k t cs _ => .collecting k t cs none
      | .reserving k t n cs _ => .reserving k t n cs none
      | .reserved n f _ => .reserved n f none,
    permitTimer := none, deliveryTimer := none, idleTimer := none, idleElapsed := false,
    wantedSpacing := none }

/-- The STAGE's timers cancelled (R25, R43). -/
def Stage.stopTimers (g : Stage) : Stage :=
  { entries := g.entries.map fun e => { e with window := none, accept := none }, offerTimer := none }

/-- The HANDLER's timers cancelled, and its stored permit idle (R25, R78, R94, R96). -/
def Handler.stopTimers (h : Handler) : Handler :=
  { h with deadline := none, bindTimer := none, orphanTimer := none, soakTimer := none,
           graceTimer := none, statusTimer := none, permit := Permit.idle }

/-- The resync record on entry to SILENT (R156). -/
def Resync.stop (r : Resync) : Resync := { r with waiting := none, spacing := none }

/-- Enters SILENT (R13, R25). -/
def enterSilent (cause : SilentCause) (s : State) : State :=
  let s1 := s.setStart { s.start with station := .silent, cause := cause, learning := none }
  let s2 := s1.setPeers { s1.peers with beaconTimer := none }
  let s3 := s2.setLink { s2.link with queue := [], tx := .off, attempts := 0, onWire := [] }
  let s4 := setResync s3.holds.resync.stop s3
  ((s4.setStage s4.stage.stopTimers).setCell s4.cell.stopTimers).setHandler s4.handler.stopTimers

/-- The image read has reached its outcome (R22). -/
def endStart (r : ImageRead) (s : State) : State :=
  if s.start.station ≠ .start then s
  else
    let c := configOf r
    let s1 := s.setStart { s.start with image := imageOutcome r, clamped := c.2, config := c.1 }
    let s2 := (s1.setLimits c.1.limits).setHandler (Handler.reset c.1.kit)
    if !s2.numberValid then
      enterSilent .badNumber (s2.setLink { s2.link with line := .joining })
    else if imageOutcome r = .badCrc then
      enterSilent .imageBad (s2.setLink { s2.link with line := .joining })
    else enterLearning s2

/-- Enters ACTIVE (R24): a STAGE's offer timer starts, and the resync conditions are tested (R43,
R150). -/
def enterActive (s : State) : State :=
  let s1 := s.setStart { s.start with station := .active, learning := none }
  let s2 :=
    if s1.isRole .stage then
      s1.setStage { s1.stage with offerTimer := s1.after (s1.own * 25) }
    else s1
  resyncTest s2

/-! ## The two resets (R21, R26) -/

/-- The role the straps name (spec/11 section 11.7). -/
def roleStrap (straps : BitVec 2) : Role := (roleOf straps.toNat).getD .pack

/-- A full reset that begins during a transaction abandons it: what ends it later executes nothing
(R169). -/
def abandonTransaction (before s : State) : State :=
  s.setPort { s.port with abandoned := before.port.selected || before.port.abandoned }

/-- RESET released, or power come up: a full reset, the straps sampled (R18, R21). -/
def fullReset (number : BitVec 6) (role : BitVec 2) (s : State) : State :=
  abandonTransaction s (State.fullReset number.toNat (roleStrap role) false s.pins.jamIn s.pending)

/-- RESET asserted: the part holds itself in reset (R21). -/
def holdReset (s : State) : State :=
  abandonTransaction s (State.fullReset s.start.number s.start.role true s.pins.jamIn s.pending)

/-- The JAM input goes active: its change is acted on unless the part is held in reset (R101). -/
def assertJam (s : State) : State :=
  let raised := s.setPins { s.pins with jamIn := true }
  if s.pins.inReset then raised
  else if s.pins.jamIn then s
  else settle s (jamAsserted raised)

/-- The JAM input goes inactive: the latch stays as it is (R101). -/
def releaseJam (s : State) : State := s.setPins { s.pins with jamIn := false }

/-- A soft restart (R26). -/
def softRestart (s : State) : State :=
  let r := State.fullReset s.start.number s.start.role false s.pins.jamIn s.pending
  let r1 := r.setStart { r.start with
    image := s.start.image, clamped := s.start.clamped, config := s.start.config }
  let r2 := (r1.setLimits s.start.config.limits).setHandler (Handler.reset s.start.config.kit)
  enterLearning (r2.setPort (Port.reset 0x0B))

end Sys2Proof.Machine
end

