-- ==== Sys2Proof/Machine/Receive.lean ====
section
/-! DEFINITION. Machine/Receive.lean: receive qualification and the hand-on of a qualified frame (R6, R14
to R17), and the delivery of a frame to the block that takes it (R5). -/
namespace Sys2Proof.Machine

/-! ## Latches (R16) -/

/-- Sets the FRAMING latch. -/
def latchFraming (s : State) : State :=
  s.setLink { s.link with latches := { s.link.latches with framing := true } }
/-- Sets the CHECK latch. -/
def latchCheck (s : State) : State :=
  s.setLink { s.link with latches := { s.link.latches with check := true } }
/-- Sets the ADDRESS latch. -/
def latchAddress (s : State) : State :=
  s.setLink { s.link with latches := { s.link.latches with address := true } }
/-- Sets the KIND latch. -/
def latchKind (s : State) : State :=
  s.setLink { s.link with latches := { s.link.latches with kind := true } }
/-- Sets the CONTENT latch. -/
def latchContent (s : State) : State :=
  s.setLink { s.link with latches := { s.link.latches with content := true } }

/-! ## Delivery (R5) -/

/-- A frame delivered to the role block: a SILENT station's is frozen and takes none (R25). -/
def deliverToRole (source : Nat) (p : Payload) (s : State) : State :=
  if !s.isLive then s
  else
    match p with
    | .offer l => cellOffer source l s
    | .claim lot ix sc ow => stageClaim source lot ix sc ow s
    | .grant lot ix c sc => cellGrant source lot ix c sc s
    | .accept lot ix a sc => stageAccept source lot ix a sc s
    | .revoke lot ix r => cellRevoke source lot ix r s
    | .return_ lot ix r => stageReturn source lot ix r s
    | .lotDone c => if s.isRole .stage then stageLotDone c s else packLotDone c s
    | .doneTaken lot ix => cellDoneTaken source lot ix s
    | .handlerWanted k t => handlerWanted source k t s
    | .handlerAvailable f m => cellAvailable source f m s
    | .reserve => reserve source s
    | .reserveReply r m => cellReserveReply source r m s
    | .bindReq k => bindReq source k s
    | .bindReply r f m => cellBindReply source r f m s
    | .bindConfirm k n => bindConfirm source k n s
    | .unbind r => if s.isRole .cell then cellUnbind source r s else handlerUnbind source r s
    | .permit q => takePermit source q s
    | .handlerStatus b => cellStatus source b s
    | .siteDown n r => siteDownFrame source n r s
    | .beacon _ | .release _ | .hold _ | .clear _ _ _ _ _ | .holdListReq _ | .holdList _ _ _ _
    | .holdListNone _ _ | .raw _ _ => s

/-- A frame that has passed the CONTENT check, delivered to the block that takes it (R5). -/
def deliver (source : Nat) (p : Payload) (s : State) : State :=
  match p with
  | .beacon b => deliverBeacon source b s
  | .hold r => deliverHold r s
  | .clear sc k g d n => deliverClear sc k g d n s
  | .holdListReq i => answerRequest source i s
  | .holdList t i n rs => deliverHoldList source t i n rs s
  | .holdListNone _ _ => resyncNone source s
  | _ => deliverToRole source p s

/-- Steps 4 to 6 of R6: whether the frame is for this station, the KIND and CONTENT checks, delivery. -/
def qualify (h : Header) (p : Payload) (s : State) : State :=
  if !forThisStation s h then s
  else if !kindKnown (kindCode p) then latchKind s
  else if !takenBy (kindCode p) s.start.role then s
  else if !contentOk s h.source p then latchContent s
  else deliver h.source p s

/-! ## Duplicate number (R17) -/

/-- A frame from a station with this station's own number. -/
def duplicate (s : State) : State :=
  let s1 := s.setLink { s.link with latches := { s.link.latches with dupId := true } }
  if s1.isLive then raise .dupId (enterSilent .dupId s1) else s1

/-! ## Frames and transmissions (R6, R14) -/

/-- A qualified frame: the last sender, the duplicate test, the peer directory, the watch slots, and
steps 4 to 6 (R6). -/
def takeFrame (h : Header) (p : Payload) (s : State) : State :=
  let s1 := s.setLink (s.link.afterTransmission h.source)
  if s1.numberValid && h.source == s1.own then duplicate s1
  else qualify h p (offerWatches p (hear h.source h.fresh s1))

/-- A transmission that fails a check leaves L, and the count starts again (R7, R8). -/
def unqualified (s : State) : State := s.setLink (s.link.afterTransmission s.link.last)

/-- A frame whose framing and check are right (R14). -/
def receiveFrame (h : Header) (p : Payload) (s : State) : State :=
  if !receiving s then s
  else if addressOk h p then takeFrame h p s
  else latchAddress (unqualified s)

/-- A transmission as its bytes came (R14). -/
def receiveBytes (rx : Reception) (s : State) : State :=
  if !receiving s then s
  else if !framingOk rx then latchFraming (unqualified s)
  else if !checkOk rx.bytes then latchCheck (unqualified s)
  else receiveFrame (readHeader rx.bytes) (readFramePayload rx.bytes) s

end Sys2Proof.Machine
end

