-- ==== Sys2Proof/Machine/Reads.lean ====
section
/-! DEFINITION. Machine/Reads.lean: the result bytes of the read commands, in the order their rules list
the fields and in the widths of R181. A field that does not apply is reported as zeros (log entry
12). -/
namespace Sys2Proof.Machine

/-- One byte for a flag. -/
def beFlag (b : Bool) : List Byte := be1 (flagCode b)

/-- A list of fields, or nothing where there is no record. -/
def bytesOf {α : Type} (f : α → List Byte) (x : Option α) : List Byte :=
  match x with
  | some a => f a
  | none => []

/-! ## READ STATUS (R175) -/

/-- The flags byte of READ STATUS part 0. -/
def statusReadFlags (s : State) : Nat :=
  flagCode s.numberValid + 2 * flagCode s.start.clamped + 4 * flagCode s.holds.overflow +
    8 * flagCode s.port.overflowed + 16 * flagCode (s.port.watches.getD 0 none).isSome +
    32 * flagCode (s.port.watches.getD 1 none).isSome +
    64 * flagCode (s.port.watches.getD 2 none).isSome +
    128 * flagCode (s.port.watches.getD 3 none).isSome

/-- READ STATUS part 0. -/
def statusBytes (s : State) : List Byte :=
  [Config.revision] ++ be1 (roleCode s.start.role) ++ be1 s.start.number ++
    be1 (stationStateCode s.start.station) ++ be1 (silentCauseCode s.start.cause) ++
    be1 (imageOutcomeCode s.start.image) ++ be1 (statusReadFlags s) ++ be1 s.link.last ++
    be1 s.link.queue.length ++ be1 s.holds.records.length ++ be1 s.port.events.length ++ be4 s.clock

/-- The candidates of the reservation part. -/
def candidateCount : Reservation → Nat
  | .collecting _ _ cs _ => cs.length
  | .reserving _ _ _ cs _ => cs.length
  | .none | .reserved _ _ _ => 0

/-- The remaining minutes of the cell's reservation. -/
def reservationMinutes (s : State) : Nat :=
  match s.cell.reservation with
  | .reserved _ _ d => s.minutesLeft d
  | _ => 0

/-- READ STATUS part 1, the role block. -/
def roleStatusBytes (s : State) : List Byte :=
  match s.start.role with
  | .cell =>
    be1 (bindStateCode s.cell.binding.state) ++ be1 s.cell.binding.handler ++
      fitBytes s.cell.binding.fit ++ be1 s.cell.binding.mask.toNat ++
      be1 (reservationCode s.cell.reservation) ++ be1 (reservedHandler s.cell.reservation) ++
      be1 (reservationMinutes s) ++ be1 (candidateCount s.cell.reservation)
  | .handler => be1 (relStateCode s.handler.rel) ++ be1 s.handler.cell
  | .stage => be1 s.stage.entries.length ++ be1 (offerable s).length
  | .pack =>
    be1 s.pack.entries.length ++ be1 (s.pack.entries.filter packClosed).length ++ be2 s.pack.sequence

/-- READ STATUS. -/
def readStatus (part : Nat) (s : State) : State × Answer :=
  (s, .done (if part = 0 then statusBytes s else roleStatusBytes s))

/-! ## READ DIAGNOSTICS (R16, R173) -/

/-- The eight link latches and the four port latches, a byte each. -/
def latchBytes (l : LinkLatches) (p : PortLatches) : List Byte :=
  beFlag l.framing ++ beFlag l.check ++ beFlag l.address ++ beFlag l.kind ++ beFlag l.content ++
    beFlag l.txFull ++ beFlag l.txAbandon ++ beFlag l.dupId ++ beFlag p.length ++ beFlag p.check ++
    beFlag p.code ++ beFlag p.content

/-- READ DIAGNOSTICS: all twelve latches are reported and cleared. -/
def readDiagnostics (s : State) : State × Answer :=
  ((s.setLink { s.link with latches := Link.reset.latches }).setPort
      { s.port with latches := (Port.reset 0).latches },
    .done (latchBytes s.link.latches s.port.latches))

/-! ## READ EVENT (R178) -/

/-- READ EVENT: the oldest record is removed and reported, and OVERFLOWED is cleared. -/
def readEvent (s : State) : State × Answer :=
  (s.setPort { s.port with events := s.port.events.drop 1, overflowed := false },
    .done (eventBytes s.port.events.head? s.port.overflowed (s.port.events.length - 1)))

/-! ## READ PEER (R32) -/

/-- What a BEACON reported: role, station state, zone mask, hold count and digest. -/
def beaconSummary (b : BeaconBody) : List Byte :=
  be1 (roleCode (blockRole b.block)) ++ be1 (stationStateCode b.state) ++ beMask b.zones ++
    be1 b.holdCount ++ be2 b.digest

/-- READ PEER part 0. -/
def peerBytes (e : PeerEntry) : List Byte :=
  be1 (presenceCode e.presence) ++ beFlag e.lostLatch ++ beFlag e.fresh ++ beFlag e.beacon.isSome ++
    be4 (e.lastHeard.getD 0) ++ bytesOf beaconSummary e.beacon

/-- READ PEER: part 0 clears the LOST latch. -/
def readPeer (n part : Nat) (s : State) : State × Answer :=
  let e := peerAt s.peers n
  if part = 0 then (updatePeer n (fun e => { e with lostLatch := false }) s, .done (peerBytes e))
  else (s, .done (bytesOf (fun b => blockBytes b.block) e.beacon))

/-! ## READ HOLD (R138) -/

/-- What READ HOLD part 0 adds for a record: its time cleared, and whether it is of this station. -/
def holdExtra (s : State) (r : StoredHold) : List Byte :=
  be4 (r.timeCleared.getD 0) ++ beFlag (r.hold.origin == s.own)

/-- READ HOLD. -/
def readHoldCommand (i part : Nat) (s : State) : State × Answer :=
  let r := s.holds.records[i]?
  (s, .done
    (if part = 0 then
      be1 s.holds.records.length ++ be1 (inForceCount s.holds.records) ++ beFlag s.holds.overflow ++
        be2 s.holds.digest ++ bytesOf (holdExtra s) r
     else bytesOf (fun r => holdBytes r.hold) r))

/-! ## READ STAGE (R35) -/

/-- The cell an entry's state names, 0 for none. -/
def entryCell : EntryState → Nat
  | .waiting | .contest => 0
  | .granted c _ | .claimed c | .issued c => c

/-- The best claim's cell and score, zeros with no claim. -/
def bestClaimBytes (cs : List Claim) : List Byte :=
  match bestBy claimBetter cs with
  | some c => be1 c.cell ++ be1 c.score
  | none => be1 0 ++ be1 0

/-- A staging entry as READ STAGE reports it. -/
def stageEntryBytes (s : State) (e : StageEntry) : List Byte :=
  beLot e.lot.lotId e.lot.index ++ be1 e.lot.priority ++ be1 (entryStateCode e.state) ++
    be1 (entryCell e.state) ++ be1 e.claims.length ++ bestClaimBytes e.claims ++
    be1 e.excluded.length ++ beFlag e.returnPending ++ beFlag (entryHeld s e)

/-- READ STAGE. -/
def readStage (i : Nat) (s : State) : State × Answer :=
  (s, .done (be1 s.stage.entries.length ++ bytesOf (stageEntryBytes s) s.stage.entries[i]?))

/-! ## READ LOT, READ SITE (R116) -/

/-- The run flag of the last PERMIT sent for the active lot. -/
def lastRun (a : ActiveLot) : Bool :=
  match a.lastPermit with
  | some p => p.run
  | none => false

/-- Four of the bin counts, from C[first]. -/
def fourBins (a : ActiveLot) (first : Nat) : List Byte :=
  ([0, 1, 2, 3].map fun k => nth1 0 a.bins (first + k)).flatMap be3

/-- A part of READ LOT. -/
def lotPartBytes (s : State) (part : Nat) (a : ActiveLot) : List Byte :=
  match part with
  | 0 =>
    beLot a.lot.lotId a.lot.index ++ be1 (phaseCode a.phase) ++ be1 (lotStateCode (lotState s a)) ++
      be1 a.pass ++ be1 a.allowance ++ be1 (limitSourceCode a.source) ++ beFlag (lastRun a)
  | 1 =>
    be3 a.tested ++ be3 (goodCount a.bins a.limits.good) ++ be3 a.pool ++ be3 a.unretested ++
      be3 a.excess
  | 2 => beMask a.reasons ++ beMask a.suppressed ++ beFlag a.jamArmed
  | n => fourBins a (4 * (n - 3) + 1)

/-- READ LOT. An empty slot is reported as phase NONE, zeros throughout. -/
def readLotCommand (part : Nat) (s : State) : State × Answer :=
  (s, .done (bytesOf (lotPartBytes s part) s.cell.active))

/-- The tallies of a site and its yield, when it has one (R125). -/
def siteTallyBytes (n : Nat) (a : ActiveLot) : List Byte :=
  let t := tallyAt a n
  be3 t.tested ++ be3 t.good ++ be1 t.run ++
    be2 (if a.limits.nSite ≤ t.tested then q12 t.good t.tested else 0)

/-- READ SITE. -/
def readSite (n : Nat) (s : State) : State × Answer :=
  let m := markOf s.cell n
  (s, .done
    ((match s.cell.active with
        | some a => siteTallyBytes n a
        | none => List.replicate 9 0) ++
      beFlag (maskHas s.cell.mask n) ++ beFlag (m != .up) ++ be1 (siteStatusCode m)))

/-! ## READ QUEUE, READ SIGHTING, READ OUTBOX (R64, R55, R72) -/

/-- READ QUEUE. -/
def readQueue (i part : Nat) (s : State) : State × Answer :=
  let q := s.cell.queue[i]?
  (s, .done
    (if part = 0 then
      be1 s.cell.queue.length ++ bytesOf (fun q => be1 q.stage ++ be4 q.accepted) q
     else bytesOf (fun q => lotBytes q.lot) q))

/-- The order of READ SIGHTING: the most recently offered first, then the lower lot. -/
def sightingBefore (s : State) (a b : Sighting) : Bool :=
  if s.age a.lastOffered ≠ s.age b.lastOffered then s.age a.lastOffered < s.age b.lastOffered
  else if a.lot.lotId ≠ b.lot.lotId then a.lot.lotId < b.lot.lotId
  else a.lot.index < b.lot.index

/-- The score claimed, 0 in SEEN. -/
def scoreClaimed : SightState → Nat
  | .seen => 0
  | .pending sc _ => sc

/-- A sighting as READ SIGHTING reports it. -/
def sightingBytes (x : Sighting) : List Byte :=
  beLot x.lot.lotId x.lot.index ++ be1 x.stage ++ be1 x.lot.priority ++
    be1 (sightStateCode x.state) ++ be1 (scoreClaimed x.state) ++ beFlag x.marked ++
    be1 (eligibilityCode x.result)

/-- READ SIGHTING. -/
def readSighting (i : Nat) (s : State) : State × Answer :=
  (s, .done (be1 s.cell.sightings.length ++
    bytesOf sightingBytes (sortBy (sightingBefore s) s.cell.sightings)[i]?))

/-- READ OUTBOX. -/
def readOutbox (i part : Nat) (s : State) : State × Answer :=
  let r := s.cell.outbox[i]?
  (s, .done
    (if part = 0 then
      be1 s.cell.outbox.length ++ bytesOf (fun r => be1 r.sent ++ completionHead r.record) r
     else bytesOf (fun r => completionTail r.record) r))

/-! ## READ HANDLER (R78, R94) -/

/-- READ HANDLER part 0. The remaining minutes of a deadline already past, kept through BINDING by R81,
are 0: the model's choice (log entry 12). -/
def handlerBytes (s : State) : List Byte :=
  be1 (relStateCode s.handler.rel) ++ be1 s.handler.cell ++ be1 (s.minutesLeft s.handler.deadline) ++
    be1 (s.minutesLeft s.handler.orphanTimer) ++ be2 (idleMinutes s) ++ fitBytes (ownFit s) ++
    be1 (siteMask s).toNat ++ beFlag s.pins.indexEn

/-- READ HANDLER part n, for site n: a site above S is reported by the site count alone. Up or down is
reported as 1 for a site that is down and 0 for one that is up: the model's choice (log entry 42). -/
def handlerSiteBytes (s : State) (n : Nat) : List Byte :=
  if siteOk s n then
    let x := siteAt s.handler n
    beFlag (x.status != .up) ++ be1 (siteStatusCode x.status) ++ be4 x.counter ++
      be4 ((contactorLimit s.start.config).getD 0)
  else be1 s.start.config.siteCount

/-- READ HANDLER part 9. -/
def handlerPermitBytes (h : Handler) : List Byte :=
  payloadBytes (.permit h.permit) ++ be1 (soakStateCode h.soak) ++ beTemp (h.target.getD 0)

/-- READ HANDLER part 10. The input level is reported as 1 while the JAM input is active, its pin low: the
model's choice (log entry 42). -/
def handlerJamBytes (s : State) : List Byte :=
  beFlag s.handler.jamLatch ++ beFlag s.pins.jamIn ++ beLot s.handler.jamLot.1 s.handler.jamLot.2 ++
    be1 s.handler.jamCount

/-- READ HANDLER. -/
def readHandler (part : Nat) (s : State) : State × Answer :=
  (s, .done
    (if part = 0 then handlerBytes s
     else if part ≤ 8 then handlerSiteBytes s part
     else if part = 9 then handlerPermitBytes s.handler
     else handlerJamBytes s))

/-! ## READ PACK, READ RELEASE (R157, R168) -/

/-- The filled slots in one byte, bit s − 1 for slot s: the model's choice (log entry 12). -/
def filledSlots (e : PackEntry) : Nat :=
  ((e.slots.zipIdx).map fun (c, i) => if c.isSome then 2 ^ i else 0).sum

/-- READ PACK part 0 for an entry. -/
def packEntryBytes (s : State) (e : PackEntry) : List Byte :=
  be4 e.lotId ++ be2 e.product ++ be2 e.program ++ be1 e.count ++ be1 (packStateCode e.state) ++
    beFlag e.conflict ++ be1 (waitReasonCode e.waiting) ++ beFlag e.gateWaived ++
    beFlag e.countWaived ++ be1 (filledSlots e) ++ beFlag (packHeld s e)

/-- READ PACK part 1–4 for a record. -/
def packSlotBytes (c : Completion) : List Byte :=
  be1 c.cell ++ be1 (completionResultCode c.result) ++ be3 c.tested ++ be3 c.good ++
    be3 c.unretested ++ be3 c.excess ++ be1 c.passes ++ be2 c.quantity

/-- READ PACK. An index with no entry is answered with the count alone, in every part; an empty slot is
reported as zeros. -/
def readPack (i part : Nat) (s : State) : State × Answer :=
  (s, .done
    (match s.pack.entries[i]? with
      | none => be1 s.pack.entries.length
      | some e =>
        if part = 0 then be1 s.pack.entries.length ++ packEntryBytes s e
        else bytesOf packSlotBytes (slotAt e part)))

/-- A part of READ RELEASE. -/
def releasePartBytes (part : Nat) (r : ReleaseRec) : List Byte :=
  if part = 0 then
    be4 r.lotId ++ be2 r.product ++ be1 r.count ++ be2 r.yield ++ be1 (releaseFlags r) ++
      be2 r.sequence ++ be2 r.code
  else be4 r.sumTested ++ be4 r.sumGood

/-- READ RELEASE. -/
def readReleaseCommand (lotId part : Nat) (s : State) : State × Answer :=
  match findPack s lotId with
  | none => (s, .refused .unknown)
  | some e =>
    match e.state, e.release with
    | .released, some r => (s, .done (releasePartBytes part r))
    | _, _ => (s, .refused .state)

end Sys2Proof.Machine
end

