-- ==== Sys2Proof/Machine/Port.lean ====
section
/-! DEFINITION. Machine/Port.lean: the station port of spec/10: reading a command from its bytes (spec/11
section 11.4), the qualification of a transaction (R172), the previous-outcome record (R170), chip
select, and the effect of each command of the catalogue (R174). -/
namespace Sys2Proof.Machine

/-! ## Command frames (spec/11 section 11.4) -/

/-- The four bin-limit pairs of LIMIT SET B. -/
def readPairs (bs : List Byte) : List (Nat × Nat) :=
  [(field bs 2 1, field bs 3 2), (field bs 5 1, field bs 6 2), (field bs 8 1, field bs 9 2),
    (field bs 11 1, field bs 12 2)]

/-- Part A of a limit entry in the payload of LIMIT SET A. -/
def readPartA (bs : List Byte) : LimitPartA :=
  { product := field bs 0 2, lya := field bs 2 2, lyf := field bs 4 2, nMin := field bs 6 2,
    nSite := field bs 8 2, sdl := field bs 10 2, cf := field bs 12 1, good := fieldMask bs 13,
    retestable := fieldMask bs 15, passes := field bs 17 1 }

/-- The payload of a command: scope, key and what follows, when the scope is known. -/
def withScope (bs : List Byte) (o : Nat) (f : Scope → Nat → PortCommand) : Option PortCommand :=
  (scopeOf (field bs o 1)).map fun sc => f sc (field bs (o + 1) 4)

/-- The command a known code and a payload spell, when its enumerated fields carry codes. -/
def readCommand (code : Nat) (bs : List Byte) : Option PortCommand :=
  match code with
  | 0x01 => some .nop
  | 0x02 => some (.readStatus (field bs 0 1))
  | 0x03 => some .readDiagnostics
  | 0x04 => some .readEvent
  | 0x05 => some (.readPeer (field bs 0 1) (field bs 1 1))
  | 0x06 => some (.readHold (field bs 0 1) (field bs 1 1))
  | 0x07 => withScope bs 0 fun sc k => .placeHold sc k (field bs 5 4)
  | 0x08 =>
    match scopeOf (field bs 0 1), dispositionOf (field bs 7 1) with
    | some sc, some d => some (.disposition sc (field bs 1 4) (field bs 5 2) d)
    | _, _ => none
  | 0x09 => withScope bs 1 fun sc k => .armWatch (field bs 0 1) sc k
  | 0x0A => some (.disarmWatch (field bs 0 1))
  | 0x0B => some .restart
  | 0x20 => some (.lotArrived (readLot bs))
  | 0x21 => some (.lotIssued (field bs 0 4) (field bs 4 1) (field bs 5 1))
  | 0x22 => some (.lotReturned (field bs 0 4) (field bs 4 1))
  | 0x23 => some (.lotRemoved (field bs 0 4) (field bs 4 1))
  | 0x24 => some (.readStage (field bs 0 1))
  | 0x40 => some (.dock (field bs 0 1))
  | 0x41 => some .undock
  | 0x42 => some (.requestHandler (field bs 0 1) (fieldTemp bs 1))
  | 0x43 => some (.unqueue (field bs 0 4) (field bs 4 1))
  | 0x44 => some (.lotLoaded (field bs 0 4) (field bs 4 1))
  | 0x45 => some (.binReport (fieldSites bs 0) ((List.range 8).map fun i => field bs (i + 1) 1))
  | 0x46 => some .endPass
  | 0x47 => some .lotUnloaded
  | 0x48 => some (.limitSetA (readPartA bs))
  | 0x49 => some (.limitSetB (field bs 0 2) (readPairs bs) (field bs 14 1))
  | 0x4A => some (.limitClear (field bs 0 2))
  | 0x4B => some (.readLot (field bs 0 1))
  | 0x4C => some (.readQueue (field bs 0 1) (field bs 1 1))
  | 0x4D => some (.readSighting (field bs 0 1))
  | 0x4E => some (.readSite (field bs 0 1))
  | 0x4F => some (.readOutbox (field bs 0 1) (field bs 1 1))
  | 0x60 => some (.tempReached (fieldTemp bs 0))
  | 0x61 => some .tempLost
  | 0x62 => some (.unitIndexed (fieldSites bs 0))
  | 0x63 => some (.kitChanged (field bs 0 1))
  | 0x64 => some (.contactorReplaced (field bs 0 1))
  | 0x65 => some (.contactorCount (field bs 0 1) (field bs 1 4))
  | 0x66 => some (.siteRestore (field bs 0 1))
  | 0x67 => some .reArm
  | 0x68 => some (.readHandler (field bs 0 1))
  | 0x80 => some (.packDone (field bs 0 4) (field bs 4 4))
  | 0x81 => some (.readPack (field bs 0 1) (field bs 1 1))
  | 0x82 => some (.readRelease (field bs 0 4) (field bs 4 1))
  | _ => none

/-- The fields of a command, in the order and widths of its payload. -/
def commandFields : PortCommand → List Byte
  | .nop | .readDiagnostics | .readEvent | .restart | .undock | .endPass | .lotUnloaded | .tempLost
  | .reArm => []
  | .readStatus p | .readStage p | .readLot p | .readSighting p | .readSite p | .readHandler p
  | .disarmWatch p | .dock p | .kitChanged p | .contactorReplaced p | .siteRestore p => be1 p
  | .readPeer a b | .readHold a b | .readQueue a b | .readOutbox a b | .readPack a b =>
    be1 a ++ be1 b
  | .placeHold sc k t => beKey sc k ++ be4 t
  | .disposition sc k g d => beKey sc k ++ be2 g ++ be1 (dispositionCode d)
  | .armWatch slot sc k => be1 slot ++ beKey sc k
  | .lotArrived l => lotBytes l
  | .lotIssued lot ix c => beLot lot ix ++ be1 c
  | .lotReturned lot ix | .lotRemoved lot ix | .unqueue lot ix | .lotLoaded lot ix
  | .readRelease lot ix => beLot lot ix
  | .requestHandler k t => be1 k ++ beTemp t
  | .binReport m bins => be1 m.toNat ++ bins.flatMap be1
  | .limitSetA a =>
    be2 a.product ++ be2 a.lya ++ be2 a.lyf ++ be2 a.nMin ++ be2 a.nSite ++ be2 a.sdl ++ be1 a.cf ++
      beMask a.good ++ beMask a.retestable ++ be1 a.passes
  | .limitSetB p ps j => be2 p ++ ps.flatMap (fun x => be1 x.1 ++ be2 x.2) ++ be1 j
  | .limitClear p => be2 p
  | .tempReached t => beTemp t
  | .unitIndexed m => be1 m.toNat
  | .contactorCount site v => be1 site ++ be4 v
  | .packDone lot n => be4 lot ++ be4 n

/-- The 20 bytes of the transaction that carries a command: code, payload with zeros in its unused
bytes, and CRC-8 (R169). -/
def commandBytes (c : PortCommand) : List Byte :=
  let head := be1 (commandCode c) ++ padTo 18 (commandFields c)
  head ++ [crc8 head]

/-! ## The previous outcome (R170) and the port latches (R173) -/

/-- The release of a transaction: its outcome becomes the previous outcome (R170). -/
def setOutcome (a : Answer) (echo : Nat) (s : State) : State :=
  s.setPort { s.port with previous := { answer := a, echo := echo }, selected := false }

/-- The port latches with the one of a kind set. -/
def PortLatches.latch (l : PortLatches) : ErrorKind → PortLatches
  | .length => { l with length := true }
  | .check => { l with check := true }
  | .code => { l with code := true }
  | .content => { l with content := true }

/-- A transaction that fails qualification: ERROR with the kind, and its latch (R172, R173). -/
def fail (k : ErrorKind) (echo : Nat) (s : State) : State :=
  setOutcome (.error k) echo (s.setPort { s.port with latches := s.port.latches.latch k })

/-! ## Watch commands (R179) -/

/-- Slot n is armed. -/
def slotArmed (s : State) (n : Nat) : Bool := (s.port.watches.getD n none).isSome

/-- ARM WATCH. -/
def armWatch (n : Nat) (sc : Scope) (key : Nat) (s : State) : State × Answer :=
  (s.setPort { s.port with watches := modifyAt (fun _ => some (sc, key)) n s.port.watches },
    .done (beFlag (slotArmed s n)))

/-- DISARM WATCH. -/
def disarmWatch (n : Nat) (s : State) : State × Answer :=
  (s.setPort { s.port with watches := modifyAt (fun _ => none) n s.port.watches },
    .done (beFlag (slotArmed s n)))

/-! ## Execution (R172, R174) -/

/-- The effect and answer of a command that is taken. -/
def runCommand (c : PortCommand) (s : State) : State × Answer :=
  match c with
  | .nop => (s, .done [])
  | .readStatus p => readStatus p s
  | .readDiagnostics => readDiagnostics s
  | .readEvent => readEvent s
  | .readPeer n p => readPeer n p s
  | .readHold i p => readHoldCommand i p s
  | .placeHold sc k t => placeHoldCommand sc k t s
  | .disposition sc k g d => dispose sc k g d s
  | .armWatch n sc k => armWatch n sc k s
  | .disarmWatch n => disarmWatch n s
  | .restart => (softRestart s, .start)
  | .lotArrived l => lotArrived l s
  | .lotIssued lot ix c => lotIssued lot ix c s
  | .lotReturned lot ix => lotReturned lot ix s
  | .lotRemoved lot ix => lotRemoved lot ix s
  | .readStage i => readStage i s
  | .dock n => dock n s
  | .undock => undock s
  | .requestHandler k t => requestHandler k t s
  | .unqueue lot ix => unqueue lot ix s
  | .lotLoaded lot ix => lotLoaded lot ix s
  | .binReport m bins => binReport m bins s
  | .endPass => endPass s
  | .lotUnloaded => lotUnloaded s
  | .limitSetA a => limitSetA a s
  | .limitSetB p ps j => limitSetB p ps j s
  | .limitClear p => limitClear p s
  | .readLot p => readLotCommand p s
  | .readQueue i p => readQueue i p s
  | .readSighting i => readSighting i s
  | .readSite n => readSite n s
  | .readOutbox i p => readOutbox i p s
  | .tempReached t => tempReached t s
  | .tempLost => tempLost s
  | .unitIndexed m => unitIndexed m s
  | .kitChanged k => kitChanged k s
  | .contactorReplaced n => contactorReplaced n s
  | .contactorCount n v => contactorCount n v s
  | .siteRestore n => siteRestore n s
  | .reArm => reArm s
  | .readHandler p => readHandler p s
  | .packDone lot n => packDone lot n s
  | .readPack i p => readPack i p s
  | .readRelease lot p => readReleaseCommand lot p s

/-- Chip select is released over a transaction that a full reset abandoned: nothing is executed, and the
previous outcome stands (R169). -/
def releaseAbandoned (s : State) : State := s.setPort { s.port with abandoned := false }

/-- A command whose length and check are right: the CODE and CONTENT checks, the refusal by station
state, and its execution (R172, R174). A transaction does not need CS_ASSERT before it (log entry 13). -/
def transact (c : PortCommand) (s : State) : State :=
  if s.port.abandoned then releaseAbandoned s
  else if !codeOk s (commandCode c) then fail .code (commandCode c) s
  else if !commandOk s c then fail .content (commandCode c) s
  else if !available s (availability c) then setOutcome (.refused .state) (commandCode c) s
  else
    let r := runCommand c s
    setOutcome r.2 (commandCode c) r.1

/-- The rising clock edges of a transaction. -/
def edgesOf (t : Transaction) : Nat := 8 * t.bytes.length + t.extraEdges

/-- The code the outcome of a transaction echoes: its first byte, or 0 (R170). -/
def echoOf (t : Transaction) : Nat := field t.bytes 0 1

/-- A transaction as its bytes came (R172). -/
def transactBytes (t : Transaction) (s : State) : State :=
  if s.port.abandoned then releaseAbandoned s
  else if edgesOf t ≠ 160 then fail .length (echoOf t) s
  else if crc8 (t.bytes.take 19) ≠ t.bytes.getD 19 0 then fail .check (echoOf t) s
  else if !codeOk s (echoOf t) then fail .code (echoOf t) s
  else
    match readCommand (echoOf t) (t.bytes.drop 1) with
    | some c => transact c s
    | none => fail .content (echoOf t) s

/-- Chip select is asserted: the previous outcome as it stands is presented (R169, R170, R171). -/
def selectChip (s : State) : State :=
  if s.port.selected then s
  else s.setPort { s.port with selected := true, abandoned := false, shiftOut := outcomeBytes s s.port.previous }

end Sys2Proof.Machine
end

