-- ==== Sys2Proof/Machine/Timers.lean ====
section
/-! DEFINITION. Machine/Timers.lean: the moment each timer of the part expires and what its expiry does.
An expiry of a timer that does not run changes nothing; one of a running timer sets the clock to the
timer's moment when that is still to come, and has its effect (log entry 3). -/
namespace Sys2Proof.Machine

/-- An expiry of a timer with its moment, if it runs. -/
def expire (timer : Option Nat) (act : State → State) (s : State) : State :=
  match timer with
  | none => s
  | some d => act (s.advanceTo d)

/-! ## The moments -/

/-- The learning timer (R22), in LEARNING. -/
def learningTimer (s : State) : Option Nat :=
  if s.start.station = .learning then s.start.learning else none

/-- The answer timer of a WAITING resync record (R150). -/
def answerTimer (s : State) : Option Nat := s.holds.resync.waiting.map ResyncWait.timer

/-- The contest window of an entry in CONTEST (R44). -/
def windowTimer (s : State) (lotId index : Nat) : Option Nat :=
  match findEntry s lotId index with
  | some e => if e.state = .contest then e.window else none
  | none => none

/-- The accept timer of an entry in GRANTED (R48). -/
def acceptTimer (s : State) (lotId index : Nat) : Option Nat :=
  match findEntry s lotId index with
  | some e =>
    match e.state with
    | .granted _ _ => e.accept
    | _ => none
  | none => none

/-- The moment a stored clock value has aged by some milliseconds: now, if it has already. -/
def agedAt (s : State) (stored ms : Nat) : Nat := s.now + (ms - s.age stored)

/-- The moment a SEEN sighting is aged (R57), in ACTIVE. -/
def ageingMoment (s : State) (x : Sighting) : Option Nat :=
  if s.isActive && isSeen x then some (agedAt s x.lastOffered (3 * s.beaconMs)) else none

/-- The moment a pending claim lapses (R60), in ACTIVE. -/
def lapseMoment (s : State) (x : Sighting) : Option Nat :=
  match x.state with
  | .pending _ t => if s.isActive then some (agedAt s t (2 * s.beaconMs)) else none
  | .seen => none

/-- The reply window timer, in COLLECTING (R75). -/
def replyWindow : Reservation → Option Nat
  | .collecting _ _ _ t => t
  | _ => none

/-- The reply timer, in RESERVING (R76). -/
def replyTimer : Reservation → Option Nat
  | .reserving _ _ _ _ t => t
  | _ => none

/-- The cell's reservation deadline, in RESERVED (R77). -/
def cellDeadline : Reservation → Option Nat
  | .reserved _ _ t => t
  | _ => none

/-- The cell's bind timer, in BINDING (R87). -/
def cellBindTimer (s : State) : Option Nat :=
  if s.cell.binding.state = .binding then s.cell.binding.timer else none

/-- The handler's reservation deadline, in RESERVED and BINDING (R81). -/
def handlerDeadline (s : State) : Option Nat :=
  match s.handler.rel with
  | .reserved | .binding => s.handler.deadline
  | .free | .bound | .orphaned => none

/-- The handler's bind timer, in BINDING (R83). -/
def handlerBindTimer (s : State) : Option Nat :=
  if s.handler.rel = .binding then s.handler.bindTimer else none

/-- The orphan timer, in ORPHANED (R85). -/
def orphanTimerOf (s : State) : Option Nat :=
  if s.handler.rel = .orphaned then s.handler.orphanTimer else none

/-- The soak timer, in SOAKING (R98). -/
def soakTimerOf (s : State) : Option Nat :=
  if s.handler.soak = .soaking then s.handler.soakTimer else none

/-- The grace timer, in EXCURSION (R99). -/
def graceTimerOf (s : State) : Option Nat :=
  if s.handler.soak = .excursion then s.handler.graceTimer else none

/-- The loss timer of a PRESENT peer (R31). -/
def lossTimerOf (s : State) (n : Nat) : Option Nat :=
  if stationOk n && (peerAt s.peers n).presence == .present then (peerAt s.peers n).lossTimer else none

/-! ## The effects -/

/-- The loss timer of peer n expires (R31). -/
def lossExpiry (n : Nat) (s : State) : State := expire (lossTimerOf s n) (losePeer n) s

/-- A pending request ends at its answer timer (R152). -/
def answerExpiry (s : State) : State :=
  match s.holds.resync.waiting with
  | some w => resyncExpiry w (s.advanceTo w.timer)
  | none => s

/-- The spacing timer's expiry (R150). -/
def spacingExpiry (s : State) : State :=
  expire s.holds.resync.spacing
    (fun s => resyncTest (setResync { s.holds.resync with spacing := none } s)) s

/-- The contest window of a lot expires: the best claim is granted (R48). -/
def windowExpiry (lotId index : Nat) (s : State) : State :=
  expire (windowTimer s lotId index) (grantBest lotId index) s

/-- The accept timer of a lot expires: the grant ends (R50). -/
def acceptExpiry (lotId index : Nat) (s : State) : State :=
  match (findEntry s lotId index).map StageEntry.state with
  | some (.granted c _) => expire (acceptTimer s lotId index) (endGrant lotId index c true) s
  | _ => s

/-- A SEEN sighting reaches its age and is removed (R57). -/
def ageSighting (lotId index : Nat) (s : State) : State :=
  match findSighting s lotId index with
  | some x => expire (ageingMoment s x) (dropSighting lotId index) s
  | none => s

/-- A pending claim lapses (R60). -/
def lapseExpiry (lotId index : Nat) (s : State) : State :=
  match findSighting s lotId index with
  | some x => expire (lapseMoment s x) (lapseClaim x) s
  | none => s

/-- The permit timer's expiry: a PERMIT, and the timer again (R68). -/
def permitExpiry (s : State) : State :=
  let s1 := sendPermit s
  s1.setCell { s1.cell with permitTimer := s1.after s1.beaconMs }

/-- The idle timer's expiry: the cell has been idle for the threshold (R75). -/
def idleExpiry (s : State) : State :=
  s.setCell { s.cell with idleTimer := none, idleElapsed := true }

/-- The spacing of HANDLER-WANTED has passed (R75). -/
def wantedSpacingExpiry (s : State) : State := s.setCell { s.cell with wantedSpacing := none }

/-- The reply window closes: RESERVE to the first candidate, or NO_HANDLER (R76). -/
def windowClosed (s : State) : State :=
  match s.cell.reservation with
  | .collecting k t cs _ => tryCandidates k t cs s
  | _ => s

/-- The cell's own reservation deadline passes (R77). -/
def cellDeadlinePast (s : State) : State :=
  match s.cell.reservation with
  | .reserved n _ _ => raise (.reservationLapsed n) (setReservation .none s)
  | _ => s

/-- The handler's reservation deadline passes: acted on in RESERVED alone (R81). -/
def handlerDeadlinePast (s : State) : State :=
  if s.handler.rel = .reserved then lapseReservation s else s

/-- The status timer's expiry: a status is owed at the end of the event (R110). -/
def statusExpiry (s : State) : State := s.setHandler { s.handler with statusOwed := true }

/-! ## The timers that run, with their expiry commands -/

/-- A running timer and the command of its expiry. -/
def timed (timer : Option Nat) (c : Instr) : List (Nat × Instr) :=
  match timer with
  | some d => [(d, c)]
  | none => []

/-- The timers every role has. -/
def commonTimers (s : State) : List (Nat × Instr) :=
  timed (learningTimer s) .learningTimerExpiry ++ timed s.peers.beaconTimer .beaconTimerExpiry ++
    timed (answerTimer s) .answerTimerExpiry ++ timed s.holds.resync.spacing .resyncSpacingExpiry ++
    ((List.range 40).flatMap fun i => timed (lossTimerOf s (i + 1)) (.lossTimerExpiry (i + 1)))

/-- The STAGE's timers. -/
def stageTimers (s : State) : List (Nat × Instr) :=
  timed s.stage.offerTimer .offerTimerExpiry ++
    s.stage.entries.flatMap fun e =>
      timed (windowTimer s e.lot.lotId e.lot.index) (.contestWindowExpiry e.lot.lotId e.lot.index) ++
        timed (acceptTimer s e.lot.lotId e.lot.index) (.acceptTimerExpiry e.lot.lotId e.lot.index)

/-- The CELL's timers. -/
def cellTimers (s : State) : List (Nat × Instr) :=
  timed s.cell.permitTimer .permitTimerExpiry ++ timed s.cell.deliveryTimer .deliveryTimerExpiry ++
    timed s.cell.idleTimer .idleTimerExpiry ++
    timed s.cell.wantedSpacing .handlerWantedSpacingExpiry ++
    timed (replyWindow s.cell.reservation) .replyWindowExpiry ++
    timed (replyTimer s.cell.reservation) .replyTimerExpiry ++
    timed (cellDeadline s.cell.reservation) .cellReservationDeadline ++
    timed (cellBindTimer s) .cellBindTimerExpiry ++
    s.cell.sightings.flatMap fun x =>
      timed (ageingMoment s x) (.sightingAgeing x.lot.lotId x.lot.index) ++
        timed (lapseMoment s x) (.claimLapse x.lot.lotId x.lot.index)

/-- The HANDLER's timers; a deadline that passes in BINDING is not acted on there (R81). -/
def handlerTimers (s : State) : List (Nat × Instr) :=
  timed (if s.handler.rel = .reserved then s.handler.deadline else none) .reservationDeadline ++
    timed (handlerBindTimer s) .bindTimerExpiry ++ timed (orphanTimerOf s) .orphanTimerExpiry ++
    timed (soakTimerOf s) .soakTimerExpiry ++ timed (graceTimerOf s) .graceTimerExpiry ++
    timed s.handler.statusTimer .statusTimerExpiry

/-- Every timer that runs. -/
def runningTimers (s : State) : List (Nat × Instr) :=
  commonTimers s ++ stageTimers s ++ cellTimers s ++ handlerTimers s

/-- The expiry that is due first, if one is. -/
def dueExpiry (s : State) : Option Instr :=
  (bestBy (fun a b => a.1 < b.1) ((runningTimers s).filter fun t => t.1 ≤ s.now)).map Prod.snd

/-- A millisecond with nothing to do: the expiry that is due first joins the queue, or the clock counts
on (log entry 2). -/
def idle (s : State) : State :=
  if s.pins.inReset then s
  else
    match dueExpiry s with
    | some c => s.setPending [c]
    | none => s.setNow (s.now + 1)

end Sys2Proof.Machine
end

