-- ==== Sys2Proof/Machine/FrameRows.lean ====
section
/-! DEFINITION. Machine/FrameRows.lean: the frames that arrive, one command per kind: each is a transmission with its
framing and check right, that goes through the rest of the qualification (R6, R14, R15) to the block
that takes it. -/
namespace Sys2Proof.Machine

/-- BEACON (R30). -/
def execBeacon (h : Header) (b : BeaconBody) (s : State) : Host.Outcome State Fault Refusal :=
  .next (event (receiveFrame h (.beacon b)) s)

/-- OFFER (R56). -/
def execOffer (h : Header) (lot : LotRecord) (s : State) : Host.Outcome State Fault Refusal :=
  .next (event (receiveFrame h (.offer lot)) s)

/-- CLAIM (R44). -/
def execClaim (h : Header) (lotId : Nat) (index : Nat) (score : Nat) (owned : Bool) (s : State) :
    Host.Outcome State Fault Refusal :=
  .next (event (receiveFrame h (.claim lotId index score owned)) s)

/-- GRANT (R62). -/
def execGrant (h : Header) (lotId : Nat) (index : Nat) (cell : Nat) (score : Nat) (s : State) :
    Host.Outcome State Fault Refusal :=
  .next (event (receiveFrame h (.grant lotId index cell score)) s)

/-- ACCEPT (R49). -/
def execAccept (h : Header) (lotId : Nat) (index : Nat) (answer : AcceptAnswer) (score : Nat) (s :
    State) : Host.Outcome State Fault Refusal :=
  .next (event (receiveFrame h (.accept lotId index answer score)) s)

/-- REVOKE (R63). -/
def execRevoke (h : Header) (lotId : Nat) (index : Nat) (reason : RevokeReason) (s : State) :
    Host.Outcome State Fault Refusal :=
  .next (event (receiveFrame h (.revoke lotId index reason)) s)

/-- RETURN (R52). -/
def execReturn (h : Header) (lotId : Nat) (index : Nat) (reason : ReturnReason) (s : State) :
    Host.Outcome State Fault Refusal :=
  .next (event (receiveFrame h (.return_ lotId index reason)) s)

/-- LOT_DONE (R158). -/
def execLotDone (h : Header) (c : Completion) (s : State) : Host.Outcome State Fault Refusal :=
  .next (event (receiveFrame h (.lotDone c)) s)

/-- DONE_TAKEN (R73). -/
def execDoneTaken (h : Header) (lotId : Nat) (index : Nat) (s : State) : Host.Outcome State Fault
    Refusal :=
  .next (event (receiveFrame h (.doneTaken lotId index)) s)

/-- RELEASE (R180). -/
def execRelease (h : Header) (r : ReleaseRec) (s : State) : Host.Outcome State Fault Refusal :=
  .next (event (receiveFrame h (.release r)) s)

/-- HOLD (R142). -/
def execHold (h : Header) (r : HoldRec) (s : State) : Host.Outcome State Fault Refusal :=
  .next (event (receiveFrame h (.hold r)) s)

/-- CLEAR (R143). -/
def execClear (h : Header) (scope : Scope) (key : Nat) (generation : Nat) (disposition :
    Disposition) (station : Nat) (s : State) : Host.Outcome State Fault Refusal :=
  .next (event (receiveFrame h (.clear scope key generation disposition station)) s)

/-- HOLD_LIST_REQ (R151). -/
def execHoldListReq (h : Header) (start : Nat) (s : State) : Host.Outcome State Fault Refusal :=
  .next (event (receiveFrame h (.holdListReq start)) s)

/-- HOLD_LIST (R152). -/
def execHoldList (h : Header) (total : Nat) (start : Nat) (count : Nat) (records : List HoldRec)
    (s : State) : Host.Outcome State Fault Refusal :=
  .next (event (receiveFrame h (.holdList total start count records)) s)

/-- HOLD_LIST_NONE (R152). -/
def execHoldListNone (h : Header) (total : Nat) (start : Nat) (s : State) : Host.Outcome State
    Fault Refusal :=
  .next (event (receiveFrame h (.holdListNone total start)) s)

/-- HANDLER_WANTED (R79). -/
def execHandlerWanted (h : Header) (kit : Nat) (temp : Int) (s : State) : Host.Outcome State Fault
    Refusal :=
  .next (event (receiveFrame h (.handlerWanted kit temp)) s)

/-- HANDLER_AVAILABLE (R76). -/
def execHandlerAvailable (h : Header) (fit : HandlerFit) (idle : Nat) (s : State) : Host.Outcome
    State Fault Refusal :=
  .next (event (receiveFrame h (.handlerAvailable fit idle)) s)

/-- RESERVE (R80). -/
def execReserve (h : Header) (s : State) : Host.Outcome State Fault Refusal :=
  .next (event (receiveFrame h .reserve) s)

/-- RESERVE_REPLY (R77). -/
def execReserveReply (h : Header) (result : ReserveResult) (minutes : Nat) (s : State) :
    Host.Outcome State Fault Refusal :=
  .next (event (receiveFrame h (.reserveReply result minutes)) s)

/-- BIND_REQ (R83). -/
def execBindReq (h : Header) (kit : Nat) (s : State) : Host.Outcome State Fault Refusal :=
  .next (event (receiveFrame h (.bindReq kit)) s)

/-- BIND_REPLY (R88). -/
def execBindReply (h : Header) (result : BindResult) (fit : HandlerFit) (mask : SiteMask) (s :
    State) : Host.Outcome State Fault Refusal :=
  .next (event (receiveFrame h (.bindReply result fit mask)) s)

/-- BIND_CONFIRM (R84). -/
def execBindConfirm (h : Header) (kit : Nat) (sites : Nat) (s : State) : Host.Outcome State Fault
    Refusal :=
  .next (event (receiveFrame h (.bindConfirm kit sites)) s)

/-- UNBIND (R82). -/
def execUnbind (h : Header) (reason : UnbindReason) (s : State) : Host.Outcome State Fault Refusal
    :=
  .next (event (receiveFrame h (.unbind reason)) s)

/-- PERMIT (R95). -/
def execPermit (h : Header) (p : Permit) (s : State) : Host.Outcome State Fault Refusal :=
  .next (event (receiveFrame h (.permit p)) s)

/-- HANDLER_STATUS (R111). -/
def execHandlerStatus (h : Header) (b : StatusBody) (s : State) : Host.Outcome State Fault Refusal
    :=
  .next (event (receiveFrame h (.handlerStatus b)) s)

/-- SITE_DOWN (R105). -/
def execSiteDown (h : Header) (site : Nat) (reason : SiteStatus) (s : State) : Host.Outcome State
    Fault Refusal :=
  .next (event (receiveFrame h (.siteDown site reason)) s)

end Sys2Proof.Machine
end

