-- ==== Sys2Proof/Machine/LineRows.lean ====
section
/-! DEFINITION. Machine/LineRows.lean: the commands of the line: joining, carrier, the end of a transmission, and
the steps of an attempt to send (R8 to R15). -/
namespace Sys2Proof.Machine

/-- LINE_JOIN (R13). -/
def execLineJoin (s : State) : Host.Outcome State Fault Refusal :=
  .next (event joinLine s)

/-- CARRIER_DETECT (R8). -/
def execCarrierDetect (point : CountPoint) (s : State) : Host.Outcome State Fault Refusal :=
  .next (event (carrier point) s)

/-- TRANSMISSION_END (R14). -/
def execTransmissionEnd (line : Transmission) (s : State) : Host.Outcome State Fault Refusal :=
  .next (event (receiveBytes (received line)) s)

/-- TRANSMIT_START (R9). -/
def execTransmitStart (s : State) : Host.Outcome State Fault Refusal :=
  .next (event beginAttempt s)

/-- FRAME_SENT (R11). -/
def execFrameSent (s : State) : Host.Outcome State Fault Refusal :=
  .next (event endClean s)

/-- COLLISION (R10). -/
def execCollision (s : State) : Host.Outcome State Fault Refusal :=
  .next (event collide s)

/-- DISTURBANCE_END (R11). -/
def execDisturbanceEnd (s : State) : Host.Outcome State Fault Refusal :=
  .next (event endDisturbance s)

/-- BACKOFF_ROUND_OVER (R11). -/
def execBackoffRoundOver (s : State) : Host.Outcome State Fault Refusal :=
  .next (event roundOver s)

end Sys2Proof.Machine
end

