-- ==== Sys2Proof/Machine/PinRows.lean ====
section
/-! DEFINITION. Machine/PinRows.lean: the commands of the pins: RESET, the end of the image read, the JAM input, chip
select, and a transaction taken in its bytes. -/
namespace Sys2Proof.Machine

/-- RESET_RELEASE (R21). -/
def execResetRelease (numberStraps : BitVec 6) (roleStraps : BitVec 2) (s : State) :
    Host.Outcome State Fault Refusal :=
  .next (fullReset numberStraps roleStraps s)

/-- RESET_ASSERT (R21). -/
def execResetAssert (s : State) : Host.Outcome State Fault Refusal := .next (holdReset s)

/-- START_END (R22). -/
def execStartEnd (image : ImageRead) (s : State) : Host.Outcome State Fault Refusal :=
  .next (event (endStart image) s)

/-- JAM_ASSERTION (R101). -/
def execJamAssertion (s : State) : Host.Outcome State Fault Refusal := .next (assertJam s)

/-- JAM_RELEASE (R101). -/
def execJamRelease (s : State) : Host.Outcome State Fault Refusal := .next (releaseJam s)

/-- CS_ASSERT (R170). -/
def execCsAssert (s : State) : Host.Outcome State Fault Refusal :=
  .next (event selectChip s)

/-- UNKNOWN_TRANSACTION (R172). -/
def execUnknownTransaction (t : Transaction) (s : State) : Host.Outcome State Fault Refusal :=
  .next (event (transactBytes t) s)

end Sys2Proof.Machine
end

