-- ==== Sys2Proof/Machine/PortRows.lean ====
section
/-! DEFINITION. Machine/PortRows.lean: the commands of the station port: each is a transaction of the right length and
check, that goes through the CODE and CONTENT checks and the station state (R172, R174) to the block
that owns it. -/
namespace Sys2Proof.Machine

/-- NOP (R174). -/
def execNop (s : State) : Host.Outcome State Fault Refusal :=
  .next (event (transact .nop) s)

/-- READ_STATUS (R175). -/
def execReadStatus (part : Nat) (s : State) : Host.Outcome State Fault Refusal :=
  .next (event (transact (.readStatus part)) s)

/-- READ_DIAGNOSTICS (R173). -/
def execReadDiagnostics (s : State) : Host.Outcome State Fault Refusal :=
  .next (event (transact .readDiagnostics) s)

/-- READ_EVENT (R178). -/
def execReadEvent (s : State) : Host.Outcome State Fault Refusal :=
  .next (event (transact .readEvent) s)

/-- READ_PEER (R32). -/
def execReadPeer (station : Nat) (part : Nat) (s : State) : Host.Outcome State Fault Refusal :=
  .next (event (transact (.readPeer station part)) s)

/-- READ_HOLD (R138). -/
def execReadHold (index : Nat) (part : Nat) (s : State) : Host.Outcome State Fault Refusal :=
  .next (event (transact (.readHold index part)) s)

/-- PLACE_HOLD (R141). -/
def execPlaceHold (scope : Scope) (key : Nat) (trigger : Nat) (s : State) : Host.Outcome State
    Fault Refusal :=
  .next (event (transact (.placeHold scope key trigger)) s)

/-- DISPOSITION (R155). -/
def execDisposition (scope : Scope) (key : Nat) (generation : Nat) (action : Disposition) (s :
    State) : Host.Outcome State Fault Refusal :=
  .next (event (transact (.disposition scope key generation action)) s)

/-- ARM_WATCH (R179). -/
def execArmWatch (slot : Nat) (scope : Scope) (key : Nat) (s : State) : Host.Outcome State Fault
    Refusal :=
  .next (event (transact (.armWatch slot scope key)) s)

/-- DISARM_WATCH (R179). -/
def execDisarmWatch (slot : Nat) (s : State) : Host.Outcome State Fault Refusal :=
  .next (event (transact (.disarmWatch slot)) s)

/-- RESTART (R26). -/
def execRestart (s : State) : Host.Outcome State Fault Refusal :=
  .next (event (transact .restart) s)

/-- LOT_ARRIVED (R36). -/
def execLotArrived (lot : LotRecord) (s : State) : Host.Outcome State Fault Refusal :=
  .next (event (transact (.lotArrived lot)) s)

/-- LOT_ISSUED (R37). -/
def execLotIssued (lotId : Nat) (index : Nat) (cell : Nat) (s : State) : Host.Outcome State Fault
    Refusal :=
  .next (event (transact (.lotIssued lotId index cell)) s)

/-- LOT_RETURNED (R38). -/
def execLotReturned (lotId : Nat) (index : Nat) (s : State) : Host.Outcome State Fault Refusal :=
  .next (event (transact (.lotReturned lotId index)) s)

/-- LOT_REMOVED (R39). -/
def execLotRemoved (lotId : Nat) (index : Nat) (s : State) : Host.Outcome State Fault Refusal :=
  .next (event (transact (.lotRemoved lotId index)) s)

/-- READ_STAGE (R35). -/
def execReadStage (index : Nat) (s : State) : Host.Outcome State Fault Refusal :=
  .next (event (transact (.readStage index)) s)

/-- DOCK (R87). -/
def execDock (handler : Nat) (s : State) : Host.Outcome State Fault Refusal :=
  .next (event (transact (.dock handler)) s)

/-- UNDOCK (R90). -/
def execUndock (s : State) : Host.Outcome State Fault Refusal :=
  .next (event (transact .undock) s)

/-- REQUEST_HANDLER (R75). -/
def execRequestHandler (kit : Nat) (temp : Int) (s : State) : Host.Outcome State Fault Refusal :=
  .next (event (transact (.requestHandler kit temp)) s)

/-- UNQUEUE (R65). -/
def execUnqueue (lotId : Nat) (index : Nat) (s : State) : Host.Outcome State Fault Refusal :=
  .next (event (transact (.unqueue lotId index)) s)

/-- LOT_LOADED (R66). -/
def execLotLoaded (lotId : Nat) (index : Nat) (s : State) : Host.Outcome State Fault Refusal :=
  .next (event (transact (.lotLoaded lotId index)) s)

/-- BIN_REPORT (R119). -/
def execBinReport (mask : SiteMask) (bins : List Nat) (s : State) : Host.Outcome State Fault
    Refusal :=
  .next (event (transact (.binReport mask bins)) s)

/-- END_PASS (R69). -/
def execEndPass (s : State) : Host.Outcome State Fault Refusal :=
  .next (event (transact .endPass) s)

/-- LOT_UNLOADED (R71). -/
def execLotUnloaded (s : State) : Host.Outcome State Fault Refusal :=
  .next (event (transact .lotUnloaded) s)

/-- LIMIT_SET_A (R113). -/
def execLimitSetA (a : LimitPartA) (s : State) : Host.Outcome State Fault Refusal :=
  .next (event (transact (.limitSetA a)) s)

/-- LIMIT_SET_B (R113). -/
def execLimitSetB (product : Nat) (pairs : List (Nat × Nat)) (jamLimit : Nat) (s : State) :
    Host.Outcome State Fault Refusal :=
  .next (event (transact (.limitSetB product pairs jamLimit)) s)

/-- LIMIT_CLEAR (R114). -/
def execLimitClear (product : Nat) (s : State) : Host.Outcome State Fault Refusal :=
  .next (event (transact (.limitClear product)) s)

/-- READ_LOT (R116). -/
def execReadLot (part : Nat) (s : State) : Host.Outcome State Fault Refusal :=
  .next (event (transact (.readLot part)) s)

/-- READ_QUEUE (R64). -/
def execReadQueue (index : Nat) (part : Nat) (s : State) : Host.Outcome State Fault Refusal :=
  .next (event (transact (.readQueue index part)) s)

/-- READ_SIGHTING (R55). -/
def execReadSighting (index : Nat) (s : State) : Host.Outcome State Fault Refusal :=
  .next (event (transact (.readSighting index)) s)

/-- READ_SITE (R116). -/
def execReadSite (site : Nat) (s : State) : Host.Outcome State Fault Refusal :=
  .next (event (transact (.readSite site)) s)

/-- READ_OUTBOX (R72). -/
def execReadOutbox (index : Nat) (part : Nat) (s : State) : Host.Outcome State Fault Refusal :=
  .next (event (transact (.readOutbox index part)) s)

/-- TEMP_REACHED (R98). -/
def execTempReached (temp : Int) (s : State) : Host.Outcome State Fault Refusal :=
  .next (event (transact (.tempReached temp)) s)

/-- TEMP_LOST (R99). -/
def execTempLost (s : State) : Host.Outcome State Fault Refusal :=
  .next (event (transact .tempLost) s)

/-- UNIT_INDEXED (R103). -/
def execUnitIndexed (mask : SiteMask) (s : State) : Host.Outcome State Fault Refusal :=
  .next (event (transact (.unitIndexed mask)) s)

/-- KIT_CHANGED (R108). -/
def execKitChanged (kit : Nat) (s : State) : Host.Outcome State Fault Refusal :=
  .next (event (transact (.kitChanged kit)) s)

/-- CONTACTOR_REPLACED (R106). -/
def execContactorReplaced (site : Nat) (s : State) : Host.Outcome State Fault Refusal :=
  .next (event (transact (.contactorReplaced site)) s)

/-- CONTACTOR_COUNT (R107). -/
def execContactorCount (site : Nat) (value : Nat) (s : State) : Host.Outcome State Fault Refusal :=
  .next (event (transact (.contactorCount site value)) s)

/-- SITE_RESTORE (R106). -/
def execSiteRestore (site : Nat) (s : State) : Host.Outcome State Fault Refusal :=
  .next (event (transact (.siteRestore site)) s)

/-- RE_ARM (R102). -/
def execReArm (s : State) : Host.Outcome State Fault Refusal :=
  .next (event (transact .reArm) s)

/-- READ_HANDLER (R94). -/
def execReadHandler (part : Nat) (s : State) : Host.Outcome State Fault Refusal :=
  .next (event (transact (.readHandler part)) s)

/-- PACK_DONE (R165). -/
def execPackDone (lotId : Nat) (count : Nat) (s : State) : Host.Outcome State Fault Refusal :=
  .next (event (transact (.packDone lotId count)) s)

/-- READ_PACK (R157). -/
def execReadPack (index : Nat) (part : Nat) (s : State) : Host.Outcome State Fault Refusal :=
  .next (event (transact (.readPack index part)) s)

/-- READ_RELEASE (R168). -/
def execReadRelease (lotId : Nat) (part : Nat) (s : State) : Host.Outcome State Fault Refusal :=
  .next (event (transact (.readRelease lotId part)) s)

end Sys2Proof.Machine
end

