-- ==== Sys2Proof/Machine/TimerRows.lean ====
section
/-! DEFINITION. Machine/TimerRows.lean: the expiries of the part's own timers. -/
namespace Sys2Proof.Machine

/-- LEARNING_TIMER_EXPIRY (R24). -/
def execLearningTimerExpiry (s : State) : Host.Outcome State Fault Refusal :=
  .next (event (fun s => expire (learningTimer s) enterActive s) s)

/-- LOSS_TIMER_EXPIRY (R31). -/
def execLossTimerExpiry (peer : Nat) (s : State) : Host.Outcome State Fault Refusal :=
  .next (event (lossExpiry peer) s)

/-- BEACON_TIMER_EXPIRY (R27). -/
def execBeaconTimerExpiry (s : State) : Host.Outcome State Fault Refusal :=
  .next (event (fun s => expire s.peers.beaconTimer beaconExpiry s) s)

/-- ANSWER_TIMER_EXPIRY (R152). -/
def execAnswerTimerExpiry (s : State) : Host.Outcome State Fault Refusal :=
  .next (event answerExpiry s)

/-- RESYNC_SPACING_EXPIRY (R150). -/
def execResyncSpacingExpiry (s : State) : Host.Outcome State Fault Refusal :=
  .next (event spacingExpiry s)

/-- OFFER_TIMER_EXPIRY (R43). -/
def execOfferTimerExpiry (s : State) : Host.Outcome State Fault Refusal :=
  .next (event (fun s => expire s.stage.offerTimer offerExpiry s) s)

/-- CONTEST_WINDOW_EXPIRY (R48). -/
def execContestWindowExpiry (lotId : Nat) (index : Nat) (s : State) : Host.Outcome State Fault
    Refusal :=
  .next (event (windowExpiry lotId index) s)

/-- ACCEPT_TIMER_EXPIRY (R50). -/
def execAcceptTimerExpiry (lotId : Nat) (index : Nat) (s : State) : Host.Outcome State Fault
    Refusal :=
  .next (event (acceptExpiry lotId index) s)

/-- SIGHTING_AGEING (R57). -/
def execSightingAgeing (lotId : Nat) (index : Nat) (s : State) : Host.Outcome State Fault Refusal :=
  .next (event (ageSighting lotId index) s)

/-- CLAIM_LAPSE (R60). -/
def execClaimLapse (lotId : Nat) (index : Nat) (s : State) : Host.Outcome State Fault Refusal :=
  .next (event (lapseExpiry lotId index) s)

/-- PERMIT_TIMER_EXPIRY (R68). -/
def execPermitTimerExpiry (s : State) : Host.Outcome State Fault Refusal :=
  .next (event (fun s => expire s.cell.permitTimer permitExpiry s) s)

/-- DELIVERY_TIMER_EXPIRY (R73). -/
def execDeliveryTimerExpiry (s : State) : Host.Outcome State Fault Refusal :=
  .next (event (fun s => expire s.cell.deliveryTimer deliveryExpiry s) s)

/-- IDLE_TIMER_EXPIRY (R75). -/
def execIdleTimerExpiry (s : State) : Host.Outcome State Fault Refusal :=
  .next (event (fun s => expire s.cell.idleTimer idleExpiry s) s)

/-- HANDLER_WANTED_SPACING_EXPIRY (R75). -/
def execHandlerWantedSpacingExpiry (s : State) : Host.Outcome State Fault Refusal :=
  .next (event (fun s => expire s.cell.wantedSpacing wantedSpacingExpiry s) s)

/-- REPLY_WINDOW_EXPIRY (R76). -/
def execReplyWindowExpiry (s : State) : Host.Outcome State Fault Refusal :=
  .next (event (fun s => expire (replyWindow s.cell.reservation) windowClosed s) s)

/-- REPLY_TIMER_EXPIRY (R77). -/
def execReplyTimerExpiry (s : State) : Host.Outcome State Fault Refusal :=
  .next (event (fun s => expire (replyTimer s.cell.reservation) candidateOut s) s)

/-- CELL_RESERVATION_DEADLINE (R77). -/
def execCellReservationDeadline (s : State) : Host.Outcome State Fault Refusal :=
  .next (event (fun s => expire (cellDeadline s.cell.reservation) cellDeadlinePast s) s)

/-- CELL_BIND_TIMER_EXPIRY (R89). -/
def execCellBindTimerExpiry (s : State) : Host.Outcome State Fault Refusal :=
  .next (event (fun s => expire (cellBindTimer s) cellBindExpiry s) s)

/-- RESERVATION_DEADLINE (R81). -/
def execReservationDeadline (s : State) : Host.Outcome State Fault Refusal :=
  .next (event (fun s => expire (handlerDeadline s) handlerDeadlinePast s) s)

/-- BIND_TIMER_EXPIRY (R84). -/
def execBindTimerExpiry (s : State) : Host.Outcome State Fault Refusal :=
  .next (event (fun s => expire (handlerBindTimer s) failHandshake s) s)

/-- ORPHAN_TIMER_EXPIRY (R85). -/
def execOrphanTimerExpiry (s : State) : Host.Outcome State Fault Refusal :=
  .next (event (fun s => expire (orphanTimerOf s) orphanExpiry s) s)

/-- SOAK_TIMER_EXPIRY (R100). -/
def execSoakTimerExpiry (s : State) : Host.Outcome State Fault Refusal :=
  .next (event (fun s => expire (soakTimerOf s) soakExpiry s) s)

/-- GRACE_TIMER_EXPIRY (R100). -/
def execGraceTimerExpiry (s : State) : Host.Outcome State Fault Refusal :=
  .next (event (fun s => expire (graceTimerOf s) graceExpiry s) s)

/-- STATUS_TIMER_EXPIRY (R110). -/
def execStatusTimerExpiry (s : State) : Host.Outcome State Fault Refusal :=
  .next (event (fun s => expire s.handler.statusTimer statusExpiry s) s)

end Sys2Proof.Machine
end

