-- ==== Sys2Proof/Machine/Dispatch.lean ====
section
/-! DEFINITION. Machine/Dispatch.lean: one arm per command, each one call of its meaning. -/
namespace Sys2Proof.Machine

def exec (i : Instr) (s : State) : Host.Outcome State Fault Refusal :=
  match i with
  | .resetRelease numberStraps roleStraps => Sys2Proof.Machine.execResetRelease numberStraps roleStraps s
  | .resetAssert => Sys2Proof.Machine.execResetAssert s
  | .startEnd image => Sys2Proof.Machine.execStartEnd image s
  | .lineJoin => Sys2Proof.Machine.execLineJoin s
  | .learningTimerExpiry => Sys2Proof.Machine.execLearningTimerExpiry s
  | .carrierDetect point => Sys2Proof.Machine.execCarrierDetect point s
  | .transmissionEnd line => Sys2Proof.Machine.execTransmissionEnd line s
  | .transmitStart => Sys2Proof.Machine.execTransmitStart s
  | .frameSent => Sys2Proof.Machine.execFrameSent s
  | .collision => Sys2Proof.Machine.execCollision s
  | .disturbanceEnd => Sys2Proof.Machine.execDisturbanceEnd s
  | .backoffRoundOver => Sys2Proof.Machine.execBackoffRoundOver s
  | .lossTimerExpiry peer => Sys2Proof.Machine.execLossTimerExpiry peer s
  | .beaconTimerExpiry => Sys2Proof.Machine.execBeaconTimerExpiry s
  | .beacon h b => Sys2Proof.Machine.execBeacon h b s
  | .offer h lot => Sys2Proof.Machine.execOffer h lot s
  | .claim h lotId index score owned => Sys2Proof.Machine.execClaim h lotId index score owned s
  | .grant h lotId index cell score => Sys2Proof.Machine.execGrant h lotId index cell score s
  | .accept h lotId index answer score => Sys2Proof.Machine.execAccept h lotId index answer score s
  | .revoke h lotId index reason => Sys2Proof.Machine.execRevoke h lotId index reason s
  | .return_ h lotId index reason => Sys2Proof.Machine.execReturn h lotId index reason s
  | .lotDone h c => Sys2Proof.Machine.execLotDone h c s
  | .doneTaken h lotId index => Sys2Proof.Machine.execDoneTaken h lotId index s
  | .release h r => Sys2Proof.Machine.execRelease h r s
  | .hold h r => Sys2Proof.Machine.execHold h r s
  | .clear h scope key generation disposition station => Sys2Proof.Machine.execClear h scope key generation disposition station s
  | .holdListReq h start => Sys2Proof.Machine.execHoldListReq h start s
  | .holdList h total start count records => Sys2Proof.Machine.execHoldList h total start count records s
  | .holdListNone h total start => Sys2Proof.Machine.execHoldListNone h total start s
  | .answerTimerExpiry => Sys2Proof.Machine.execAnswerTimerExpiry s
  | .resyncSpacingExpiry => Sys2Proof.Machine.execResyncSpacingExpiry s
  | .handlerWanted h kit temp => Sys2Proof.Machine.execHandlerWanted h kit temp s
  | .handlerAvailable h fit idle => Sys2Proof.Machine.execHandlerAvailable h fit idle s
  | .reserve h => Sys2Proof.Machine.execReserve h s
  | .reserveReply h result minutes => Sys2Proof.Machine.execReserveReply h result minutes s
  | .bindReq h kit => Sys2Proof.Machine.execBindReq h kit s
  | .bindReply h result fit mask => Sys2Proof.Machine.execBindReply h result fit mask s
  | .bindConfirm h kit sites => Sys2Proof.Machine.execBindConfirm h kit sites s
  | .unbind h reason => Sys2Proof.Machine.execUnbind h reason s
  | .permit h p => Sys2Proof.Machine.execPermit h p s
  | .handlerStatus h b => Sys2Proof.Machine.execHandlerStatus h b s
  | .siteDown h site reason => Sys2Proof.Machine.execSiteDown h site reason s
  | .offerTimerExpiry => Sys2Proof.Machine.execOfferTimerExpiry s
  | .contestWindowExpiry lotId index => Sys2Proof.Machine.execContestWindowExpiry lotId index s
  | .acceptTimerExpiry lotId index => Sys2Proof.Machine.execAcceptTimerExpiry lotId index s
  | .sightingAgeing lotId index => Sys2Proof.Machine.execSightingAgeing lotId index s
  | .claimLapse lotId index => Sys2Proof.Machine.execClaimLapse lotId index s
  | .permitTimerExpiry => Sys2Proof.Machine.execPermitTimerExpiry s
  | .deliveryTimerExpiry => Sys2Proof.Machine.execDeliveryTimerExpiry s
  | .idleTimerExpiry => Sys2Proof.Machine.execIdleTimerExpiry s
  | .handlerWantedSpacingExpiry => Sys2Proof.Machine.execHandlerWantedSpacingExpiry s
  | .replyWindowExpiry => Sys2Proof.Machine.execReplyWindowExpiry s
  | .replyTimerExpiry => Sys2Proof.Machine.execReplyTimerExpiry s
  | .cellReservationDeadline => Sys2Proof.Machine.execCellReservationDeadline s
  | .cellBindTimerExpiry => Sys2Proof.Machine.execCellBindTimerExpiry s
  | .reservationDeadline => Sys2Proof.Machine.execReservationDeadline s
  | .bindTimerExpiry => Sys2Proof.Machine.execBindTimerExpiry s
  | .orphanTimerExpiry => Sys2Proof.Machine.execOrphanTimerExpiry s
  | .soakTimerExpiry => Sys2Proof.Machine.execSoakTimerExpiry s
  | .graceTimerExpiry => Sys2Proof.Machine.execGraceTimerExpiry s
  | .statusTimerExpiry => Sys2Proof.Machine.execStatusTimerExpiry s
  | .jamAssertion => Sys2Proof.Machine.execJamAssertion s
  | .jamRelease => Sys2Proof.Machine.execJamRelease s
  | .csAssert => Sys2Proof.Machine.execCsAssert s
  | .unknownTransaction t => Sys2Proof.Machine.execUnknownTransaction t s
  | .nop => Sys2Proof.Machine.execNop s
  | .readStatus part => Sys2Proof.Machine.execReadStatus part s
  | .readDiagnostics => Sys2Proof.Machine.execReadDiagnostics s
  | .readEvent => Sys2Proof.Machine.execReadEvent s
  | .readPeer station part => Sys2Proof.Machine.execReadPeer station part s
  | .readHold index part => Sys2Proof.Machine.execReadHold index part s
  | .placeHold scope key trigger => Sys2Proof.Machine.execPlaceHold scope key trigger s
  | .disposition scope key generation action => Sys2Proof.Machine.execDisposition scope key generation action s
  | .armWatch slot scope key => Sys2Proof.Machine.execArmWatch slot scope key s
  | .disarmWatch slot => Sys2Proof.Machine.execDisarmWatch slot s
  | .restart => Sys2Proof.Machine.execRestart s
  | .lotArrived lot => Sys2Proof.Machine.execLotArrived lot s
  | .lotIssued lotId index cell => Sys2Proof.Machine.execLotIssued lotId index cell s
  | .lotReturned lotId index => Sys2Proof.Machine.execLotReturned lotId index s
  | .lotRemoved lotId index => Sys2Proof.Machine.execLotRemoved lotId index s
  | .readStage index => Sys2Proof.Machine.execReadStage index s
  | .dock handler => Sys2Proof.Machine.execDock handler s
  | .undock => Sys2Proof.Machine.execUndock s
  | .requestHandler kit temp => Sys2Proof.Machine.execRequestHandler kit temp s
  | .unqueue lotId index => Sys2Proof.Machine.execUnqueue lotId index s
  | .lotLoaded lotId index => Sys2Proof.Machine.execLotLoaded lotId index s
  | .binReport mask bins => Sys2Proof.Machine.execBinReport mask bins s
  | .endPass => Sys2Proof.Machine.execEndPass s
  | .lotUnloaded => Sys2Proof.Machine.execLotUnloaded s
  | .limitSetA a => Sys2Proof.Machine.execLimitSetA a s
  | .limitSetB product pairs jamLimit => Sys2Proof.Machine.execLimitSetB product pairs jamLimit s
  | .limitClear product => Sys2Proof.Machine.execLimitClear product s
  | .readLot part => Sys2Proof.Machine.execReadLot part s
  | .readQueue index part => Sys2Proof.Machine.execReadQueue index part s
  | .readSighting index => Sys2Proof.Machine.execReadSighting index s
  | .readSite site => Sys2Proof.Machine.execReadSite site s
  | .readOutbox index part => Sys2Proof.Machine.execReadOutbox index part s
  | .tempReached temp => Sys2Proof.Machine.execTempReached temp s
  | .tempLost => Sys2Proof.Machine.execTempLost s
  | .unitIndexed mask => Sys2Proof.Machine.execUnitIndexed mask s
  | .kitChanged kit => Sys2Proof.Machine.execKitChanged kit s
  | .contactorReplaced site => Sys2Proof.Machine.execContactorReplaced site s
  | .contactorCount site value => Sys2Proof.Machine.execContactorCount site value s
  | .siteRestore site => Sys2Proof.Machine.execSiteRestore site s
  | .reArm => Sys2Proof.Machine.execReArm s
  | .readHandler part => Sys2Proof.Machine.execReadHandler part s
  | .packDone lotId count => Sys2Proof.Machine.execPackDone lotId count s
  | .readPack index part => Sys2Proof.Machine.execReadPack index part s
  | .readRelease lotId part => Sys2Proof.Machine.execReadRelease lotId part s

end Sys2Proof.Machine
end

