-- ==== Sys2Proof/Safety.lean ====
section
/-! DEFINITION. Safety.lean: what holds between the commands of every run: the promises the manual makes
of the whole part, in the terms the statements use. -/
namespace Sys2Proof.Machine

/-- The two outputs follow the state: INDEX-ENABLE is high exactly under the conditions of R109, and
EVENT exactly while the event queue holds a record (R178). -/
def PinsRight (s : State) : Prop :=
  s.pins.indexEn = indexConditions s ∧ s.pins.event = !s.port.events.isEmpty

/-- The hold list is as R138 and R149 say: sorted with one record for a key, 24 records at most, and
the digest is that of the list. -/
def HoldsRight (s : State) : Prop :=
  s.holds.records.Pairwise (fun a b => keyBefore a b = true) ∧
    s.holds.records.length ≤ Config.holdSize ∧ s.holds.digest = digestOf s.holds.records

/-- The transmit queue holds at most 16 frames (R12) and the event queue at most 32 records (R176). -/
def QueuesRight (s : State) : Prop :=
  s.link.queue.length ≤ Config.queueSize ∧ s.port.events.length ≤ Config.eventSize

/-- The transmitter is OFF exactly in START and SILENT, with an empty queue there; an EMPTY one has no
frame, and one WAITING, SENDING or DISTURBING has a head frame (section 1.4, R13). -/
def LinkRight (s : State) : Prop :=
  ((s.link.tx = .off ↔ s.isLive = false) ∧ (s.link.tx = .off → s.link.queue = []) ∧
    (s.link.tx = .empty → s.link.queue = [])) ∧
    (s.link.tx = .waiting ∨ s.link.tx = .sending ∨ s.link.tx = .disturbing → s.link.queue ≠ [])

/-- The balance of the active lot: its sixteen bin counts and its pool make up its tested base
(R118). -/
def BalanceRight (s : State) : Prop :=
  ∀ a, s.cell.active = some a → a.bins.length = 16 ∧ binSum a.bins + a.pool = a.tested

/-- A handler out of BOUND has the idle permit (R96), and in FREE it has no cell (R78). -/
def RelationRight (s : State) : Prop :=
  (s.handler.rel ≠ .bound → s.handler.permit = Permit.idle) ∧
    (s.handler.rel = .free → s.handler.cell = 0)

/-- The capacities of the tables: staging 64 entries (R35), sightings 32 (R55), done outbox 8 (R72), pack
table 32 (R157). -/
def TablesRight (s : State) : Prop :=
  s.stage.entries.length ≤ Config.stageSize ∧ s.cell.sightings.length ≤ Config.sightingSize ∧
    s.cell.outbox.length ≤ Config.outboxSize ∧ s.pack.entries.length ≤ Config.packSize

/-- The tables of a fixed size keep it: forty peer entries (spec/02 section 2.6), four watch slots (R179),
eight sites at the handler (R94), eight marks and eight site tallies at the cell (R116, R117), and four
sublot slots in a pack entry (R157). -/
def SizesRight (s : State) : Prop :=
  s.peers.table.length = 40 ∧ s.port.watches.length = 4 ∧ s.handler.sites.length = 8 ∧
    s.cell.marks.length = 8 ∧ (∀ a, s.cell.active = some a → a.sites.length = 8) ∧
    ∀ e ∈ s.pack.entries, e.slots.length = 4

/-- The lists within the tables: a claim list holds 8 claims (R46), an exclusion list 4 cells (R50), the
candidate list 4 handlers (R76), and the limit table, as loaded and as it stands, 8 product entries
(R112). -/
def ListsRight (s : State) : Prop :=
  (∀ e ∈ s.stage.entries, e.claims.length ≤ Config.claimSize ∧
      e.excluded.length ≤ Config.exclusionSize) ∧
    candidateCount s.cell.reservation ≤ Config.candidateSize ∧
    s.limits.products.length ≤ Config.productSize ∧
    s.start.config.limits.products.length ≤ Config.productSize

/-- Two lot records are of one sublot. -/
abbrev sameLot (a b : LotRecord) : Prop := a.lotId = b.lotId ∧ a.index = b.index

/-- The cell queue and the pending claims number 4 at most, a lot is in the queue once, a lot has one
sighting, and the active lot is not in the queue (R55, R64). -/
def CellQueueRight (s : State) : Prop :=
  s.cell.queue.length + claimsPending s.cell ≤ Config.cellQueueSize ∧
    s.cell.queue.Pairwise (fun a b => ¬ sameLot a.lot b.lot) ∧
    s.cell.sightings.Pairwise (fun a b => ¬ sameLot a.lot b.lot) ∧
    ∀ a, s.cell.active = some a → ∀ q ∈ s.cell.queue, ¬ sameLot a.lot q.lot

/-- Nothing is owed between commands: the status of an event is sent in the event (R110). -/
def NothingOwed (s : State) : Prop := s.handler.statusOwed = false

/-- A run is safe while every promise holds. -/
def Safe (s : State) : Prop :=
  PinsRight s ∧ HoldsRight s ∧ QueuesRight s ∧ LinkRight s ∧ BalanceRight s ∧ RelationRight s ∧
    TablesRight s ∧ NothingOwed s ∧ SizesRight s ∧ CellQueueRight s ∧ ListsRight s

/-! ## The terms of the statements -/

/-- A frame reaches its block with nothing else to do on the way: the part is out of reset and receiving,
the frame passes the checks of R14 and R15 and is for this station and its role, its source is not this
station and is a peer already PRESENT whose fresh mark it does not newly set (R29), and no watch slot is
armed (R180). -/
abbrev Arrives (h : Header) (p : Payload) (s : State) : Prop :=
  s.pins.inReset = false ∧ receiving s = true ∧ addressOk h p = true ∧ forThisStation s h = true ∧
    takenBy (kindCode p) s.start.role = true ∧ contentOk s h.source p = true ∧ h.source ≠ s.start.number ∧
    (peerAt s.peers h.source).presence = .present ∧
    (h.fresh = true → (peerAt s.peers h.source).fresh = true) ∧
    s.port.watches = [none, none, none, none]

/-- The state once such a frame has been heard: the last sender, the line access count and the source's
peer entry (R7, R8, R29). -/
def heard (h : Header) (s : State) : State :=
  updatePeer h.source (·.heard s.clock (s.now + 3 * s.beaconMs) h.fresh)
    (s.setLink (s.link.afterTransmission h.source))

/-- A transaction of a command is taken: the part is out of reset and no full reset has abandoned the
transaction (R169), the role takes the command, its fields are in range, and the station state allows it
(R172, R174). -/
abbrev PortTakes (c : PortCommand) (s : State) : Prop :=
  s.pins.inReset = false ∧ s.port.abandoned = false ∧ codeOk s (commandCode c) = true ∧
    commandOk s c = true ∧ available s (availability c) = true

end Sys2Proof.Machine
end

