-- ==== Sys2Proof/WellFormed.lean ====
section
/-! DEFINITION. WellFormed.lean: the commands that the line, the port and the part itself can carry:
every field fits the bytes or bits its layout gives it (spec/11), and every list has its layout's
length. Ranges within those bytes are the machine's to check (R172, R182). -/
namespace Sys2Proof

/-- The number fits one byte. -/
def fits1 (n : Nat) : Bool := n < 256
/-- The number fits two bytes. -/
def fits2 (n : Nat) : Bool := n < 65536
/-- The number fits three bytes. -/
def fits3 (n : Nat) : Bool := n < 16777216
/-- The number fits four bytes. -/
def fits4 (n : Nat) : Bool := n < 4294967296
/-- The number fits half a sublot byte. -/
def fitsNibble (n : Nat) : Bool := n < 16
/-- The temperature fits two bytes of two's complement. -/
def fitsTemp (t : Int) : Bool := -32768 ≤ t && t < 32768
/-- The reasons word has no bit beyond the twelve reasons (R181). -/
def fitsReasons (m : Mask16) : Bool := m &&& 0xF000#16 == 0#16

/-- The lot record fits its 17 bytes. -/
def LotRecord.wf (l : LotRecord) : Bool :=
  fits4 l.lotId && fitsNibble l.index && fitsNibble l.count && fits2 l.product && fits2 l.program &&
    fits1 l.kit && fitsTemp l.temp && fits2 l.quantity && fits1 l.group && fits1 l.priority &&
    fits1 l.packStation

/-- The hold record fits its 15 bytes. -/
def HoldRec.wf (r : HoldRec) : Bool :=
  fits4 r.key && fits2 r.generation && fits1 r.origin && fits1 r.detail && fits4 r.trigger

/-- The completion record fits its 29 bytes. -/
def Completion.wf (c : Completion) : Bool :=
  fits4 c.lotId && fitsNibble c.index && fitsNibble c.count && fits2 c.product && fits2 c.program &&
    fits2 c.quantity && fits1 c.packStation && fits1 c.cell && fits3 c.tested && fits3 c.good &&
    fits3 c.unretested && fits3 c.excess && fits1 c.passes && fitsReasons c.reasons

/-- The release record fits its 22 bytes. -/
def ReleaseRec.wf (r : ReleaseRec) : Bool :=
  fits4 r.lotId && fits2 r.product && fits1 r.count && fits4 r.sumTested && fits4 r.sumGood &&
    fits2 r.yield && fits2 r.sequence && fits2 r.code

/-- The kit, range and site count fit their 6 bytes. -/
def HandlerFit.wf (f : HandlerFit) : Bool :=
  fits1 f.kit && fitsTemp f.tempMin && fitsTemp f.tempMax && fits1 f.sites

/-- The role block fits its bytes. -/
def BeaconBlock.wf : BeaconBlock → Bool
  | .cell b r l => fits1 b && fits1 r && fits1 l
  | .handler _ c k lo hi n _ => fits1 c && fits1 k && fitsTemp lo && fitsTemp hi && fits1 n
  | .stage w z => fits1 w && fits1 z
  | .pack n => fits1 n

/-- The BEACON fits its bytes. -/
def BeaconBody.wf (b : BeaconBody) : Bool := fits1 b.holdCount && fits2 b.digest && b.block.wf

/-- The HANDLER-STATUS fits its 14 bytes. -/
def StatusBody.wf (b : StatusBody) : Bool :=
  fitsTemp b.reached && b.sites.length == 8 && fits1 b.jamCount

/-- The PERMIT fits its 9 bytes. -/
def Permit.wf (p : Permit) : Bool :=
  fits4 p.lotId && fits1 p.index && fits1 p.kit && fitsTemp p.temp

/-- Part A of a limit entry fits its 18 bytes. -/
def LimitPartA.wf (a : LimitPartA) : Bool :=
  fits2 a.product && fits2 a.lya && fits2 a.lyf && fits2 a.nMin && fits2 a.nSite && fits2 a.sdl &&
    fits1 a.cf && fits1 a.passes

/-- The header fits: an address value of six bits and a source of one byte. -/
def Header.wf (h : Header) : Bool := h.addr.value < 64 && fits1 h.source

/-- A lot field fits its bytes. -/
def fitsLot (lotId index : Nat) : Bool := fits4 lotId && fits1 index

/-- The payload fits its bytes. -/
def Payload.wf : Payload → Bool
  | .beacon b => b.wf
  | .offer l => l.wf
  | .claim lot ix sc _ => fitsLot lot ix && fits1 sc
  | .grant lot ix c sc => fitsLot lot ix && fits1 c && fits1 sc
  | .accept lot ix _ sc => fitsLot lot ix && fits1 sc
  | .revoke lot ix _ => fitsLot lot ix
  | .return_ lot ix _ => fitsLot lot ix
  | .lotDone c => c.wf
  | .doneTaken lot ix => fitsLot lot ix
  | .release r => r.wf
  | .hold r => r.wf
  | .clear _ k g _ n => fits4 k && fits2 g && fits1 n
  | .holdListReq i => fits1 i
  | .holdList t i n rs =>
    fits1 t && fits1 i && fits1 n && 1 ≤ rs.length && rs.length ≤ 3 && rs.all HoldRec.wf
  | .holdListNone t i => fits1 t && fits1 i
  | .handlerWanted k t => fits1 k && fitsTemp t
  | .handlerAvailable f m => f.wf && fits2 m
  | .reserve => true
  | .reserveReply _ m => fits1 m
  | .bindReq k => fits1 k
  | .bindReply _ f _ => f.wf
  | .bindConfirm k n => fits1 k && fits1 n
  | .unbind _ => true
  | .permit p => p.wf
  | .handlerStatus b => b.wf
  | .siteDown n _ => fits1 n
  | .raw k bs => fits1 k && bs.length ≤ 48

/-- The fields of a port command fit its 18 payload bytes. -/
def PortCommand.wf : PortCommand → Bool
  | .nop | .readDiagnostics | .readEvent | .restart | .undock | .endPass | .lotUnloaded | .tempLost
  | .reArm => true
  | .readStatus p | .disarmWatch p | .readStage p | .dock p | .readLot p | .readSighting p
  | .readSite p | .kitChanged p | .contactorReplaced p | .siteRestore p | .readHandler p => fits1 p
  | .readPeer a b | .readHold a b | .readQueue a b | .readOutbox a b | .readPack a b =>
    fits1 a && fits1 b
  | .placeHold _ k t => fits4 k && fits4 t
  | .disposition _ k g _ => fits4 k && fits2 g
  | .armWatch n _ k => fits1 n && fits4 k
  | .lotArrived l => l.wf
  | .lotIssued lot ix c => fitsLot lot ix && fits1 c
  | .lotReturned lot ix | .lotRemoved lot ix | .unqueue lot ix | .lotLoaded lot ix
  | .readRelease lot ix => fitsLot lot ix
  | .requestHandler k t => fits1 k && fitsTemp t
  | .binReport _ bins => bins.length == 8 && bins.all fits1
  | .limitSetA a => a.wf
  | .limitSetB p ps j => fits2 p && ps.length == 4 && ps.all (fun x => fits1 x.1 && fits2 x.2) && fits1 j
  | .limitClear p => fits2 p
  | .tempReached t => fitsTemp t
  | .unitIndexed _ => true
  | .contactorCount n v => fits1 n && fits4 v
  | .packDone lot n => fits4 lot && fits4 n

/-- A transmission begins with a dominant edge, and holds no ten recessive bit times in a row, which would
have ended it (R1). -/
def Transmission.wf (t : Transmission) : Bool :=
  t.levels.head? == some .dominant && Machine.untilSilence 0 t.levels == t.levels

/-- The command can be given: its fields fit their bytes. -/
def Instr.wf : Instr → Bool
  | .resetRelease _ _ => true
  | .resetAssert => true
  | .startEnd r => r.data.length ≤ 192
  | .lineJoin => true
  | .learningTimerExpiry => true
  | .carrierDetect _ => true
  | .transmissionEnd t => t.wf
  | .transmitStart => true
  | .frameSent => true
  | .collision => true
  | .disturbanceEnd => true
  | .backoffRoundOver => true
  | .lossTimerExpiry n => 1 ≤ n && n ≤ 40
  | .beaconTimerExpiry => true
  | .beacon h b => h.wf && Payload.wf (.beacon b)
  | .offer h l => h.wf && Payload.wf (.offer l)
  | .claim h lot ix sc ow => h.wf && Payload.wf (.claim lot ix sc ow)
  | .grant h lot ix c sc => h.wf && Payload.wf (.grant lot ix c sc)
  | .accept h lot ix a sc => h.wf && Payload.wf (.accept lot ix a sc)
  | .revoke h lot ix r => h.wf && Payload.wf (.revoke lot ix r)
  | .return_ h lot ix r => h.wf && Payload.wf (.return_ lot ix r)
  | .lotDone h c => h.wf && Payload.wf (.lotDone c)
  | .doneTaken h lot ix => h.wf && Payload.wf (.doneTaken lot ix)
  | .release h r => h.wf && Payload.wf (.release r)
  | .hold h r => h.wf && Payload.wf (.hold r)
  | .clear h sc k g d n => h.wf && Payload.wf (.clear sc k g d n)
  | .holdListReq h i => h.wf && Payload.wf (.holdListReq i)
  | .holdList h t i n rs => h.wf && Payload.wf (.holdList t i n rs)
  | .holdListNone h t i => h.wf && Payload.wf (.holdListNone t i)
  | .answerTimerExpiry => true
  | .resyncSpacingExpiry => true
  | .handlerWanted h k t => h.wf && Payload.wf (.handlerWanted k t)
  | .handlerAvailable h f m => h.wf && Payload.wf (.handlerAvailable f m)
  | .reserve h => h.wf && Payload.wf .reserve
  | .reserveReply h r m => h.wf && Payload.wf (.reserveReply r m)
  | .bindReq h k => h.wf && Payload.wf (.bindReq k)
  | .bindReply h r f m => h.wf && Payload.wf (.bindReply r f m)
  | .bindConfirm h k n => h.wf && Payload.wf (.bindConfirm k n)
  | .unbind h r => h.wf && Payload.wf (.unbind r)
  | .permit h p => h.wf && Payload.wf (.permit p)
  | .handlerStatus h b => h.wf && Payload.wf (.handlerStatus b)
  | .siteDown h n r => h.wf && Payload.wf (.siteDown n r)
  | .offerTimerExpiry => true
  | .contestWindowExpiry lot ix => fitsLot lot ix
  | .acceptTimerExpiry lot ix => fitsLot lot ix
  | .sightingAgeing lot ix => fitsLot lot ix
  | .claimLapse lot ix => fitsLot lot ix
  | .permitTimerExpiry => true
  | .deliveryTimerExpiry => true
  | .idleTimerExpiry => true
  | .handlerWantedSpacingExpiry => true
  | .replyWindowExpiry => true
  | .replyTimerExpiry => true
  | .cellReservationDeadline => true
  | .cellBindTimerExpiry => true
  | .reservationDeadline => true
  | .bindTimerExpiry => true
  | .orphanTimerExpiry => true
  | .soakTimerExpiry => true
  | .graceTimerExpiry => true
  | .statusTimerExpiry => true
  | .jamAssertion => true
  | .jamRelease => true
  | .csAssert => true
  | .unknownTransaction t => t.extraEdges < 8
  | .nop => true
  | .readStatus p => PortCommand.wf (.readStatus p)
  | .readDiagnostics => true
  | .readEvent => true
  | .readPeer a b => PortCommand.wf (.readPeer a b)
  | .readHold a b => PortCommand.wf (.readHold a b)
  | .placeHold sc k t => PortCommand.wf (.placeHold sc k t)
  | .disposition sc k g d => PortCommand.wf (.disposition sc k g d)
  | .armWatch n sc k => PortCommand.wf (.armWatch n sc k)
  | .disarmWatch n => PortCommand.wf (.disarmWatch n)
  | .restart => true
  | .lotArrived l => PortCommand.wf (.lotArrived l)
  | .lotIssued lot ix c => PortCommand.wf (.lotIssued lot ix c)
  | .lotReturned lot ix => PortCommand.wf (.lotReturned lot ix)
  | .lotRemoved lot ix => PortCommand.wf (.lotRemoved lot ix)
  | .readStage i => PortCommand.wf (.readStage i)
  | .dock n => PortCommand.wf (.dock n)
  | .undock => true
  | .requestHandler k t => PortCommand.wf (.requestHandler k t)
  | .unqueue lot ix => PortCommand.wf (.unqueue lot ix)
  | .lotLoaded lot ix => PortCommand.wf (.lotLoaded lot ix)
  | .binReport m bins => PortCommand.wf (.binReport m bins)
  | .endPass => true
  | .lotUnloaded => true
  | .limitSetA a => PortCommand.wf (.limitSetA a)
  | .limitSetB p ps j => PortCommand.wf (.limitSetB p ps j)
  | .limitClear p => PortCommand.wf (.limitClear p)
  | .readLot p => PortCommand.wf (.readLot p)
  | .readQueue a b => PortCommand.wf (.readQueue a b)
  | .readSighting i => PortCommand.wf (.readSighting i)
  | .readSite n => PortCommand.wf (.readSite n)
  | .readOutbox a b => PortCommand.wf (.readOutbox a b)
  | .tempReached t => PortCommand.wf (.tempReached t)
  | .tempLost => true
  | .unitIndexed m => PortCommand.wf (.unitIndexed m)
  | .kitChanged k => PortCommand.wf (.kitChanged k)
  | .contactorReplaced n => PortCommand.wf (.contactorReplaced n)
  | .contactorCount n v => PortCommand.wf (.contactorCount n v)
  | .siteRestore n => PortCommand.wf (.siteRestore n)
  | .reArm => true
  | .readHandler p => PortCommand.wf (.readHandler p)
  | .packDone lot n => PortCommand.wf (.packDone lot n)
  | .readPack a b => PortCommand.wf (.readPack a b)
  | .readRelease lot p => PortCommand.wf (.readRelease lot p)

end Sys2Proof
end

