-- ==== Sys2Proof/Certificates/Slice0/Obligations.lean ====
section
/-! DEFINITION. Certificates/Slice0/Obligations.lean: the statements for the provers. A command's
statement says what the command makes of the state (its frame with it: the state on the right names every
field that changes), followed by the end of the event, `settle`, whose own frame is
`EventEndChangesOnly`. -/

section
open Sys2Proof Sys2Proof.Machine

/-! ## Steps, resets, and the whole machine -/

/-- A step takes the command at the front of the queue and runs it on the state with the queue's rest. -/
def Obligations.StepRunsFrontCommand : Prop :=
  ∀ (c : Instr) (rest : List Instr) (s : State),
    s.pending = c :: rest → step s = exec c (s.setPending rest)

/-- With no command waiting, a millisecond passes unless a timer is due; then the expiry of the earliest
timer joins the queue. The model's choice (log entry 2). -/
def Obligations.IdleStepQueuesTheEarliestExpiry : Prop :=
  ∀ s : State, s.pending = [] →
    (s.pins.inReset = true → step s = .next s) ∧
    (s.pins.inReset = false →
      (∃ d c, (d, c) ∈ runningTimers s ∧ d ≤ s.now ∧ (∀ x ∈ runningTimers s, d ≤ x.1) ∧
        step s = .next (s.setPending [c])) ∨
      ((∀ x ∈ runningTimers s, s.now < x.1) ∧ step s = .next (s.setNow (s.now + 1))))

/-- While the part is held in reset, no command but the two of RESET and the two of the JAM input
changes anything (R21); the JAM input's level alone follows its pin. The level of the JAM input is the
model's own reading (log entry 7). -/
def Obligations.NothingHappensInReset : Prop :=
  ∀ (c : Instr) (s : State), s.pins.inReset = true →
    (∀ n r, c ≠ .resetRelease n r) → c ≠ .resetAssert →
    exec c s =
      .next
        (if c = .jamAssertion then s.setPins { s.pins with jamIn := true }
         else if c = .jamRelease then s.setPins { s.pins with jamIn := false }
         else s)

/-- RESET released: a full reset with the straps sampled; RESET asserted: the same values, held in
reset (R18, R21). The commands waiting and the level of the JAM input are outside the part. Where the
spec names no value, and for a release with no assertion before it, the values are the model's choice
(log entries 1, 15, 29). A transaction that was in progress is abandoned (R169). -/
def Obligations.ResetTakesFullResetValues : Prop :=
  (∀ (n : BitVec 6) (r : BitVec 2) (s : State), ∃ t, exec (.resetRelease n r) s = .next t ∧
    t.start = { number := n.toNat, role := [Role.cell, .handler, .stage, .pack].getD r.toNat .pack,
                station := .start, cause := .none, image := .absent, clamped := false,
                config := Settings.defaults, learning := none } ∧
    t.pins = { inReset := false, jamIn := s.pins.jamIn, indexEn := false, event := false } ∧
    t.now = 0 ∧ t.link.last = 0 ∧ t.link.queue = [] ∧ t.link.tx = .off ∧ t.link = Link.reset ∧
    t.peers = PeerDir.reset ∧ t.holds.records = [] ∧ t.holds.overflow = false ∧ t.holds.digest = 0 ∧
    t.holds = HoldTable.reset ∧ t.limits = Settings.defaults.limits ∧ t.stage.entries = [] ∧
    t.stage = Stage.reset ∧ t.cell.queue = [] ∧ t.cell.active = none ∧ t.cell.outbox = [] ∧
    t.cell = Cell.reset ∧ t.handler.rel = .free ∧ t.handler = Handler.reset 0 ∧
    t.pack = { entries := [], sequence := 1 } ∧ t.port.events = [] ∧
    t.port.previous = { answer := .start, echo := 0 } ∧
    t.port = { Port.reset 0 with abandoned := s.port.selected || s.port.abandoned } ∧
    t.pending = s.pending) ∧
  (∀ s : State, ∃ t, exec .resetAssert s = .next t ∧
    t.start = { number := s.start.number, role := s.start.role, station := .start, cause := .none,
                image := .absent, clamped := false, config := Settings.defaults, learning := none } ∧
    t.pins = { inReset := true, jamIn := s.pins.jamIn, indexEn := false, event := false } ∧
    t.link = Link.reset ∧ t.now = 0 ∧ t.peers = PeerDir.reset ∧ t.holds = HoldTable.reset ∧
    t.limits = Settings.defaults.limits ∧ t.stage = Stage.reset ∧ t.cell = Cell.reset ∧
    t.handler = Handler.reset 0 ∧ t.pack = Pack.reset ∧
    t.port = { Port.reset 0 with abandoned := s.port.selected || s.port.abandoned } ∧
    t.pending = s.pending)

/-- The state after reset keeps every promise of `Safe`. `State.reset` is the model's choice of the
moment before RESET is released (log entry 1). -/
def Obligations.ResetIsSafe : Prop := Safe State.reset

/-- Every step keeps INDEX-ENABLE high exactly under the conditions of R109, and EVENT high exactly
while the event queue holds a record (R178). The conditions: out of reset, a HANDLER, ACTIVE and BOUND; a
permit to run for a lot that no LOT hold in force names; no overflow; the kit and the temperature of the
permit, READY; the JAM latch clear; and a site up. -/
def Obligations.OutputPinsFollowTheState : Prop :=
  (∀ s t : State, PinsRight s → step s = .next t → PinsRight t) ∧
  (∀ s : State, PinsRight s → HoldsRight s →
    (s.pins.indexEn = true ↔
      s.pins.inReset = false ∧ s.start.role = .handler ∧ s.start.station = .active ∧
      s.handler.rel = .bound ∧ s.handler.permit.run = true ∧ s.handler.permit.lotId ≠ 0 ∧
      (∀ x ∈ s.holds.records, x.hold.scope = .lot → x.hold.key = s.handler.permit.lotId →
        x.hold.state ≠ .inForce) ∧
      s.holds.overflow = false ∧ s.handler.kit = s.handler.permit.kit ∧ s.handler.soak = .ready ∧
      s.handler.target = some s.handler.permit.temp ∧ s.handler.jamLatch = false ∧
      ∃ n, 1 ≤ n ∧ n ≤ 8 ∧ n ≤ s.start.config.siteCount ∧ (siteAt s.handler n).status = .up) ∧
    (s.pins.event = true ↔ s.port.events ≠ []))

/-- Every step keeps the hold list sorted, with one record for a key, at most 24 records, and its digest
right (R138, R149). -/
def Obligations.HoldListKeepsItsForm : Prop :=
  ∀ s t : State, HoldsRight s → step s = .next t → HoldsRight t

/-- Every step keeps the transmit and event queues, the tables, the tables of fixed size, and the claim,
exclusion, candidate and product entry lists within their sizes (R12, R35, R46, R50, R55, R72, R76, R112,
R157, R176). -/
def Obligations.CapacitiesAreKept : Prop :=
  ∀ s t : State, step s = .next t →
    (QueuesRight s → QueuesRight t) ∧ (TablesRight s → TablesRight t) ∧
    (SizesRight s → SizesRight t) ∧ (ListsRight s → ListsRight t)

/-- Every step keeps the transmitter OFF exactly in START and SILENT, EMPTY only with an empty queue, and
WAITING, SENDING and DISTURBING only with a head frame (spec/01 section 1.4, R13). -/
def Obligations.TransmitterFollowsTheStation : Prop :=
  ∀ s t : State, LinkRight s → step s = .next t → LinkRight t

/-- Every step keeps the balance of the active lot: the sum of its sixteen bin counts plus its retest pool
equals its tested base (R118). -/
def Obligations.BinCountsBalance : Prop :=
  ∀ s t : State, BalanceRight s → step s = .next t → BalanceRight t

/-- Every step keeps a handler out of BOUND on the idle permit, and one in FREE without a cell (R78,
R96), and leaves no HANDLER-STATUS owed (R110). -/
def Obligations.HandlerRelationIsKept : Prop :=
  ∀ s t : State, step s = .next t →
    (RelationRight s → RelationRight t) ∧ (NothingOwed s → NothingOwed t)

/-- Every step keeps a cell's queue length plus its pending claims at 4 or fewer, each lot in the queue
and in the sightings once, and the active lot out of the queue (R55, R64). -/
def Obligations.CellQueueNeverOverCommits : Prop :=
  ∀ s t : State, CellQueueRight s → step s = .next t → CellQueueRight t

/-- SILENT with cause BAD_NUMBER or IMAGE_BAD is left by a full reset alone; with cause DUP_ID also by a
soft restart, into LEARNING, which only RESTART, or a transaction whose bytes spell it, performs (R17,
R26, R172). -/
def Obligations.SilentIsLeftOnlyByReset : Prop :=
  ∀ (c : Instr) (s t : State), s.start.station = .silent → exec c s = .next t →
    (∀ n r, c ≠ .resetRelease n r) → c ≠ .resetAssert →
    (t.start.station = .silent ∧ t.start.cause = s.start.cause) ∨
      (s.start.cause = .dupId ∧ t.start.station = .learning ∧ t.now = 0 ∧
        t.port.previous = { answer := .start, echo := 0x0B } ∧
        (c = .restart ∨ ∃ x : Transaction, c = .unknownTransaction x ∧
          8 * x.bytes.length + x.extraEdges = 160 ∧ x.bytes.head? = some 0x0B#8 ∧
          crc8 (x.bytes.take 19) = x.bytes.getD 19 0))

/-! ## The end of an event -/

/-- What the end of an event may change: the two output pins; frames and at most one event added at the
tails, OVERFLOWED only by an event that finds the queue full; the resync record; at an ACTIVE CELL alone
its SEEN sightings' states and results, the active lot's last permit, its search for a handler and the
timers of that search; the handler's status timer, stopped in every other role. Everything else is as the
command left it. At an ACTIVE CELL whose binding is BOUND one PERMIT is posted, to the bound handler and
after the other frames of the event's end, when BOUND was entered in the event or the permit is not the one
that stood before it; it is kept in the active slot. In every other case none is (R68): not in LEARNING or
SILENT (R23, R25), and not for a change undone. Beside it the derived state of the active lot, the first row
of R67 that holds, and the fields of the permit are spelled out. The order of what ends an event is the
model's (log entry 10). -/
def Obligations.EventEndChangesOnly : Prop :=
  (∀ (s : State) (a : ActiveLot),
    let held : Prop := a.phase = .awaiting ∨ s.holds.overflow = true ∨
      ∃ x ∈ s.holds.records, x.hold.state = .inForce ∧
        (x.hold.scope = .lot ∧ x.hold.key = a.lot.lotId ∨
          x.hold.scope = .product ∧ x.hold.key = a.lot.product ∨
          x.hold.scope = .group ∧ x.hold.key = a.lot.group ∧ a.lot.group ≠ 0 ∨
          x.hold.scope = .program ∧ x.hold.key = a.lot.program)
    let reads (x : LotState) : Prop := lotState s a = x
    (a.phase = .finished → reads .finished) ∧
    (a.phase ≠ .finished → held → reads .held) ∧
    (a.phase ≠ .finished → ¬held →
      (s.cell.binding.state ≠ .bound → reads .paused) ∧
      (s.cell.binding.state = .bound →
        (s.cell.ready = true → reads .running) ∧
        (s.cell.ready = false → a.readySeen = false → reads .setup) ∧
        (s.cell.ready = false → a.readySeen = true → reads .paused)))) ∧
  (∀ s : State,
    let p := permitNow s
    (s.cell.active = none → p = { run := false, lotId := 0, index := 0, kit := 0, temp := 0 }) ∧
    ∀ a, s.cell.active = some a →
      p.lotId = a.lot.lotId ∧ p.index = a.lot.index ∧ p.kit = a.lot.kit ∧ p.temp = a.lot.temp ∧
      (p.run = true ↔
        lotState s a = .setup ∨ lotState s a = .running ∨ lotState s a = .paused)) ∧
  (∀ before s : State,
    let t := settle before s
    let due : Prop := s.isActive = true ∧ s.start.role = .cell ∧ s.cell.binding.state = .bound ∧
      (before.cell.binding.state ≠ .bound ∨ permitNow before ≠ permitNow s)
    let noPermit (fs : List QFrame) : Prop := ∀ f ∈ fs, ∀ p, f.payload ≠ .permit p
    (due →
      t.cell.active = s.cell.active.map (fun a => { a with lastPermit := some (permitNow s) }) ∧
      (s.link.tx ≠ .off → s.link.queue.length ≤ 6 →
        ∃ more, noPermit more ∧ t.link.queue = s.link.queue ++ more ++
          [{ addr := { type := .toStation, value := s.cell.binding.handler },
             payload := .permit (permitNow s) }])) ∧
    (¬due → t.cell.active = s.cell.active ∧
      ∃ more, noPermit more ∧ t.link.queue = s.link.queue ++ more)) ∧
  ∀ before s : State, ∃ t, settle before s = t ∧
    t.pins.inReset = s.pins.inReset ∧ t.pins.jamIn = s.pins.jamIn ∧ t.start = s.start ∧
    t.now = s.now ∧ t.peers = s.peers ∧ t.limits = s.limits ∧ t.stage = s.stage ∧ t.pack = s.pack ∧
    t.pending = s.pending ∧
    (∃ r, t.holds = { s.holds with resync := r }) ∧
    (∃ more l, t.link = { s.link with queue := s.link.queue ++ more, tx := l,
                                      latches := t.link.latches } ∧
      (l = s.link.tx ∨ s.link.tx = .empty ∧ l = .waiting) ∧
      (t.link.latches = s.link.latches ∨ t.link.latches = { s.link.latches with txFull := true })) ∧
    (∃ more o, more.length ≤ 1 ∧
      t.port = { s.port with events := s.port.events ++ more, overflowed := o } ∧
      (o = s.port.overflowed ∨ o = true ∧ more = [] ∧ 32 ≤ s.port.events.length)) ∧
    (∃ m o, t.handler = { s.handler with statusTimer := m, statusOwed := o } ∧
      (s.start.role = .handler ∨ m = none ∧ o = false)) ∧
    (s.isActive = true ∧ s.start.role = .cell ∨ t.cell = s.cell) ∧
    (∃ xs a r i e w, t.cell = { s.cell with
        sightings := xs, active := a, reservation := r, idleTimer := i, idleElapsed := e,
        wantedSpacing := w } ∧
      xs.length = s.cell.sightings.length ∧
      (∀ p ∈ s.cell.sightings.zip xs, ∃ st res, p.2 = { p.1 with state := st, result := res } ∧
        (CellQueueRight s → isSeen p.1 = false → p.2 = p.1)) ∧
      (a = s.cell.active ∨ ∃ p, a = s.cell.active.map fun x => { x with lastPermit := some p }))

/-- At the end of an event at an ACTIVE CELL the SEEN sightings that pass checks 1 to 7 of R58 are claimed
in the order of R60 until the queue and the pending claims number 4, which fails check 8 for the rest: for
each one claimed a CLAIM with the score of R59 goes to its STAGE, in that order, and it becomes
CLAIM_PENDING with that score; every other SEEN sighting has its result made again, and none is left
ELIGIBLE (R58 to R60). In an event that changed the hold list the resync request, if one is sent, stands
before the CLAIMs (R150). Beside it the eight checks of R58 in their order, the terms of the score of R59
and the order of R60 are spelled out. That claims are made at the end of an event is the model's reading
(log entry 10); that a handler in BINDING is not counted as bound is its choice (log entry 43). -/
def Obligations.EveryEligibleSightingIsClaimed : Prop :=
  (∀ (s : State) (l : LotRecord),
    let fits (f : HandlerFit) : Prop :=
      s.cell.binding.state = .bound ∧ f = s.cell.binding.fit ∨
        s.cell.binding.state ≠ .bound ∧ ∃ j d, s.cell.reservation = .reserved j f d
    let listed : Prop := s.start.config.programs = [] ∨ l.program ∈ s.start.config.programs
    let kitOk (f : HandlerFit) : Prop := l.kit = f.kit ∨ s.start.config.kitChangeAllowed = true
    let tempOk (f : HandlerFit) : Prop := f.tempMin ≤ l.temp ∧ l.temp ≤ f.tempMax
    let held : Prop := ∃ x ∈ s.holds.records, x.hold.state = .inForce ∧
      (x.hold.scope = .lot ∧ x.hold.key = l.lotId ∨ x.hold.scope = .product ∧ x.hold.key = l.product ∨
        x.hold.scope = .group ∧ x.hold.key = l.group ∧ l.group ≠ 0 ∨
        x.hold.scope = .program ∧ x.hold.key = l.program)
    let result (e : Eligibility) : Prop := eligibility s l = e
    (s.start.station ≠ .active → result .notActive) ∧
    (s.start.station = .active →
      (s.holds.overflow = true → result .overflow) ∧
      (s.holds.overflow = false → held → result .held) ∧
      (s.holds.overflow = false → ¬held →
        (¬listed → result .program) ∧
        (listed → (∀ f, ¬fits f) → result .noHandler) ∧
        ∀ f, listed → fits f →
          (¬kitOk f → result .kit) ∧
          (kitOk f → ¬tempOk f → result .temperature) ∧
          (kitOk f → tempOk f → 8 ≤ s.cell.outbox.length → result .outboxFull) ∧
          (kitOk f → tempOk f → s.cell.outbox.length < 8 →
            (4 ≤ s.cell.queue.length + claimsPending s.cell → result .queueFull) ∧
            (s.cell.queue.length + claimsPending s.cell < 4 → result .eligible))))) ∧
  (∀ (c : Cell) (l : LotRecord), ∃ k m,
    score c l = 128 + k + m - 24 * (c.queue.length + if c.active = none then 0 else 1) ∧
    (c.binding.state = .bound →
      k = (if l.kit = c.binding.fit.kit then 64 else 0) ∧
      ((∃ u, c.reached = some u ∧ u - 2 ≤ l.temp ∧ l.temp ≤ u + 2) → m = 32) ∧
      ((∀ u, c.reached = some u → l.temp < u - 2 ∨ u + 2 < l.temp) → m = 0)) ∧
    (c.binding.state ≠ .bound → m = 0 ∧
      (∀ j f d, c.reservation = .reserved j f d → k = if l.kit = f.kit then 32 else 0) ∧
      ((∀ j f d, c.reservation ≠ .reserved j f d) → k = 0))) ∧
  (∀ (s : State) (x y : Sighting),
    let a := score s.cell x.lot
    let b := score s.cell y.lot
    claimFirst s x y = true ↔
      y.lot.priority < x.lot.priority ∨ x.lot.priority = y.lot.priority ∧
        (b < a ∨ a = b ∧
          (s.age y.firstHeard < s.age x.firstHeard ∨ s.age x.firstHeard = s.age y.firstHeard ∧
            (x.lot.lotId < y.lot.lotId ∨ x.lot.lotId = y.lot.lotId ∧ x.lot.index < y.lot.index)))) ∧
  ∀ before s : State, s.isActive = true → s.start.role = .cell →
    (∀ x ∈ (settle before s).cell.sightings, isSeen x = true → x.result ≠ .eligible) ∧
    (CellQueueRight s →
      let same : Prop := s.holds.digest = before.holds.digest ∧
        s.holds.records.length = before.holds.records.length
      let passes (x : Sighting) : Prop := isSeen x = true ∧
        (eligibility s x.lot = .eligible ∨ eligibility s x.lot = .queueFull)
      let t := settle before s
      ∃ claimed : List Sighting,
        (∀ x ∈ claimed, x ∈ s.cell.sightings ∧ passes x) ∧
        claimed.Pairwise (fun x y => claimFirst s x y = true) ∧
        s.cell.queue.length + claimsPending s.cell + claimed.length ≤ 4 ∧
        (∀ y ∈ s.cell.sightings, passes y → y ∉ claimed →
          s.cell.queue.length + claimsPending s.cell + claimed.length = 4 ∧
          ∀ x ∈ claimed, claimFirst s x y = true) ∧
        t.cell.sightings = (s.cell.sightings.map fun x =>
          if x ∈ claimed then
            { x with state := .pending (score s.cell x.lot) s.clock, result := .eligible }
          else if isSeen x then { x with result := eligibility t x.lot } else x) ∧
        ∃ asked : List QFrame, asked.length ≤ 1 ∧ (same → asked = []) ∧
          (¬same → (resyncTest s).link.queue = s.link.queue ++ asked) ∧
          (∀ f ∈ asked, ∃ n i, f =
            { addr := { type := .toStation, value := n }, payload := .holdListReq i }) ∧
          (s.link.tx ≠ .off → s.link.queue.length + asked.length + claimed.length ≤ 16 →
            ∃ more, t.link.queue = s.link.queue ++ asked ++ (claimed.map fun x =>
              { addr := { type := .toStation, value := x.stage },
                payload := .claim x.lot.lotId x.lot.index (score s.cell x.lot) false }) ++ more))

/-- At the end of an event an ACTIVE, BOUND HANDLER posts at most one HANDLER-STATUS, exactly when one
is due, and restarts the status timer with it; in any other state the timer is stopped (R110). One is due
when BOUND was entered, when a rebind or the status timer owes one, and when the ready flag, the soak
state, a site's mask bit or down reason, the JAM latch or the jam count changed; its fields are those of
R110. In an event that changed the hold list the resync request, if one is sent, stands before it (R150).
That it is posted at the end of the event, and after that request, is the model's reading (log entry 10). -/
def Obligations.HandlerStatusIsSentOnceAnEvent : Prop :=
  (∀ before s : State,
    let site (u : State) (n : Nat) : Option SiteStatus :=
      if n ≤ u.start.config.siteCount then some (siteAt u.handler n).status else none
    statusDue before s = true ↔
      before.handler.rel ≠ .bound ∨ s.handler.statusOwed = true ∨
      before.pins.indexEn ≠ indexConditions s ∨ before.handler.soak ≠ s.handler.soak ∨
      (∃ n, 1 ≤ n ∧ n ≤ 8 ∧ site before n ≠ site s n) ∨
      before.handler.jamLatch ≠ s.handler.jamLatch ∨ before.handler.jamCount ≠ s.handler.jamCount) ∧
  (∀ s : State,
    let b := statusNow s
    b.ready = indexConditions s ∧ b.soak = s.handler.soak ∧ b.jam = s.handler.jamLatch ∧
    b.jamCount = s.handler.jamCount ∧
    (b.reachedValid = true ↔ s.handler.soak = .soaking ∨ s.handler.soak = .ready) ∧
    (∀ u, b.reachedValid = true → s.handler.target = some u → b.reached = u) ∧
    (b.reachedValid = false → b.reached = 0) ∧ b.sites.length = 8 ∧
    ∀ n, 1 ≤ n → n ≤ 8 →
      (maskHas b.mask n = true ↔ n ≤ s.start.config.siteCount ∧ (siteAt s.handler n).status = .up) ∧
      (n ≤ s.start.config.siteCount → b.sites[n - 1]? = some (siteAt s.handler n).status) ∧
      (s.start.config.siteCount < n → b.sites[n - 1]? = some .up)) ∧
  (∀ before s : State, s.start.role = .handler →
    ∃ asked : List QFrame, asked.length ≤ 1 ∧
    (s.holds.digest = before.holds.digest ∧
      s.holds.records.length = before.holds.records.length → asked = []) ∧
    (s.holds.digest ≠ before.holds.digest ∨
      s.holds.records.length ≠ before.holds.records.length →
      (resyncTest s).link.queue = s.link.queue ++ asked) ∧
    (∀ f ∈ asked, ∃ n i, f =
      { addr := { type := .toStation, value := n }, payload := .holdListReq i }) ∧
    (s.isActive = true → s.handler.rel = .bound → statusDue before s = true →
      (settle before s).handler.statusTimer = some (s.now + s.start.config.beaconInterval * 1000) ∧
      (s.link.queue.length + asked.length < 16 → s.link.tx ≠ .off →
        (settle before s).link.queue = s.link.queue ++ asked ++
          [{ addr := { type := .toStation, value := s.handler.cell },
             payload := .handlerStatus (statusNow s) }])) ∧
    (s.isActive = true → s.handler.rel = .bound → statusDue before s = false →
      (settle before s).link.queue = s.link.queue ++ asked ∧
      (settle before s).handler.statusTimer = s.handler.statusTimer) ∧
    (s.isActive = false ∨ s.handler.rel ≠ .bound →
      (settle before s).link.queue = s.link.queue ++ asked ∧
      (settle before s).handler.statusTimer = none)) ∧
  ∀ before s : State, s.start.role = .handler → s.holds.digest = before.holds.digest →
    s.holds.records.length = before.holds.records.length →
    (s.isActive = true → s.handler.rel = .bound → statusDue before s = true →
      s.link.queue.length < 16 → s.link.tx ≠ .off →
      (settle before s).link.queue = s.link.queue ++
        [{ addr := { type := .toStation, value := s.handler.cell },
           payload := .handlerStatus (statusNow s) }] ∧
      (settle before s).handler.statusTimer = some (s.now + s.start.config.beaconInterval * 1000)) ∧
    (s.isActive = true → s.handler.rel = .bound → statusDue before s = false →
      (settle before s).link = s.link ∧
      (settle before s).handler.statusTimer = s.handler.statusTimer) ∧
    (s.isActive = false ∨ s.handler.rel ≠ .bound →
      (settle before s).link = s.link ∧ (settle before s).handler.statusTimer = none)

/-! ## The floor link -/

/-- The positions of R8: 1 to 40, distinct for distinct stations, 40 for the last sender, and the station
number itself with no last sender. -/
def Obligations.AccessPositionsAreDistinct : Prop :=
  (∀ s l, 1 ≤ s → s ≤ 40 → l ≤ 40 →
    1 ≤ position s l ∧ position s l ≤ 40 ∧ ((position s l : Int) = ((s : Int) - l - 1) % 40 + 1)) ∧
  (∀ s r l, 1 ≤ s → s ≤ 40 → 1 ≤ r → r ≤ 40 → l ≤ 40 → position s l = position r l → s = r) ∧
  (∀ s, 1 ≤ s → s ≤ 40 → position s s = 40 ∧ position s 0 = s)

/-- A frame built for any header and payload of the layouts of spec/11 section 11.2, received as the
bits it is sent in, has the effect of the frame's own row (R1, R2, R3, R14). The command of a frame is
the model's typed form of it (log entries 5 and 14). -/
def Obligations.FramesReadBack : Prop :=
  ∀ (h : Header) (p : Payload) (s : State), h.wf = true → p.wf = true → (∀ k bs, p ≠ .raw k bs) →
    exec (.transmissionEnd { levels := lineLevels (frameBytes h p) }) s =
      .next (event (receiveFrame h p) s)

/-- A transaction built for any command of spec/11 section 11.4, taken as its twenty bytes, has the
effect of the command's own row (R169, R172). A raw transaction that spells a command runs as that
command: the model's choice (log entry 14). -/
def Obligations.TransactionsReadBack : Prop :=
  ∀ (c : PortCommand) (s : State), c.wf = true →
    exec (.unknownTransaction { bytes := commandBytes c, extraEdges := 0 }) s =
      .next (event (transact c) s)

/-- Joining the segment, a carrier during the count, the start of an attempt, a frame's clean end, with
no watch slot armed and with any; a collision, the end of its disturbance before and at the eighth
collision, and the end of the round skipped (R2, R6 to R11, R13, R180). The moments below a millisecond,
the operand that says whether a carrier came in the guard or the round, and a carrier in the guard are
the model's choice (log entries 4 and 20). That the collision and the end of the disturbance leave the
latches, FRAMING among them, as they are is the model's reading (log entry 26). -/
def Obligations.LineAccessAndSending : Prop :=
  ∀ s : State, s.pins.inReset = false →
    (s.link.line = .joining →
      exec .lineJoin s =
        .next (settle s (s.setLink { s.link with last := 0, line := .counting 0 }))) ∧
    (∀ l p, s.link.line = .counting l →
      exec (.carrierDetect p) s =
        .next (settle s (s.setLink { s.link with
          line := .busy,
          tx := if s.link.tx = .backoff ∧ p = .round then
              (if s.link.queue.isEmpty then .empty else .waiting) else s.link.tx }))) ∧
    (∀ l f q, s.link.tx = .waiting → s.link.line = .counting l → s.link.queue = f :: q →
      exec .transmitStart s =
        .next (settle s (s.setLink { s.link with
          tx := .sending, line := .busy,
          onWire := lineLevels (frameBytes
            { addr := f.addr, source := s.start.number, fresh := s.start.station == .learning }
            f.payload) }))) ∧
    (∀ f q, s.link.tx = .sending → s.link.queue = f :: q →
      s.port.watches = [none, none, none, none] →
      exec .frameSent s =
        .next (settle s (s.setLink { s.link with
          last := s.start.number, queue := q, tx := if q.isEmpty then .empty else .waiting,
          attempts := 0, line := .counting s.start.number, onWire := [] }))) ∧
    (∀ f q, s.link.tx = .sending → s.link.queue = f :: q →
      exec .frameSent s =
        .next (settle s (offerWatches f.payload (s.setLink { s.link with
          last := s.start.number, queue := q, tx := if q.isEmpty then .empty else .waiting,
          attempts := 0, line := .counting s.start.number, onWire := [] })))) ∧
    (s.link.tx = .sending →
      exec .collision s =
        .next (settle s (s.setLink { s.link with tx := .disturbing, onWire := [] }))) ∧
    (s.link.tx = .disturbing → s.link.attempts < 7 →
      exec .disturbanceEnd s =
        .next (settle s (s.setLink { s.link with
          tx := .backoff, line := .counting s.link.last, attempts := s.link.attempts + 1 }))) ∧
    (s.link.tx = .disturbing → 7 ≤ s.link.attempts →
      exec .disturbanceEnd s =
        .next (settle s (s.setLink { s.link with
          tx := .backoff, line := .counting s.link.last, attempts := 0,
          queue := s.link.queue.drop 1,
          latches := { s.link.latches with txAbandon := true } }))) ∧
    (∀ l, s.link.tx = .backoff → s.link.line = .counting l →
      exec .backoffRoundOver s =
        .next (settle s (s.setLink { s.link with
          tx := if s.link.queue.isEmpty then .empty else .waiting })))

/-- The receiver collects bytes sent back to back as they were sent, and nothing after a dominant stop
bit, which is a byte framing fault, nor after ten recessive bit times (R1). The three checks of R14 in
their order: the first that fails sets its latch alone, L is unchanged and the count starts again; a
transmission that passes FRAMING and CHECK is taken as the frame it spells. Beside them the three checks
are spelled out, with the CRC of R3, the bytes of the header and the address types of R5. A station that
is still joining the segment takes none (R13, log entry 6). -/
def Obligations.TransmissionsAreChecked : Prop :=
  (∀ bs : List Byte, received { levels := lineLevels bs } = { bytes := bs, stopFault := false }) ∧
  (∀ (bs : List Byte) (b : Byte) (rest : List Level),
    received { levels := lineLevels bs ++ (byteLevels b).take 9 ++ .dominant :: rest } =
      { bytes := bs, stopFault := true }) ∧
  (∀ (bs : List Byte) (rest : List Level),
    received { levels := lineLevels bs ++ List.replicate 10 .recessive ++ rest } =
      { bytes := bs, stopFault := false }) ∧
  (∀ (line : Transmission) (s : State), s.link.line = .joining →
    exec (.transmissionEnd line) s = .next (if s.pins.inReset = true then s else settle s s)) ∧
  (∀ bs : List Byte,
    let bits := bs.flatMap fun b => [7, 6, 5, 4, 3, 2, 1, 0].map b.getLsbD
    let shift (r : BitVec 16) (b : Bool) : BitVec 16 :=
      if r.msb != b then (r <<< 1) ^^^ 0x8005#16 else r <<< 1
    crc16 bs = bits.foldl shift 0#16) ∧
  (∀ rx : Reception,
    let at_ (i : Nat) : Nat := (rx.bytes.getD i 0#8).toNat
    let h := readHeader rx.bytes
    (framingOk rx = true ↔ rx.stopFault = false ∧ 6 ≤ rx.bytes.length ∧ at_ 0 = 0xA5 ∧
      at_ 5 ≤ 48 ∧ rx.bytes.length = 6 + at_ 5 + 2) ∧
    (framingOk rx = true →
      (checkOk rx.bytes = true ↔ (crc16 ((rx.bytes.drop 1).take (5 + at_ 5))).toNat =
        256 * at_ (6 + at_ 5) + at_ (7 + at_ 5))) ∧
    (6 ≤ rx.bytes.length →
      kindCode (readFramePayload rx.bytes) = at_ 1 ∧
      h.addr.type = (if at_ 2 < 64 then .toStation else if at_ 2 < 128 then .toAll
        else if at_ 2 < 192 then .toZone else .type3) ∧
      h.addr.value = at_ 2 % 64 ∧ h.source = at_ 3 ∧ (h.fresh = true ↔ 128 ≤ at_ 4))) ∧
  (∀ (h : Header) (p : Payload),
    let named : Prop := match h.addr.type with
      | .toStation => 1 ≤ h.addr.value ∧ h.addr.value ≤ 40
      | .toAll => True
      | .toZone => h.addr.value ≤ 15
      | .type3 => False
    let allowed : Prop := match kindCode p with
      | 0x02 => h.addr.type = .toZone ∨ h.addr.type = .toAll
      | 0x10 => h.addr.type = .toZone
      | 0x01 | 0x04 | 0x08 | 0x0A | 0x0B | 0x0C => h.addr.type = .toAll
      | 0x03 | 0x05 | 0x06 | 0x07 | 0x09 | 0x0D | 0x0E | 0x0F | 0x11 | 0x12 | 0x13 | 0x14 | 0x15
      | 0x16 | 0x17 | 0x18 | 0x19 | 0x1A => h.addr.type = .toStation
      | _ => True
    (addressOk h p = true ↔ named ∧ (1 ≤ h.source ∧ h.source ≤ 40) ∧ allowed)) ∧
  ∀ (line : Transmission) (s : State), s.pins.inReset = false → receiving s = true →
    let rx := received line
    let count := s.setLink (s.link.afterTransmission s.link.last)
    let frame := receiveFrame (readHeader rx.bytes) (readFramePayload rx.bytes) s
    let latch (l : LinkLatches) := exec (.transmissionEnd line) s =
      .next (settle s (count.setLink { count.link with latches := l }))
    (framingOk rx = false → latch { s.link.latches with framing := true }) ∧
    (framingOk rx = true → checkOk rx.bytes = false → latch { s.link.latches with check := true }) ∧
    (framingOk rx = true → checkOk rx.bytes = true →
      addressOk (readHeader rx.bytes) (readFramePayload rx.bytes) = false →
      latch { s.link.latches with address := true }) ∧
    (framingOk rx = true → checkOk rx.bytes = true →
      exec (.transmissionEnd line) s = .next (settle s frame))

/-- A qualified frame moves L to its source, is heard by the peer directory and offered to the watch
slots, whether or not it is for this station; then the KIND check, the role, and the CONTENT check
(R6, R7, R15). Beside it are spelled out when a frame is for this station (R4), the 26 kinds and the roles
that take them (R5), and the ranges of every payload (R34, R137, R143, R151, R182). The ranges given by
reference are the model's reading (log entry 18); where the S comes from that the down reasons of a
HANDLER-STATUS are held to, which carries none, is its choice (log entry 35). -/
def Obligations.QualifiedFramesAreHandedOn : Prop :=
  (∀ (h : Header) (s : State),
    forThisStation s h = true ↔
      (h.addr.type = .toAll ∨
        h.addr.type = .toStation ∧ h.addr.value = s.start.number ∧
          1 ≤ s.start.number ∧ s.start.number ≤ 40 ∨
        h.addr.type = .toZone ∧ s.start.config.zoneMask.getLsbD h.addr.value = true)) ∧
  (∀ (k : Nat) (r : Role),
    let taken : Prop := match k with
      | 0x01 | 0x0B | 0x0C | 0x0D | 0x0E | 0x0F => True
      | 0x02 | 0x04 | 0x06 | 0x09 | 0x11 | 0x13 | 0x15 | 0x19 => r = .cell
      | 0x03 | 0x05 | 0x07 => r = .stage
      | 0x08 => r = .stage ∨ r = .pack
      | 0x10 | 0x12 | 0x14 | 0x16 | 0x18 | 0x1A => r = .handler
      | 0x17 => r = .cell ∨ r = .handler
      | _ => False
    (kindKnown k = true ↔ 1 ≤ k ∧ k ≤ 26) ∧ (takenBy k r = true ↔ taken)) ∧
  (∀ (s : State) (source : Nat) (p : Payload),
    let in_ (lo hi n : Nat) : Prop := lo ≤ n ∧ n ≤ hi
    let id (n : Nat) : Prop := in_ 1 4294967295 n
    let word (n : Nat) : Prop := in_ 1 65535 n
    let station (n : Nat) : Prop := in_ 1 40 n
    let index (n : Nat) : Prop := in_ 1 4 n
    let sublot (i n : Nat) : Prop := index i ∧ index n ∧ i ≤ n
    let temp (u : Int) : Prop := -60 ≤ u ∧ u ≤ 200
    let count (n : Nat) : Prop := n = 1 ∨ n = 2 ∨ n = 4 ∨ n = 8
    let key (sc : Scope) (k : Nat) : Prop := match sc with
      | .lot => id k | .product => word k | .group => in_ 1 31 k | .program => word k
    let record (r : HoldRec) : Prop := key r.scope r.key ∧ word r.generation ∧ station r.origin ∧
      r.detail ≤ 16 ∧ (r.scope = .lot → r.trigger = 0)
    let fit (f : HandlerFit) : Prop := temp f.tempMin ∧ temp f.tempMax ∧ count f.sites
    let copied : Prop := s.cell.binding.state ≠ .none ∧ s.cell.binding.handler = source ∧
      s.cell.binding.fit.sites ≠ 0
    let siteCount (n : Nat) : Prop := copied ∧ n = s.cell.binding.fit.sites ∨
      ¬ copied ∧ ∃ b st c k lo hi m, (peerAt s.peers source).beacon = some b ∧
        b.block = .handler st c k lo hi n m
    let code : Nat := match p with
      | .beacon _ => 0x01 | .offer _ => 0x02 | .claim _ _ _ _ => 0x03 | .grant _ _ _ _ => 0x04
      | .accept _ _ _ _ => 0x05 | .revoke _ _ _ => 0x06 | .return_ _ _ _ => 0x07
      | .lotDone _ => 0x08 | .doneTaken _ _ => 0x09 | .release _ => 0x0A | .hold _ => 0x0B
      | .clear _ _ _ _ _ => 0x0C | .holdListReq _ => 0x0D | .holdList _ _ _ _ => 0x0E
      | .holdListNone _ _ => 0x0F | .handlerWanted _ _ => 0x10 | .handlerAvailable _ _ => 0x11
      | .reserve => 0x12 | .reserveReply _ _ => 0x13 | .bindReq _ => 0x14 | .bindReply _ _ _ => 0x15
      | .bindConfirm _ _ => 0x16 | .unbind _ => 0x17 | .permit _ => 0x18 | .handlerStatus _ => 0x19
      | .siteDown _ _ => 0x1A | .raw k _ => k
    let right : Prop := match p with
      | .beacon b => (b.state = .learning ∨ b.state = .active) ∧ b.holdCount ≤ 24 ∧
          (match b.block with
            | .cell n r l => n ≤ 40 ∧ r ≤ 40 ∧ l ≤ 5
            | .handler _ c _ lo hi n _ => c ≤ 40 ∧ temp lo ∧ temp hi ∧ count n
            | .stage w z => w ≤ 64 ∧ z ≤ 15
            | .pack n => n ≤ 32)
      | .offer l => id l.lotId ∧ sublot l.index l.count ∧ word l.product ∧ word l.program ∧
          in_ 1 255 l.kit ∧ temp l.temp ∧ word l.quantity ∧ l.group ≤ 31 ∧ l.priority ≤ 7 ∧
          station l.packStation
      | .claim l i _ _ | .accept l i _ _ | .revoke l i _ | .return_ l i _ | .doneTaken l i =>
          id l ∧ index i
      | .grant l i c _ => id l ∧ index i ∧ station c
      | .lotDone c => id c.lotId ∧ sublot c.index c.count ∧ word c.product ∧ word c.program ∧
          word c.quantity ∧ station c.packStation ∧ station c.cell ∧ in_ 1 255 c.passes
      | .release r => id r.lotId ∧ word r.product ∧ index r.count ∧ r.yield ≤ 4096 ∧ word r.sequence
      | .hold r => record r
      | .clear sc k g d n => key sc k ∧ word g ∧
          (d = .resume ∨ sc = .lot ∧ (d = .scrap ∨ d = .retest)) ∧ station n
      | .holdListReq i => i ≤ 23
      | .holdList t i n rs => in_ 1 3 n ∧ n = rs.length ∧ i < 24 ∧ i + n ≤ t ∧ ∀ r ∈ rs, record r
      | .holdListNone t i => t ≤ 24 ∧ i ≤ 23
      | .handlerWanted k u => in_ 1 255 k ∧ temp u
      | .handlerAvailable f _ | .bindReply _ f _ => fit f
      | .reserve | .reserveReply _ _ | .bindReq _ | .unbind _ => True
      | .bindConfirm _ n => count n
      | .permit q => q.lotId = 0 ∧ q.index = 0 ∧ q.kit = 0 ∧ q.temp = 0 ∨
          q.lotId ≠ 0 ∧ id q.lotId ∧ index q.index ∧ temp q.temp
      | .handlerStatus b => (b.reachedValid = true → temp b.reached) ∧
          (b.reachedValid = false → b.reached = 0) ∧
          ∀ n, 1 ≤ n → n ≤ 8 → b.mask.getLsbD (n - 1) = true ∨ (∃ top, siteCount top ∧ top < n) →
            b.sites.getD (n - 1) .up = .up
      | .siteDown n r => in_ 1 8 n ∧ (r = .failRun ∨ r = .countLimit)
      | .raw _ _ => False
    kindCode p = code ∧ (contentOk s source p = true ↔ right)) ∧
  ∀ (h : Header) (p : Payload) (s : State), receiving s = true → addressOk h p = true →
    h.source ≠ s.start.number →
    let u := offerWatches p
      (hear h.source h.fresh (s.setLink (s.link.afterTransmission h.source)))
    (forThisStation u h = false → receiveFrame h p s = u) ∧
    (forThisStation u h = true → kindKnown (kindCode p) = false →
      receiveFrame h p s =
        u.setLink { u.link with latches := { u.link.latches with kind := true } }) ∧
    (forThisStation u h = true → kindKnown (kindCode p) = true →
      takenBy (kindCode p) u.start.role = false → receiveFrame h p s = u) ∧
    (forThisStation u h = true → takenBy (kindCode p) u.start.role = true → contentOk u h.source p = false →
      receiveFrame h p s =
        u.setLink { u.link with latches := { u.link.latches with content := true } }) ∧
    (forThisStation u h = true → takenBy (kindCode p) u.start.role = true → contentOk u h.source p = true →
      receiveFrame h p s = deliver h.source p u)

/-- A frame with this station's own number sets DUP_ID and silences a station in LEARNING or ACTIVE:
SILENT with cause DUP_ID, an empty queue, and the DUP_ID event; at a SILENT station it sets the latch
alone. The peer directory and the watch slots do not see it (R17). Going SILENT freezes the role block:
its timers stop, so that only the peers' loss timers run, and its records stand (R25, R73, R75, R86, R96,
R156). -/
def Obligations.DuplicateNumberSilences : Prop :=
  ∀ (h : Header) (p : Payload) (s : State), receiving s = true → addressOk h p = true →
    h.source = s.start.number → ∃ t, receiveFrame h p s = t ∧
    t.link.latches = { s.link.latches with dupId := true } ∧ t.link.last = h.source ∧
    t.peers.table = s.peers.table ∧ t.port.watches = s.port.watches ∧
    (s.isLive = true →
      t.start = { s.start with station := .silent, cause := .dupId, learning := none } ∧
      t.link.queue = [] ∧ t.link.tx = .off ∧ t.peers.beaconTimer = none ∧
      (s.port.events.length < 32 →
        t.port.events = s.port.events ++ [{ event := .dupId, time := s.clock }])) ∧
    (s.isLive = false → t.start = s.start ∧ t.port = s.port) ∧
    (∀ x ∈ runningTimers t, s.isLive = true → ∃ n, x.2 = .lossTimerExpiry n) ∧
    t.pack = s.pack ∧ t.limits = s.limits ∧ t.holds.records = s.holds.records ∧
    t.holds.overflow = s.holds.overflow ∧ t.holds.digest = s.holds.digest ∧
    (s.isLive = false → t.stage = s.stage ∧ t.cell = s.cell ∧ t.handler = s.handler) ∧
    (s.isLive = true →
      t.holds.resync.waiting = none ∧
      t.stage = { entries := s.stage.entries.map fun e => { e with window := none, accept := none },
                  offerTimer := none } ∧
      (∃ r, t.cell = { s.cell with
          binding := { s.cell.binding with timer := none }, reservation := r, permitTimer := none,
          deliveryTimer := none, idleTimer := none, idleElapsed := false, wantedSpacing := none } ∧
        (∀ k p cs m, s.cell.reservation = .collecting k p cs m → r = .collecting k p cs none) ∧
        (∀ k p n cs m, s.cell.reservation = .reserving k p n cs m → r = .reserving k p n cs none) ∧
        (∀ n f m, s.cell.reservation = .reserved n f m → r = .reserved n f none) ∧
        (s.cell.reservation = .none → r = .none)) ∧
      t.handler = { s.handler with
        deadline := none, bindTimer := none, orphanTimer := none, soakTimer := none,
        graceTimer := none, statusTimer := none, permit := Permit.idle })

/-- The beacon timer's expiry posts a BEACON filled from the present state and starts the timer again at
one beacon interval; the BEACON takes the place of the first one that waits unattempted, behind a head
frame being attempted too, and goes to the tail when the only BEACON is that head (R13, R27, R28). Beside
it the fields of the BEACON are spelled out, with the role block of each role (R28). The clock at the
expiry is the model's choice (log entry 3). -/
def Obligations.BeaconsArePostedAndReplaced : Prop :=
  (∀ s : State,
    let b := beaconNow s
    let held (l : LotRecord) : Prop := s.holds.overflow = true ∨
      ∃ x ∈ s.holds.records, x.hold.state = .inForce ∧
        (x.hold.scope = .lot ∧ x.hold.key = l.lotId ∨
          x.hold.scope = .product ∧ x.hold.key = l.product ∨
          x.hold.scope = .group ∧ x.hold.key = l.group ∧ l.group ≠ 0 ∨
          x.hold.scope = .program ∧ x.hold.key = l.program)
    b.state = s.start.station ∧ b.zones = s.start.config.zoneMask ∧
    b.holdCount = s.holds.records.length ∧ b.digest = s.holds.digest ∧
    (s.start.role = .cell → ∃ bound reserved, b.block = .cell bound reserved
        (s.cell.queue.length + if s.cell.active = none then 0 else 1) ∧
      (s.cell.binding.state = .bound ∨ s.cell.binding.state = .orphaned →
        bound = s.cell.binding.handler) ∧
      (s.cell.binding.state = .none ∨ s.cell.binding.state = .binding → bound = 0) ∧
      (∀ n f d, s.cell.reservation = .reserved n f d → reserved = n) ∧
      ((∀ n f d, s.cell.reservation ≠ .reserved n f d) → reserved = 0)) ∧
    (s.start.role = .handler → ∃ mask : SiteMask, b.block =
        .handler s.handler.rel s.handler.cell s.handler.kit s.start.config.tempMin
          s.start.config.tempMax s.start.config.siteCount mask ∧
      ∀ n, 1 ≤ n → n ≤ 8 → (mask.getLsbD (n - 1) = true ↔
        n ≤ s.start.config.siteCount ∧ (siteAt s.handler n).status = .up)) ∧
    (∀ e : StageEntry, entryHeld s e = true ↔ held e.lot) ∧
    (s.start.role = .stage → b.block = .stage
      (s.stage.entries.filter fun e => e.state == .waiting && !entryHeld s e).length
      s.start.config.offerZone) ∧
    (s.start.role = .pack → b.block = .pack (32 - s.pack.entries.length +
      (s.pack.entries.filter fun e => e.state == .released || e.state == .scrapped).length))) ∧
  (∀ (d : Nat) (s : State), s.pins.inReset = false → s.peers.beaconTimer = some d →
    ∃ q, q = postBeacon (beaconNow (s.advanceTo d)) (s.advanceTo d) ∧
    exec .beaconTimerExpiry s =
      .next (settle s (q.setPeers { q.peers with
        beaconTimer := some (max s.now d + s.start.config.beaconInterval * 1000) }))) ∧
  (∀ (b : BeaconBody) (s : State) (pre post : List QFrame) (old : QFrame),
    s.link.queue = pre ++ old :: post → isBeacon old.payload = true →
    (∀ f ∈ pre, isBeacon f.payload = false) →
    (pre = [] → s.link.attempts = 0 ∧ s.link.tx ≠ .sending ∧ s.link.tx ≠ .disturbing) →
    postBeacon b s = s.setLink { s.link with
      queue := pre ++ { addr := { type := .toAll, value := 0 }, payload := .beacon b } :: post }) ∧
  (∀ (b : BeaconBody) (s : State), (∀ f ∈ s.link.queue, isBeacon f.payload = false) →
    postBeacon b s = post { type := .toAll, value := 0 } (.beacon b) s) ∧
  (∀ (b : BeaconBody) (s : State) (head : QFrame) (rest : List QFrame),
    s.link.queue = head :: rest →
    (s.link.attempts ≠ 0 ∨ s.link.tx = .sending ∨ s.link.tx = .disturbing) →
    ((∀ f ∈ rest, isBeacon f.payload = false) →
      postBeacon b s = post { type := .toAll, value := 0 } (.beacon b) s) ∧
    (∀ pre old post, rest = pre ++ old :: post → isBeacon old.payload = true →
      (∀ f ∈ pre, isBeacon f.payload = false) →
      postBeacon b s = s.setLink { s.link with
        queue := head :: pre ++
          { addr := { type := .toAll, value := 0 }, payload := .beacon b } :: post }))

/-- Every qualified frame, and every frame of the station's own at its clean end, is offered to the watch
slots: each armed slot whose scope and key the frame names raises WATCH_HIT with the slot, the kind, the
scope and the key, in slot order, and is disarmed, also when the event finds the queue full (R5, R6, R180).
OFFER, LOT-DONE, RELEASE, HOLD and HOLD-LIST name the fields of the table of R180 and no other frame names
any; a RELEASE is taken by no block. In a HOLD-LIST every record its length holds is examined, the model's
choice where the record count byte disagrees (log entry 47). -/
def Obligations.FramesHitTheWatches : Prop :=
  (∀ (h : Header) (r : ReleaseRec) (s : State), s.pins.inReset = false → receiving s = true →
    addressOk h (.release r) = true → h.source ≠ s.start.number →
    (peerAt s.peers h.source).presence = .present →
    (h.fresh = true → (peerAt s.peers h.source).fresh = true) →
    (s.port.watches = [none, none, none, none] →
      exec (.release h r) s = .next (settle s (heard h s))) ∧
    (∀ n w, n < 4 → s.port.watches = [none, none, none, none].set n (some w) →
      (w = (.lot, r.lotId) ∨ w = (.product, r.product)) → s.port.events.length < 32 →
      exec (.release h r) s =
        .next (settle s ((heard h s).setPort { s.port with
          watches := [none, none, none, none],
          events := s.port.events ++
            [{ event := .watchHit n 0x0A w.1 w.2, time := s.clock }] })))) ∧
  (∀ (p : Payload) (w : Scope × Nat), (∀ k bs, p ≠ .raw k bs) →
    (w ∈ watchKeys p ↔
      (∃ l, p = .offer l ∧ (w = (.lot, l.lotId) ∨ w = (.product, l.product) ∨
        w = (.group, l.group) ∨ w = (.program, l.program))) ∨
      (∃ c, p = .lotDone c ∧ (w = (.lot, c.lotId) ∨ w = (.product, c.product) ∨
        w = (.program, c.program))) ∨
      (∃ r, p = .release r ∧ (w = (.lot, r.lotId) ∨ w = (.product, r.product))) ∨
      (∃ r, p = .hold r ∧ w = (r.scope, r.key)) ∨
      ∃ t i n rs r, p = .holdList t i n rs ∧ r ∈ rs ∧ w = (r.scope, r.key))) ∧
  (∀ (p : Payload) (s : State), SizesRight s →
    let named (w : Scope × Nat) : Bool := (watchKeys p).contains w
    let left := s.port.watches.map (Option.filter fun w => !named w)
    let hits := [0, 1, 2, 3].filterMap fun n =>
      ((s.port.watches.getD n none).filter named).map fun w =>
        { event := Event.watchHit n (kindCode p) w.1 w.2, time := s.clock : EventRec }
    let room := 32 - s.port.events.length
    offerWatches p s = s.setPort { s.port with
      watches := left, events := s.port.events ++ hits.take room,
      overflowed := s.port.overflowed || decide (room < hits.length) }) ∧
  (∀ (h : Header) (i : Instr) (p : Payload) (s : State),
    (∃ l, i = .offer h l ∧ p = .offer l) ∨ (∃ c, i = .lotDone h c ∧ p = .lotDone c) ∨
      (∃ r, i = .release h r ∧ p = .release r) ∨ (∃ r, i = .hold h r ∧ p = .hold r) ∨
      (∃ t k n rs, i = .holdList h t k n rs ∧ p = .holdList t k n rs) →
    s.pins.inReset = false → receiving s = true → addressOk h p = true →
    h.source ≠ s.start.number → (peerAt s.peers h.source).presence = .present →
    (h.fresh = true → (peerAt s.peers h.source).fresh = true) →
    let u := offerWatches p (heard h s)
    (forThisStation s h = false ∨ takenBy (kindCode p) s.start.role = false →
      exec i s = .next (settle s u)) ∧
    (forThisStation s h = true → takenBy (kindCode p) s.start.role = true → contentOk u h.source p = false →
      exec i s = .next (settle s
        (u.setLink { u.link with latches := { u.link.latches with content := true } }))) ∧
    (forThisStation s h = true → takenBy (kindCode p) s.start.role = true → contentOk u h.source p = true →
      exec i s = .next (settle s (deliver h.source p u)))) ∧
  (∀ (f : QFrame) (q : List QFrame) (n : Nat) (w : Scope × Nat) (s : State),
    s.pins.inReset = false → s.link.tx = .sending → s.link.queue = f :: q → n < 4 →
    s.port.watches = [none, none, none, none].set n (some w) → w ∈ watchKeys f.payload →
    s.port.events.length < 32 →
    exec .frameSent s = .next (settle s ((s.setLink { s.link with
        last := s.start.number, queue := q, tx := if q.isEmpty then .empty else .waiting,
        attempts := 0, line := .counting s.start.number, onWire := [] }).setPort { s.port with
      watches := [none, none, none, none],
      events := s.port.events ++
        [{ event := .watchHit n (kindCode f.payload) w.1 w.2, time := s.clock }] })))

/-! ## Station start and the peer directory -/

/-- The end of START: the image's outcome, settings and limit table are taken, and the station goes to
SILENT with cause BAD_NUMBER or IMAGE_BAD, or to LEARNING for three beacon intervals with its first
BEACON at its number times 25 ms (R19, R22, R25, R27). The image as an operand is the model's form
(log entry 28). The image outcome is read from the acknowledgements, the signature and the check; a
LOADED image gives each group whose load-control code is 01, every value at the nearer end of its range
when it lies outside, the other groups keep their defaults, and CONFIG_CLAMPED says whether anything was
adjusted (R19, R20, R183). -/
def Obligations.StartEndsByTheImageAndTheNumber : Prop :=
  ∀ (im : ImageRead) (s : State), s.pins.inReset = false → s.start.station = .start →
    ∃ t, exec (.startEnd im) s = .next t ∧ t.limits = (configOf im).1.limits ∧
    t.handler.kit = (configOf im).1.kit ∧
    t.start = { s.start with
      image := imageOutcome im, config := (configOf im).1, clamped := (configOf im).2,
      station := if s.numberValid = true ∧ imageOutcome im ≠ .badCrc then .learning else .silent,
      cause := if s.numberValid = false then .badNumber
        else if imageOutcome im = .badCrc then .imageBad else .none,
      learning := if s.numberValid = true ∧ imageOutcome im ≠ .badCrc
        then some (s.now + 3 * ((configOf im).1.beaconInterval * 1000)) else none } ∧
    t.peers = { s.peers with
      beaconTimer := if s.numberValid = true ∧ imageOutcome im ≠ .badCrc
        then some (s.now + s.start.number * 25) else none } ∧
    t.link.line = .joining ∧ (t.start.station = .silent → t.link.tx = .off ∧ t.link.queue = []) ∧
    let byte (i : Nat) : Byte := im.data.getD i 0xFF#8
    let w (i : Nat) : Nat := 256 * (byte (2 * i)).toNat + (byte (2 * i + 1)).toNat
    let near (lo hi n : Nat) : Nat := max lo (min hi n)
    let degrees (n : Nat) : Int := if n < 32768 then n else (n : Int) - 65536
    let on (g : Nat) : Prop := w 1 / 4 ^ (g - 1) % 4 = 1
    let word (g lo hi i default : Nat) : Nat := if on g then near lo hi (w i) else default
    let pairs : List (Nat × Nat) :=
      [(w 41 / 256, w 43), (w 41 % 256, w 44), (w 42 / 256, w 45), (w 42 % 256, w 46)]
    let pairNew (i : Nat) : Bool := (pairs.take i).all fun q => q.1 != (pairs.getD i (0, 0)).1
    let slot (i : Nat) : Nat := w (47 + 6 * i)
    let slotNew (i : Nat) : Bool := (List.range i).all fun j => slot j != slot i
    let unGood (i : Nat) : Mask16 := BitVec.ofNat 16 (w (i + 1)) &&& ~~~BitVec.ofNat 16 (w i)
    let c := (configOf im).1
    let d := c.limits.default
    imageOutcome im =
      (if im.ackWrite = false ∨ im.ackByte = false ∨ im.ackRead = false then .absent
       else if w 0 ≠ 0x4A16 then .noSignature
       else if (crc16 ((List.range 190).map byte)).toNat ≠ w 95 then .badCrc else .loaded) ∧
    (imageOutcome im ≠ .loaded → configOf im = (Settings.defaults, false)) ∧
    (imageOutcome im = .loaded →
      (c.beaconInterval = word 1 1 8 2 2 ∧ c.contestWindow = word 1 50 1000 3 200 ∧
        c.acceptTimeout = word 1 100 2000 4 500 ∧ c.reservation = word 1 1 120 5 30 ∧
        c.bindTimeout = word 1 200 5000 6 1000 ∧ c.orphanTimeout = word 1 1 60 7 10) ∧
      (c.zoneMask = (if on 2 then BitVec.ofNat 16 (w 8) else 0xFFFF) ∧
        c.offerZone = word 2 0 15 9 0) ∧
      (c.kit = word 3 0 255 10 0 ∧
        c.tempMin = (if on 3 then max (-60) (min 200 (degrees (w 11))) else 15) ∧
        c.tempMax = (if on 3 then max c.tempMin (max (-60) (min 200 (degrees (w 12)))) else 35) ∧
        c.siteCount = (if on 3 then
          (if 8 ≤ w 13 then 8 else if 4 ≤ w 13 then 4 else if 2 ≤ w 13 then 2 else 1) else 4) ∧
        c.contactorField = (if on 3 then w 14 else 0) ∧
        c.granularity = (if on 3 then (w 15).testBit 0 else false) ∧
        c.coldSoak = word 3 0 3600 16 300 ∧ c.ambientSoak = word 3 0 3600 17 0 ∧
        c.hotSoak = word 3 0 3600 18 180 ∧ c.recoverySoak = word 3 0 600 19 30 ∧
        c.excursionGrace = word 3 0 120 20 10) ∧
      (c.kitChangeAllowed = (if on 6 then (w 21).testBit 0 else false) ∧
        c.idleThreshold = word 6 0 3600 22 60 ∧
        c.programs = (if on 6 then ((List.range 8).map fun i => w (23 + i)).filter (· != 0) else [])) ∧
      c.countTolerance = word 7 0 255 31 2 ∧
      d = (if on 4 then
        { lya := near 0 4096 (w 32 % 8192), lyf := near 0 4096 (w 33), nMin := near 1 65535 (w 34),
          nSite := near 1 65535 (w 35), sdl := near 0 4096 (w 36), cf := near 0 255 (w 37),
          good := BitVec.ofNat 16 (w 39), retestable := unGood 39, passes := w 32 / 16384,
          binLimits := ((List.range 4).filter fun i =>
            2 ≤ (pairs.getD i (0, 0)).1 && (pairs.getD i (0, 0)).1 ≤ 16 && pairNew i).map fun i =>
              ((pairs.getD i (0, 0)).1, near 0 4096 (pairs.getD i (0, 0)).2),
          jamLimit := near 0 255 (w 38) } else LimitEntry.builtIn) ∧
      c.limits.products = (if on 5 then
        ((List.range 8).filter fun i => slot i != 0 && slotNew i).map fun i =>
          (slot i, { d with
            lya := near 0 4096 (w (48 + 6 * i) % 8192), lyf := near 0 4096 (w (49 + 6 * i)),
            nMin := near 1 65535 (w (50 + 6 * i)), good := BitVec.ofNat 16 (w (51 + 6 * i)),
            retestable := unGood (51 + 6 * i), passes := w (48 + 6 * i) / 16384 })
       else []) ∧
      let fits (lo hi i : Nat) : Prop := lo ≤ w i ∧ w i ≤ hi
      let fitsTemp (i : Nat) : Prop := -60 ≤ degrees (w i) ∧ degrees (w i) ≤ 200
      let noneBoth (i : Nat) : Prop := BitVec.ofNat 16 (w i) &&& BitVec.ofNat 16 (w (i + 1)) = 0#16
      ((configOf im).2 = false ↔
        (on 1 → fits 1 8 2 ∧ fits 50 1000 3 ∧ fits 100 2000 4 ∧ fits 1 120 5 ∧ fits 200 5000 6 ∧
          fits 1 60 7) ∧
        (on 2 → fits 0 15 9) ∧
        (on 3 → fits 0 255 10 ∧ fitsTemp 11 ∧ fitsTemp 12 ∧ degrees (w 11) ≤ degrees (w 12) ∧
          (w 13 = 1 ∨ w 13 = 2 ∨ w 13 = 4 ∨ w 13 = 8) ∧ fits 0 3600 16 ∧ fits 0 3600 17 ∧
          fits 0 3600 18 ∧ fits 0 600 19 ∧ fits 0 120 20) ∧
        (on 6 → fits 0 3600 22) ∧ (on 7 → fits 0 255 31) ∧
        (on 4 → w 32 % 8192 ≤ 4096 ∧ fits 0 4096 33 ∧ fits 1 65535 34 ∧ fits 1 65535 35 ∧
          fits 0 4096 36 ∧ fits 0 255 37 ∧ fits 0 255 38 ∧ noneBoth 39 ∧
          ∀ i < 4, (pairs.getD i (0, 0)).1 = 0 ∨
            (2 ≤ (pairs.getD i (0, 0)).1 ∧ (pairs.getD i (0, 0)).1 ≤ 16 ∧ pairNew i = true ∧
              (pairs.getD i (0, 0)).2 ≤ 4096)) ∧
        (on 5 → ∀ i < 8, slot i = 0 ∨ slotNew i = true ∧ w (48 + 6 * i) % 8192 ≤ 4096 ∧
          fits 0 4096 (49 + 6 * i) ∧ fits 1 65535 (50 + 6 * i) ∧ noneBoth (51 + 6 * i))))

/-- The learning timer's expiry makes the station ACTIVE and starts a STAGE's offer timer at its
number times 25 ms; the tables keep their records (R24, R43). The clock at the expiry is the model's
choice (log entry 3). -/
def Obligations.LearningEndsInActive : Prop :=
  ∀ (d : Nat) (s : State), s.pins.inReset = false → s.start.station = .learning →
    s.start.learning = some d →
    ∃ t, exec .learningTimerExpiry s = .next t ∧
    t.start = { s.start with station := .active, learning := none } ∧ t.now = max s.now d ∧
    t.peers = s.peers ∧ t.limits = s.limits ∧ t.pack = s.pack ∧ t.holds.records = s.holds.records ∧
    t.holds.overflow = s.holds.overflow ∧ t.cell.queue = s.cell.queue ∧
    t.stage = { s.stage with
      offerTimer := if s.start.role = .stage then some (max s.now d + s.start.number * 25)
        else s.stage.offerTimer }

/-- RESTART: in LEARNING, ACTIVE, and SILENT with cause DUP_ID, a soft restart, which keeps the straps,
the role and the loaded configuration, empties every table, the event queue, the watch slots and every
latch, and enters LEARNING with the START outcome waiting; the one event there can be after it is the JAM
of a HANDLER whose JAM input is active (R101). In START and in SILENT with another cause it is refused
STATE (R26, R171). -/
def Obligations.RestartIsASoftRestart : Prop :=
  ∀ s : State, s.pins.inReset = false → s.port.abandoned = false →
    (s.isLive = true ∨ s.start.station = .silent ∧ s.start.cause = .dupId →
      ∃ t, exec .restart s = .next t ∧
      t.start = { s.start with
        station := .learning, cause := .none,
        learning := some (3 * (s.start.config.beaconInterval * 1000)) } ∧
      t.now = 0 ∧ t.link = { Link.reset with tx := .empty, line := .joining } ∧
      t.peers = { PeerDir.reset with beaconTimer := some (s.start.number * 25) } ∧
      t.holds = HoldTable.reset ∧ t.limits = s.start.config.limits ∧ t.stage = Stage.reset ∧
      t.cell = Cell.reset ∧ t.handler.kit = s.start.config.kit ∧ t.handler.rel = .free ∧
      t.pack = Pack.reset ∧ t.port.previous = { answer := .start, echo := 0x0B } ∧
      t.port.watches = [none, none, none, none] ∧ t.pending = s.pending ∧
      t.link.latches = { framing := false, check := false, address := false, kind := false,
                         content := false, txFull := false, txAbandon := false, dupId := false } ∧
      t.port.latches = { length := false, check := false, code := false, content := false } ∧
      t.port.overflowed = false ∧ t.port.selected = false ∧
      (let jams := s.start.role = .handler ∧ s.pins.jamIn = true
       (jams → t.port.events = [{ event := .jam 0 0, time := 0 }] ∧
        t.handler = { Handler.reset s.start.config.kit with jamLatch := true }) ∧
       (¬jams → t.port.events = [] ∧ t.handler = Handler.reset s.start.config.kit) ∧
       t.pins = { s.pins with indexEn := false, event := !t.port.events.isEmpty })) ∧
    (s.start.station = .start ∨ s.start.station = .silent ∧ s.start.cause ≠ .dupId →
      exec .restart s = .next (settle s (setOutcome (.refused .state) 0x0B s)))

/-- A qualified frame at the peer directory: the entry is refreshed, and by its presence and the FRESH
flag nothing more happens, or a restart notice, or a peer-back notice, each with its event (R29, R33).
The order of the notice's receivers, and the event after it, are the model's choice (log entry 11). -/
def Obligations.HearingAPeer : Prop :=
  ∀ (n : Nat) (fresh : Bool) (s : State), 1 ≤ n → n ≤ s.peers.table.length →
    let e := peerAt s.peers n
    let u := s.setPeers { s.peers with
      table := s.peers.table.set (n - 1)
        { e with presence := .present, fresh := fresh, lastHeard := some s.clock,
                 lossTimer := some (s.now + 3 * (s.start.config.beaconInterval * 1000)) } }
    (e.presence = .unknown → hear n fresh s = u) ∧
    (e.presence = .present → (fresh = false ∨ e.fresh = true) → hear n fresh s = u) ∧
    (e.presence ≠ .unknown → fresh = true → e.fresh = false →
      hear n fresh s = raise (.peerRestart n) (resyncPeerGone n (roleRestart n u))) ∧
    (e.presence = .lost → (fresh = false ∨ e.fresh = true) →
      hear n fresh s = raise (.peerBack n) (roleBack n u))

/-- A BEACON from a PRESENT peer: its entry takes the fields carried, and no other entry changes (R29,
R30). At an ACTIVE CELL the BEACON of the handler of its binding part or its reservation refreshes the
copies; one that shows a BOUND handler in another state, or with another cell, and any BEACON of an
ORPHANED one, leads to a rebind with BIND-REQ of expected kit 0 (R58, R86, R93). That the fields are
taken once the CONTENT check has passed is the model's reading (log entry 9). -/
def Obligations.BeaconsAreRecorded : Prop :=
  ∀ (h : Header) (b : BeaconBody) (s : State), Arrives h (.beacon b) s → SizesRight s →
    ∃ t, exec (.beacon h b) s = .next t ∧
    peerAt t.peers h.source =
      { peerAt s.peers h.source with
        presence := .present, fresh := h.fresh, lastHeard := some s.clock, beacon := some b,
        beaconSince := true,
        lossTimer := some (s.now + 3 * (s.start.config.beaconInterval * 1000)) } ∧
    (∀ n, n ≠ h.source → peerAt t.peers n = peerAt s.peers n) ∧
    t.peers.beaconTimer = s.peers.beaconTimer ∧ t.link.last = h.source ∧ t.start = s.start ∧
    t.stage = s.stage ∧ t.pack = s.pack ∧ t.limits = s.limits ∧
    t.holds.records = s.holds.records ∧ t.cell.queue = s.cell.queue ∧
    t.handler.rel = s.handler.rel ∧
    (s.start.role = .cell → s.cell.binding.handler ≠ h.source →
      t.cell.binding = s.cell.binding) ∧
    (∀ st c k lo hi n m, s.start.role = .cell → s.isActive = true →
      b.block = .handler st c k lo hi n m →
      let fit : HandlerFit := { kit := k, tempMin := lo, tempMax := hi, sites := n }
      let copied : BindingPart := { s.cell.binding with fit := fit, mask := m }
      let rebound (prev : BindState) : Prop :=
        t.cell.binding = { copied with
          state := .binding, prev := prev, first := false,
          timer := some (s.now + s.start.config.bindTimeout) } ∧
        t.cell.ready = false ∧ t.cell.permitTimer = none ∧
        (s.link.tx ≠ .off → s.link.queue.length ≤ 14 →
          { addr := { type := .toStation, value := h.source }, payload := .bindReq 0 } ∈ t.link.queue)
      (∀ f d, s.cell.reservation = .reserved h.source f d →
        t.cell.reservation = .reserved h.source fit d) ∧
      (s.cell.binding.handler = h.source →
        (s.cell.binding.state = .binding → t.cell.binding = copied) ∧
        (s.cell.binding.state = .bound → (st = .binding ∨ st = .bound ∨ st = .orphaned) →
          c = s.start.number → t.cell.binding = copied) ∧
        (s.cell.binding.state = .bound →
          ¬((st = .binding ∨ st = .bound ∨ st = .orphaned) ∧ c = s.start.number) → rebound .bound) ∧
        (s.cell.binding.state = .orphaned → rebound .orphaned)))

/-- A PRESENT peer's loss timer expires: the entry becomes LOST with its LOST latch set and its fresh
mark kept, a request waiting on it is abandoned, and PEER_LOST is raised, at a PACK as the one event
(R31, R33, R153); the role block takes the notice first. At a CELL a lost peer's sightings go, and a
candidate that is lost leaves the list, the one being tried as by a BUSY reply; a reserved handler that
is lost stays reserved (R57, R76, R77); a SILENT station's role block takes no notice (R25). The clock
at the expiry, and the event's place after the notice, are the model's choice (log entries 3 and 11); that the peer counts as
mismatching from its next BEACON alone (R153) is so too where it returns with a restart notice (log entry
52). -/
def Obligations.SilentPeersAreLost : Prop :=
  ∀ (n d : Nat) (s : State), s.pins.inReset = false → SizesRight s → 1 ≤ n → n ≤ 40 →
    (peerAt s.peers n).presence = .present → (peerAt s.peers n).lossTimer = some d →
    ∃ t, exec (.lossTimerExpiry n) s = .next t ∧ t.now = max s.now d ∧
    peerAt t.peers n =
      { peerAt s.peers n with
        presence := .lost, lostLatch := true, beaconSince := false, lossTimer := none } ∧
    (∀ m, m ≠ n → peerAt t.peers m = peerAt s.peers m) ∧
    t.holds.records = s.holds.records ∧
    (∀ w, s.holds.resync.waiting = some w → w.peer = n → t.holds.resync.waiting = none) ∧
    (s.start.role = .pack → s.port.events.length < 32 →
      t.port.events = s.port.events ++
        [{ event := .peerLost n, time := max s.now d % 4294967296 }]) ∧
    let u := (s.setNow (max s.now d)).setPeers { s.peers with
      table := s.peers.table.set (n - 1)
        { peerAt s.peers n with
          presence := .lost, lostLatch := true, beaconSince := false, lossTimer := none } }
    t = settle s (raise (.peerLost n) (resyncPeerGone n (roleLost n u))) ∧
    (s.isLive = false ∨ s.start.role = .pack → roleLost n u = u) ∧
    (s.isLive = true → s.start.role = .cell →
      (s.cell.binding.state = .bound → s.cell.binding.handler ≠ n) →
      let gone (r : Reservation) : State := u.setCell { s.cell with
        sightings := s.cell.sightings.filter fun x => x.stage != n, reservation := r }
      (s.cell.reservation = .none → roleLost n u = gone .none) ∧
      (∀ k p cs m, s.cell.reservation = .collecting k p cs m →
        roleLost n u = gone (.collecting k p (cs.filter fun c => c.handler != n) m)) ∧
      (∀ k p j cs m, s.cell.reservation = .reserving k p j cs m → j ≠ n →
        roleLost n u = gone (.reserving k p j (cs.filter fun c => c.handler != n) m)) ∧
      (∀ k p cs m, s.cell.reservation = .reserving k p n cs m →
        ((∀ c ∈ cs, c.handler = n) → roleLost n u = raise (.noHandler k p) (gone .none)) ∧
        (∀ c rest, (cs.filter fun x => x.handler != n) = c :: rest →
          roleLost n u = sendTo c.handler .reserve (gone (.reserving k p c.handler (c :: rest)
            (some (max s.now d + s.start.config.bindTimeout)))))) ∧
      (∀ j f m, s.cell.reservation = .reserved j f m → roleLost n u = gone (.reserved j f m)))

/-! ## Holds -/

/-- The order of generations and the successor of a generation (R139). -/
def Obligations.GenerationsAreOrderedWithWrap : Prop :=
  (∀ a b : Nat, a < 65536 → b < 65536 →
    (genNewer a b = true ↔
      1 ≤ ((a : Int) - b) % 65536 ∧ ((a : Int) - b) % 65536 ≤ 32767)) ∧
  (∀ a b : Nat, a < 65536 → b < 65536 → ((a : Int) - b) % 65536 = 32768 →
    genNewer a b = false ∧ genNewer b a = false) ∧
  (∀ g, g < 65535 → genSucc g = g + 1) ∧ genSucc 65535 = 1 ∧
  (∀ g, 1 ≤ g → g ≤ 65535 → genNewer (genSucc g) g = true)

/-- No operation of the hold table makes the generation recorded for a key older, unless the record was
evicted (R138). -/
def Obligations.GenerationsNeverGoBack : Prop :=
  ∀ (s t : State) (sc : Scope) (key : Nat) (old new : StoredHold), HoldsRight s →
    (∀ x ∈ s.holds.records, x.hold.generation < 65536) →
    findHold s.holds sc key = some old → findHold t.holds sc key = some new →
    ((∃ r, r.generation < 65536 ∧ t = (mergeHold r s).1) ∨
      (∃ sc' k g d n, g < 65536 ∧ t = (applyClear sc' k g d n s).1) ∨
      (∃ sc' k rs dt tr, t = (placeCore sc' k rs dt tr s).1)) →
    genNewer old.hold.generation new.hold.generation = false

/-- The merge of a received hold record: stored under a key with none, with HOLD_PLACED when IN_FORCE,
in a full list for the CLEARED record cleared earliest, the one of the lowest index among equals; in the
place of the stored record when newer, or the same with the stored one IN_FORCE and the received one
CLEARED or of a lower origin; otherwise discarded. A key that it clears may end overflow (R142, R144,
R145, R148); that HOLD_CLEARED comes before HOLD_OVERFLOW(LEFT) is the model's choice (log entry 25). -/
def Obligations.HoldRecordsAreMerged : Prop :=
  ∀ (r : HoldRec) (s : State), s.port.events.length < 31 →
    let new : StoredHold :=
      { hold := r, timeCleared := if r.state = .cleared then some s.clock else none }
    let placed : EventRec :=
      { event := .holdPlaced r.scope r.key r.generation r.origin, time := s.clock }
    let m := (mergeHold r s).1
    (findHold s.holds r.scope r.key = none → s.holds.records.length < 24 →
      m.holds.records = insertBy keyBefore new s.holds.records ∧
      m.holds.digest = digestOf m.holds.records ∧
      m.port.events = s.port.events ++ (if r.state = .inForce then [placed] else [])) ∧
    (findHold s.holds r.scope r.key = none → 24 ≤ s.holds.records.length →
      (∀ x ∈ s.holds.records, x.hold.state = .inForce) →
      m.holds = { s.holds with overflow := true } ∧
      (s.holds.overflow = true → m = s) ∧
      (s.holds.overflow = false → m.port.events = s.port.events ++
        [{ event := .holdOverflow true (inForceCount s.holds.records), time := s.clock }])) ∧
    (∀ v ∈ s.holds.records, findHold s.holds r.scope r.key = none → 24 ≤ s.holds.records.length →
      HoldsRight s → v.hold.state = .cleared →
      (∀ x ∈ s.holds.records, x.hold.state = .cleared →
        s.age (x.timeCleared.getD 0) < s.age (v.timeCleared.getD 0) ∨
          s.age (x.timeCleared.getD 0) = s.age (v.timeCleared.getD 0) ∧
            (x = v ∨ keyBefore v x = true)) →
      m.holds.records = insertBy keyBefore new (s.holds.records.filter fun x =>
        !(x.hold.scope == v.hold.scope && x.hold.key == v.hold.key)) ∧
      m.holds.digest = digestOf m.holds.records ∧ m.holds.overflow = s.holds.overflow ∧
      m.port.events = s.port.events ++ (if r.state = .inForce then [placed] else [])) ∧
    (∀ old, findHold s.holds r.scope r.key = some old → old.hold.state = .inForce →
      r.state = .cleared →
      (genNewer r.generation old.hold.generation = true ∨ r.generation = old.hold.generation) →
      let n := inForceCount m.holds.records
      m.holds.overflow = (s.holds.overflow && decide (20 < n)) ∧
      m.port.events = s.port.events ++
        { event := .holdCleared r.scope r.key r.generation .none, time := s.clock } ::
          (if s.holds.overflow = true ∧ n ≤ 20
           then [{ event := .holdOverflow false n, time := s.clock }] else [])) ∧
    (∀ old, findHold s.holds r.scope r.key = some old →
      (genNewer r.generation old.hold.generation = true ∨
        r.generation = old.hold.generation ∧ old.hold.state = .inForce ∧
          (r.state = .cleared ∨ r.origin < old.hold.origin)) →
      m.holds.records = s.holds.records.map (fun x => if sameKey x.hold r then new else x) ∧
      m.holds.digest = digestOf m.holds.records ∧
      (old.hold.state = .cleared → r.state = .inForce →
        m.port.events = s.port.events ++ [placed]) ∧
      (old.hold.state = r.state → m.port = s.port)) ∧
    (∀ old, findHold s.holds r.scope r.key = some old →
      genNewer r.generation old.hold.generation = false →
      ¬(r.generation = old.hold.generation ∧ old.hold.state = .inForce ∧
          (r.state = .cleared ∨ r.origin < old.hold.origin)) → m = s)

/-- The four outcomes of a CLEAR: TOMBSTONE under a key with no record; APPLIED to a record in force that
is not newer; ADVANCED over a CLEARED record that is neither the same nor newer; STALE otherwise, which
changes nothing (R143). A record cleared ends overflow when 20 or fewer stay in force (R145), HOLD_CLEARED
before HOLD_OVERFLOW(LEFT) by the model's choice (log entry 25). A TOMBSTONE in a full list takes the place
of the CLEARED record cleared earliest, and enters overflow when every record is in force (R144, R145). -/
def Obligations.ClearsHaveFourOutcomes : Prop :=
  ∀ (sc : Scope) (key g n : Nat) (d : Disposition) (s : State),
    let c := (applyClear sc key g d n s).1
    let stored (x : StoredHold) : StoredHold :=
      if x.hold.scope = sc ∧ x.hold.key = key
      then { hold := { x.hold with state := .cleared, generation := g }, timeCleared := some s.clock }
      else x
    (findHold s.holds sc key = none → s.holds.records.length < 24 →
      clearOutcome s.holds sc key g = .tombstone ∧
      c.holds.records = insertBy keyBefore
        { hold := { scope := sc, key := key, generation := g, state := .cleared, origin := n,
                    reason := .operator, detail := 0, trigger := 0 },
          timeCleared := some s.clock } s.holds.records ∧
      c.holds.digest = digestOf c.holds.records ∧ c.holds.overflow = s.holds.overflow ∧
      c.port = s.port) ∧
    (∀ v ∈ s.holds.records, HoldsRight s → findHold s.holds sc key = none →
      24 ≤ s.holds.records.length → v.hold.state = .cleared →
      (∀ x ∈ s.holds.records, x.hold.state = .cleared →
        s.age (x.timeCleared.getD 0) < s.age (v.timeCleared.getD 0) ∨
          s.age (x.timeCleared.getD 0) = s.age (v.timeCleared.getD 0) ∧
            (x = v ∨ keyBefore v x = true)) →
      clearOutcome s.holds sc key g = .tombstone ∧
      c.holds.records = insertBy keyBefore
        { hold := { scope := sc, key := key, generation := g, state := .cleared, origin := n,
                    reason := .operator, detail := 0, trigger := 0 },
          timeCleared := some s.clock } (s.holds.records.filter fun x =>
            !(x.hold.scope == v.hold.scope && x.hold.key == v.hold.key)) ∧
      c.holds.digest = digestOf c.holds.records ∧ c.holds.overflow = s.holds.overflow ∧
      c.port = s.port) ∧
    (findHold s.holds sc key = none → 24 ≤ s.holds.records.length →
      (∀ x ∈ s.holds.records, x.hold.state = .inForce) →
      clearOutcome s.holds sc key g = .tombstone ∧ c.holds = { s.holds with overflow := true } ∧
      (s.holds.overflow = true → c = s) ∧
      (s.holds.overflow = false → s.port.events.length < 32 → c.port.events = s.port.events ++
        [{ event := .holdOverflow true (inForceCount s.holds.records), time := s.clock }])) ∧
    (∀ r, HoldsRight s → findHold s.holds sc key = some r → r.hold.state = .inForce →
      genNewer r.hold.generation g = false →
      clearOutcome s.holds sc key g = .applied ∧ c.holds.records = s.holds.records.map stored ∧
      let left := inForceCount c.holds.records
      c.holds.overflow = (s.holds.overflow && decide (20 < left)) ∧
      (s.port.events.length < 31 → c.port.events = s.port.events ++
        { event := .holdCleared sc key g d, time := s.clock } ::
          (if s.holds.overflow = true ∧ left ≤ 20
           then [{ event := .holdOverflow false left, time := s.clock }] else []))) ∧
    (∀ r, HoldsRight s → findHold s.holds sc key = some r → r.hold.state = .cleared →
      r.hold.generation ≠ g → genNewer r.hold.generation g = false →
      clearOutcome s.holds sc key g = .advanced ∧ c.holds.records = s.holds.records.map stored ∧
      c.port = s.port) ∧
    (∀ r, findHold s.holds sc key = some r → genNewer r.hold.generation g = true →
      clearOutcome s.holds sc key g = .stale ∧ c = s) ∧
    (∀ r, findHold s.holds sc key = some r → r.hold.state = .cleared → r.hold.generation = g →
      clearOutcome s.holds sc key g = .stale ∧ c = s)

/-- A HOLD and a CLEAR that arrive: the list changes by the rules of the merge and of the clear, then
the held-state notice, the disposition hand-off and the entries freed follow in that order (R142,
R143, R147). A TOMBSTONE is handed on as well, its notice only where it could not be stored; ADVANCED
changes the list alone, and STALE nothing (R143). Which entries are freed is judged before any of them is
acted on: the model's choice (log entry 27). -/
def Obligations.HoldAndClearFramesAreTaken : Prop :=
  (∀ (h : Header) (r : HoldRec) (s : State), Arrives h (.hold r) s →
    let m := mergeHold r (heard h s)
    exec (.hold h r) s = .next (settle s (actOnAllFreed (heard h s) []
      (if m.2 = [] ∧ m.1.holds.overflow = s.holds.overflow then m.1 else notice m.2 m.1)))) ∧
  (∀ (h : Header) (sc : Scope) (key g n : Nat) (d : Disposition) (s : State),
    Arrives h (.clear sc key g d n) s → clearOutcome s.holds sc key g = .applied →
    let c := applyClear sc key g d n (heard h s)
    let u := notice c.2 c.1
    exec (.clear h sc key g d n) s = .next (settle s (actOnAllFreed (heard h s)
      (resumed sc key d u) (handoff sc key d true u)))) ∧
  (∀ (h : Header) (sc : Scope) (key g n : Nat) (d : Disposition) (s : State),
    Arrives h (.clear sc key g d n) s → clearOutcome s.holds sc key g = .stale →
    exec (.clear h sc key g d n) s = .next (settle s (heard h s))) ∧
  (∀ (h : Header) (sc : Scope) (key g n : Nat) (d : Disposition) (s : State),
    Arrives h (.clear sc key g d n) s → clearOutcome s.holds sc key g = .tombstone →
    let c := (applyClear sc key g d n (heard h s)).1
    let u := if (findHold c.holds sc key).isSome then c else notice [] c
    exec (.clear h sc key g d n) s = .next (settle s (actOnAllFreed (heard h s)
      (resumed sc key d u) (handoff sc key d false u)))) ∧
  (∀ (h : Header) (sc : Scope) (key g n : Nat) (d : Disposition) (s : State),
    Arrives h (.clear sc key g d n) s → clearOutcome s.holds sc key g = .advanced →
    exec (.clear h sc key g d n) s =
      .next (settle s (applyClear sc key g d n (heard h s)).1))

/-- HOLD-LIST-REQ: an index at or above the number of records is answered with HOLD-LIST-NONE; below it,
the records from the index go out three to a frame, the last frame with the remainder, all in the one
event. A SILENT station takes the request and answers nothing (R151). -/
def Obligations.HoldListRequestsAreAnswered : Prop :=
  (∀ (h : Header) (i : Nat) (s : State), Arrives h (.holdListReq i) s → s.start.station = .silent →
    exec (.holdListReq h i) s = .next (settle s (heard h s)) ∧
    (settle s (heard h s)).link.queue = s.link.queue) ∧
  ∀ (h : Header) (i : Nat) (s : State), Arrives h (.holdListReq i) s → s.isLive = true →
    s.holds.records.length ≤ 24 →
    let n := s.holds.records.length
    let part (k : Nat) : List HoldRec :=
      ((s.holds.records.map StoredHold.hold).drop (i + 3 * k)).take 3
    (n ≤ i →
      exec (.holdListReq h i) s =
        .next (settle s (sendTo h.source (.holdListNone n i) (heard h s)))) ∧
    (i < n →
      exec (.holdListReq h i) s =
        .next (settle s ((List.range ((n - i + 2) / 3)).foldl
          (fun u k => sendTo h.source (.holdList n (i + 3 * k) (part k).length (part k)) u)
          (heard h s))))

/-- Every record of a HOLD-LIST is merged with its notice, and the frame moves the resync record when it
comes from the peer asked; the record's other moves are on HOLD-LIST-NONE and at its two timers (R150,
R152). The conditions tested send one request, to the continuation while its peer still mismatches, else
to the lowest mismatching peer from index 0 (R150, R153). They are tested at the end of an event that
changed the list, and the end of every event sets the spacing timer: it runs while a mismatching peer exists
and the spacing alone holds the request back, and a due one is left for its expiry (R150); that it is set
there is the model's reading (log entry 10). The clock at the two expiries is the model's
choice (log entry 3), and so are that the freed entries come after the resync record moves (log entry 27),
that an answer timer that ends with the total unknown drops the continuation (log entry 46), and that a peer
that was LOST and returns with a restart notice counts as mismatching from its next BEACON (log entry 52). -/
def Obligations.HoldListsAreMergedAndResyncMoves : Prop :=
  (∀ (h : Header) (t i n : Nat) (rs : List HoldRec) (s : State),
    Arrives h (.holdList t i n rs) s →
    exec (.holdList h t i n rs) s =
      .next (settle s (actOnAllFreed (heard h s) []
        (resyncAdvance h.source t i n
          (rs.foldl (fun u r => noticeAfter u.holds.overflow (mergeHold r u).2 (mergeHold r u).1)
            (heard h s)))))) ∧
  (∀ (n t i c : Nat) (w : ResyncWait) (s : State), s.holds.resync.waiting = some w → w.peer = n →
    let next := if i = w.next then w.next + c else w.next
    (t ≤ next → resyncAdvance n t i c s = resyncTest (s.setHolds { s.holds with
      resync := { s.holds.resync with waiting := none, continuation := none } })) ∧
    (next < t → resyncAdvance n t i c s = s.setHolds { s.holds with
      resync := { s.holds.resync with
        waiting := some { peer := n, next := next, total := some t,
                          timer := s.now + s.start.config.beaconInterval * 1000 } } })) ∧
  (∀ (n t i c : Nat) (s : State), (∀ w, s.holds.resync.waiting = some w → w.peer ≠ n) →
    resyncAdvance n t i c s = s) ∧
  (∀ (h : Header) (t i : Nat) (w : ResyncWait) (s : State), Arrives h (.holdListNone t i) s →
    s.holds.resync.waiting = some w → w.peer = h.source →
    exec (.holdListNone h t i) s =
      .next (settle s (resyncTest ((heard h s).setHolds { s.holds with
        resync := { s.holds.resync with waiting := none, continuation := none } })))) ∧
  (∀ (w : ResyncWait) (s : State), s.pins.inReset = false → s.holds.resync.waiting = some w →
    exec .answerTimerExpiry s =
      .next (settle s (resyncTest ((s.setNow (max s.now w.timer)).setHolds { s.holds with
        resync := { s.holds.resync with
          waiting := none,
          continuation := match w.total with
            | some t => if 0 < w.next ∧ w.next < t then some (w.peer, w.next) else none
            | none => none } })))) ∧
  (∀ (d : Nat) (s : State), s.pins.inReset = false → s.holds.resync.spacing = some d →
    exec .resyncSpacingExpiry s =
      .next (settle s (resyncTest ((s.setNow (max s.now d)).setHolds { s.holds with
        resync := { s.holds.resync with spacing := none } })))) ∧
  (∀ s : State,
    let ready : Prop := s.isLive = true ∧ s.holds.resync.waiting = none ∧
      ∀ t, s.holds.resync.lastRequest = some t → s.start.config.beaconInterval * 1000 ≤ s.age t
    let bad (n : Nat) : Prop := (peerAt s.peers n).presence = .present ∧
      (peerAt s.peers n).beaconSince = true ∧
      ∃ b, (peerAt s.peers n).beacon = some b ∧ b.holdCount ≠ 0 ∧
        (b.holdCount ≠ s.holds.records.length ∨ b.digest ≠ s.holds.digest)
    let asks (n i : Nat) (c : Option (Nat × Nat)) : Prop :=
      resyncTest s = sendTo n (.holdListReq i) (s.setHolds { s.holds with
        resync := {
          waiting := some { peer := n, next := i, total := none,
                            timer := s.now + s.start.config.beaconInterval * 1000 },
          continuation := c, lastRequest := some s.clock, spacing := none } })
    (¬ready → resyncTest s = s) ∧
    ((∀ n, ¬bad n) → resyncTest s = s) ∧
    (∀ n i, ready → s.holds.resync.continuation = some (n, i) → bad n → asks n i (some (n, i))) ∧
    (∀ n, ready → (∀ p i, s.holds.resync.continuation = some (p, i) → ¬bad p) → bad n →
      (∀ m, m < n → ¬bad m) → asks n 0 none) ∧
    ∀ before,
      let u := if s.holds.digest = before.holds.digest ∧
          s.holds.records.length = before.holds.records.length then s else resyncTest s
      let r := u.holds.resync
      let ends (m : Option Nat) : Prop :=
        (settle before s).holds = { s.holds with resync := { r with spacing := m } }
      (s.isLive = false ∨ r.waiting ≠ none ∨ (∀ n, ¬bad n) → ends none) ∧
      (∀ n, s.isLive = true → r.waiting = none → bad n →
        (∀ v, r.lastRequest = some v → s.age v < s.start.config.beaconInterval * 1000 →
          ends (some (s.now + (s.start.config.beaconInterval * 1000 - s.age v)))) ∧
        ((∀ v, r.lastRequest = some v → s.start.config.beaconInterval * 1000 ≤ s.age v) →
          ends r.spacing)))

/-- PLACE HOLD: a key with no record takes generation 1, a CLEARED one the successor of its generation;
the record is IN_FORCE with reason OPERATOR and this station as origin, HOLD goes to all from an ACTIVE
station and from no other, and HOLD_PLACED is raised. A key in force answers ALREADY with its generation,
with no frame and no event of the hold; at a live CELL whose active lot it names, in a pass or awaiting a
disposition, OPERATOR joins the lot's reasons (R25, R141). In a full list the CLEARED record cleared
earliest makes room; a placement that a list full of records in force cannot store still sends HOLD and
raises HOLD_PLACED, and enters overflow (R140, R141, R144, R145). That HOLD_PLACED comes before
HOLD_OVERFLOW is the model's choice (log entry 25), and that the origin is the station's number also in
SILENT with cause BAD_NUMBER its reading (log entry 34). -/
def Obligations.PlaceHoldPlacesOrFindsAHold : Prop :=
  ∀ (sc : Scope) (key tr : Nat) (s : State), PortTakes (.placeHold sc key tr) s →
    let rec_ (g : Nat) : HoldRec :=
      { scope := sc, key := key, generation := g, state := .inForce, origin := s.start.number,
        reason := .operator, detail := 0, trigger := tr }
    let quiet (t : State) : Prop :=
      (s.start.station = .silent → t.link = s.link) ∧
      (s.start.station = .learning →
        ∃ more, t.link.queue = s.link.queue ++ more ∧ ∀ f ∈ more, ∀ r, f.payload ≠ .hold r)
    let made (g : Nat) (t : State) : Prop :=
      t.holds.digest = digestOf t.holds.records ∧ t.holds.overflow = s.holds.overflow ∧
      t.port.previous =
        { answer := .done (be2 g ++ be1 1 ++ be1 (if s.holds.overflow then 1 else 0)), echo := 0x07 } ∧
      (s.port.events.length < 32 → ∃ more, t.port.events = s.port.events ++
        { event := .holdPlaced sc key g s.start.number, time := s.clock } :: more) ∧
      (s.isActive = true → s.link.tx ≠ .off → s.link.queue.length < 16 →
        ∃ more, t.link.queue = s.link.queue ++
          { addr := { type := .toAll, value := 0 }, payload := .hold (rec_ g) } :: more) ∧
      quiet t ∧
      t.start = s.start ∧ t.peers = s.peers ∧ t.limits = s.limits
    (findHold s.holds sc key = none → s.holds.records.length < 24 →
      ∃ t, exec (.placeHold sc key tr) s = .next t ∧ made 1 t ∧
        t.holds.records =
          insertBy keyBefore { hold := rec_ 1, timeCleared := none } s.holds.records) ∧
    (∀ v ∈ s.holds.records, HoldsRight s → findHold s.holds sc key = none →
      24 ≤ s.holds.records.length → v.hold.state = .cleared →
      (∀ x ∈ s.holds.records, x.hold.state = .cleared →
        s.age (x.timeCleared.getD 0) < s.age (v.timeCleared.getD 0) ∨
          s.age (x.timeCleared.getD 0) = s.age (v.timeCleared.getD 0) ∧
            (x = v ∨ keyBefore v x = true)) →
      ∃ t, exec (.placeHold sc key tr) s = .next t ∧ made 1 t ∧
        t.holds.records = insertBy keyBefore { hold := rec_ 1, timeCleared := none }
          (s.holds.records.filter fun x =>
            !(x.hold.scope == v.hold.scope && x.hold.key == v.hold.key))) ∧
    (∀ r, findHold s.holds sc key = some r → r.hold.state = .cleared →
      ∃ t, exec (.placeHold sc key tr) s = .next t ∧ made (genSucc r.hold.generation) t ∧
        t.holds.records = s.holds.records.map fun x =>
          if x.hold.scope = sc ∧ x.hold.key = key
          then { hold := rec_ (genSucc r.hold.generation), timeCleared := none } else x) ∧
    (∀ r, findHold s.holds sc key = some r → r.hold.state = .inForce →
      ∃ t, exec (.placeHold sc key tr) s = .next t ∧ t.holds.records = s.holds.records ∧
        t.port.previous = { answer := .already r.hold.generation, echo := 0x07 } ∧ quiet t) ∧
    (∀ r, findHold s.holds sc key = some r → r.hold.state = .inForce →
      let already (u : State) : Prop := exec (.placeHold sc key tr) s =
        .next (settle s (setOutcome (.already r.hold.generation) 0x07 u))
      let names (l : LotRecord) : Prop := sc = .lot ∧ key = l.lotId ∨
        sc = .product ∧ key = l.product ∨ sc = .group ∧ key = l.group ∧ l.group ≠ 0 ∨
        sc = .program ∧ key = l.program
      (∀ a, s.isLive = true → s.start.role = .cell → s.cell.active = some a →
        a.phase ≠ .finished → names a.lot → already (s.setCell { s.cell with
          active := some { a with reasons := a.reasons ||| reasonBit .operator } })) ∧
      (s.isLive = false ∨ s.start.role ≠ .cell ∨
        (∀ a, s.cell.active = some a → a.phase = .finished ∨ ¬names a.lot) → already s)) ∧
    (findHold s.holds sc key = none → 24 ≤ s.holds.records.length →
      (∀ x ∈ s.holds.records, x.hold.state = .inForce) →
      ∃ t, exec (.placeHold sc key tr) s = .next t ∧ t.holds.records = s.holds.records ∧
        t.holds.overflow = true ∧ t.holds.digest = s.holds.digest ∧ quiet t ∧
        t.port.previous = { answer := .done (be2 1 ++ be1 0 ++ be1 1), echo := 0x07 } ∧
        (s.port.events.length < 31 → ∃ more, t.port.events = s.port.events ++
          { event := .holdPlaced sc key 1 s.start.number, time := s.clock } ::
            (if s.holds.overflow = true then []
             else [{ event := .holdOverflow true (inForceCount s.holds.records),
                     time := s.clock }]) ++ more) ∧
        (s.isActive = true → s.link.tx ≠ .off → s.link.queue.length < 16 →
          ∃ more, t.link.queue = s.link.queue ++
            { addr := { type := .toAll, value := 0 }, payload := .hold (rec_ 1) } :: more))

/-- DISPOSITION: the checks of R154 in their order; one that passes makes the record CLEARED in its
generation, sends CLEAR to all, raises HOLD_CLEARED with the disposition and answers DONE (R154, R155);
that HOLD_CLEARED comes before HOLD_OVERFLOW(LEFT) is the model's choice (log entry 25).
The count in the outcome is taken at the end of the event, the model's choice (log entry 12). The
disposition is handed on after the notice, and the entries freed come last. At a CELL it acts on the
active lot of its own LOT key by phase and disposition, and a RESUME of any key, or a RETEST of its own
in a pass, that leaves no record matching the lot suppresses the checks among its reasons (R134, R135).
A CLEAR that found no record does the same but for the suppression, the model's choice in a pass (log entry
49). A RETEST of a lot with nothing tested starts pass 1 again with RETEST_STARTED, the model's reading (log
entry 17); the freed entries are fixed before any is judged, its choice (log entry 27). -/
def Obligations.DispositionsClearHolds : Prop :=
  ∀ (sc : Scope) (key g : Nat) (d : Disposition) (s : State), PortTakes (.disposition sc key g d) s →
    let refused (r : Reason) : Prop :=
      exec (.disposition sc key g d) s = .next (settle s (setOutcome (.refused r) 0x08 s))
    ((findHold s.holds sc key = none ∨
        ∃ r, findHold s.holds sc key = some r ∧ r.hold.state = .cleared) → refused .unknownHold) ∧
    (∀ r, findHold s.holds sc key = some r → r.hold.state = .inForce →
      (r.hold.generation ≠ g → refused .genMismatch) ∧
      (r.hold.generation = g → d ≠ .resume → sc ≠ .lot → refused .scope) ∧
      (r.hold.generation = g → d = .retest → sc = .lot → s.start.role ≠ .cell → refused .notHere) ∧
      (r.hold.generation = g → d = .retest → sc = .lot →
        (∀ a, s.cell.active = some a → a.lot.lotId ≠ key) → refused .notHere) ∧
      (r.hold.generation = g → HoldsRight s →
        (d = .resume ∨ d = .scrap ∧ sc = .lot ∨
          d = .retest ∧ sc = .lot ∧ s.start.role = .cell ∧
            ∃ a, s.cell.active = some a ∧ a.lot.lotId = key) →
        (s.start.role = .pack → s.pack.entries = []) →
        ∃ t, exec (.disposition sc key g d) s = .next t ∧
        t.holds.records = (s.holds.records.map fun x =>
          if x.hold.scope = sc ∧ x.hold.key = key
          then { hold := { x.hold with state := .cleared }, timeCleared := some s.clock } else x) ∧
        t.holds.digest = digestOf t.holds.records ∧
        t.port.previous.echo = 0x08 ∧
        t.port.previous.answer =
          .done (be1 (inForceCount t.holds.records) ++ be1 (if t.holds.overflow then 1 else 0)) ∧
        (s.port.events.length < 32 → ∃ more, t.port.events = s.port.events ++
          { event := .holdCleared sc key g d, time := s.clock } :: more) ∧
        (s.link.tx ≠ .off → s.link.queue.length < 16 → ∃ more, t.link.queue = s.link.queue ++
          { addr := { type := .toAll, value := 0 },
            payload := .clear sc key g d s.start.number } :: more)) ∧
      (r.hold.generation = g →
        (d = .resume ∨ sc = .lot ∧ (d = .scrap ∨ d = .retest ∧ s.start.role = .cell ∧
          ∃ a, s.cell.active = some a ∧ a.lot.lotId = key)) →
        let c := applyClear sc key g d s.start.number s
        let u := notice c.2 (sendAll (.clear sc key g d s.start.number) c.1)
        let v := actOnAllFreed s (resumed sc key d u) (handoff sc key d true u)
        exec (.disposition sc key g d) s = .next (settle s (setOutcome
          (.done (be1 (inForceCount v.holds.records) ++
            be1 (if v.holds.overflow then 1 else 0))) 0x08 v)))) ∧
    (∀ (u : State) (a : ActiveLot), u.isLive = true → u.start.role = .cell →
      u.cell.active = some a →
      let own : Prop := sc = .lot ∧ key = a.lot.lotId
      let with_ (x : ActiveLot) : State := u.setCell { u.cell with active := some x }
      let more := min (a.allowance + 1) 255
      let checks := a.suppressed ||| (a.reasons &&& (reasonBit .noSites ||| reasonBit .siteDelta |||
        reasonBit .binLimit ||| reasonBit .yieldAlarm ||| reasonBit .countExcess |||
        reasonBit .jamRate))
      let freed : Prop := keyMatches (queryOf a.lot) sc key = true ∧
        lotMatched u.holds (queryOf a.lot) = false
      (a.phase = .finished → handoff sc key d true u = u) ∧
      (a.phase = .finished ∨ ¬own → handoff sc key d false u = u) ∧
      (a.phase = .inPass → own →
        (d = .resume → handoff sc key d false u = u) ∧
        (d = .scrap → handoff sc key d false u = finishLot a .scrapped u) ∧
        (d = .retest → handoff sc key d false u = with_ { a with allowance := more })) ∧
      (¬own → d ≠ .resume → handoff sc key d true u = u) ∧
      (a.phase = .awaiting → ¬own → handoff sc key d true u = u) ∧
      (a.phase = .awaiting → own → ∀ b : Bool,
        (d = .resume → handoff sc key d b u =
          finishLot a (if a.tested = 0 then .empty else .accepted) u) ∧
        (d = .scrap → handoff sc key d b u = finishLot a .scrapped u) ∧
        (d = .retest → handoff sc key d b u = startRetest { a with allowance := more }
          (if a.tested = 0 then 1 else min (a.pass + 1) 255) u)) ∧
      (a.phase = .inPass → own → d = .scrap → handoff sc key d true u = finishLot a .scrapped u) ∧
      (a.phase = .inPass → d = .resume →
        (freed → handoff sc key d true u = with_ { a with suppressed := checks }) ∧
        (¬freed → handoff sc key d true u = u)) ∧
      (a.phase = .inPass → own → d = .retest →
        (freed → handoff sc key d true u = with_ { a with allowance := more, suppressed := checks }) ∧
        (¬freed → handoff sc key d true u = with_ { a with allowance := more })))

/-! ## The staging table -/

/-- LOT ARRIVED adds a WAITING entry at the end, LOT RETURNED takes an ISSUED entry back to WAITING, and
LOT REMOVED deletes an entry, with REVOKE to the cell of a GRANTED or CLAIMED one; each refusal changes
nothing (R36, R38, R39). That a lot present is refused DUPLICATE also when the table is full is the model's
choice (log entry 36). -/
def Obligations.RackCommandsMoveEntries : Prop :=
  ∀ s : State, s.pins.inReset = false → s.port.abandoned = false → s.start.role = .stage →
    s.isLive = true →
    (∀ l : LotRecord, lotRecordOk l = true →
      let answer (a : Answer) (u : State) : Prop :=
        exec (.lotArrived l) s = .next (settle s (setOutcome a 0x20 u))
      ((findEntry s l.lotId l.index).isSome = true → answer (.refused .duplicate) s) ∧
      (findEntry s l.lotId l.index = none → 64 ≤ s.stage.entries.length →
        answer (.refused .full) s) ∧
      (findEntry s l.lotId l.index = none → s.stage.entries.length < 64 →
        answer (.done (be1 (s.stage.entries.length + 1)))
          (s.setStage { s.stage with entries := s.stage.entries ++
            [{ lot := l, arrived := s.now % 4294967296, state := .waiting, claims := [],
               excluded := [], returnPending := false, window := none, accept := none }] }))) ∧
    (∀ lot ix, lotOk lot ix = true →
      (findEntry s lot ix = none →
        exec (.lotReturned lot ix) s = .next (settle s (setOutcome (.refused .unknown) 0x22 s)) ∧
        exec (.lotRemoved lot ix) s = .next (settle s (setOutcome (.refused .unknown) 0x23 s))) ∧
      (∀ e, findEntry s lot ix = some e →
        let without := s.setStage { s.stage with
          entries := s.stage.entries.filter fun x => !isLot x.lot lot ix }
        (∀ c, e.state = .issued c →
          exec (.lotReturned lot ix) s = .next (settle s (setOutcome (.done []) 0x22
            (s.setStage { s.stage with
              entries := s.stage.entries.map fun x => if isLot x.lot lot ix then
                { x with state := .waiting, claims := [], excluded := [], returnPending := false,
                         window := none, accept := none }
              else x })))) ∧
        ((∀ c, e.state ≠ .issued c) →
          exec (.lotReturned lot ix) s = .next (settle s (setOutcome (.refused .state) 0x22 s))) ∧
        (e.state = .waiting ∨ e.state = .contest ∨ (∃ c, e.state = .issued c) →
          exec (.lotRemoved lot ix) s = .next (settle s (setOutcome (.done []) 0x23 without))) ∧
        (∀ c, e.state = .claimed c ∨ (∃ sc, e.state = .granted c sc) →
          exec (.lotRemoved lot ix) s = .next (settle s (setOutcome (.done []) 0x23
            (raise (.lotRevoked lot ix c none)
              (sendTo c (.revoke lot ix .conflict) without)))))))

/-- LOT ISSUED: a CLAIMED entry of the cell given becomes ISSUED; another cell is refused WRONG_CELL, any
other state STATE, and a lot with no entry UNKNOWN; a refusal changes nothing (R37). -/
def Obligations.LotIssuedTakesAClaimedEntry : Prop :=
  ∀ (lot ix cell : Nat) (s : State), PortTakes (.lotIssued lot ix cell) s →
    let answer (a : Answer) (u : State) : Prop :=
      exec (.lotIssued lot ix cell) s = .next (settle s (setOutcome a 0x21 u))
    (findEntry s lot ix = none → answer (.refused .unknown) s) ∧
    (∀ e, findEntry s lot ix = some e →
      (e.state = .claimed cell →
        answer (.done []) (s.setStage { s.stage with
          entries := s.stage.entries.map fun x =>
            if isLot x.lot lot ix then { x with state := .issued cell } else x })) ∧
      (∀ c, e.state = .claimed c → c ≠ cell → answer (.refused .wrongCell) s) ∧
      ((∀ c, e.state ≠ .claimed c) → answer (.refused .state) s))

/-- The staging controller's frames. A CLAIM opens a contest or joins it, in the place of its cell's
earlier claim, or of the lowest of eight when it is higher; an excluded cell's, one for a held entry and
one for an entry already granted are discarded. An owned CLAIM takes the entry, or is answered with
REVOKE. An ACCEPT of the granted score makes the entry CLAIMED, or excludes the cell and grants the next
claim; any other is answered. A RETURN takes a CLAIMED entry back, ends a grant, or marks an ISSUED entry;
a LOT-DONE of an ISSUED entry's cell retires it; and a frame for a lot with no entry changes nothing but
for an ACCEPT's answer (R44 to R47, R49 to R53). A station that is not ACTIVE, in LEARNING or SILENT,
hears its source and discards a CLAIM, an ACCEPT and a RETURN (R23, R25). That a cell is added to the
exclusion list also where the list already holds it is the model's reading (log entry 31). -/
def Obligations.StagingFramesMoveEntries : Prop :=
  (∀ (h : Header) (lot ix : Nat) (e : StageEntry) (s : State),
    findEntry s lot ix = some e → s.isActive = true →
    let change (f : StageEntry → StageEntry) : State :=
      (heard h s).setStage { s.stage with
        entries := s.stage.entries.map fun x => if isLot x.lot lot ix then f x else x }
    let waiting (x : StageEntry) : StageEntry :=
      { x with state := .waiting, claims := [], window := none, accept := none }
    let answered (r : RevokeReason) : State := raise (.lotRevoked lot ix h.source none)
      (sendTo h.source (.revoke lot ix r) (heard h s))
    let only : Prop := (s.stage.entries.filter fun x => isLot x.lot lot ix) = [e]
    let shut := (if e.excluded.length < 4 then e.excluded else e.excluded.drop 1) ++ [h.source]
    let cascade (i : Instr) (out : List Nat) : Prop :=
      (e.claims = [] →
        exec i s = .next (settle s (change fun x => { waiting x with excluded := out }))) ∧
      (∀ c ∈ e.claims,
        (∀ x ∈ e.claims, x = c ∨ x.score < c.score ∨ x.score = c.score ∧ c.cell < x.cell) →
        exec i s = .next (settle s (sendAll (.grant lot ix c.cell c.score) (change fun x =>
          { x with state := .granted c.cell c.score,
                   claims := e.claims.filter fun y => y.cell != c.cell, window := none,
                   accept := some (s.now + s.start.config.acceptTimeout), excluded := out }))))
    (∀ sc, Arrives h (.claim lot ix sc false) s → e.excluded.contains h.source = false →
      entryHeld s e = false →
      let claim : Claim := { cell := h.source, score := sc, owned := false }
      let joins (cs : List Claim) : Prop := exec (.claim h lot ix sc false) s =
        .next (settle s (change fun x => { x with claims := cs }))
      (e.state = .waiting →
        exec (.claim h lot ix sc false) s = .next (settle s (change fun x =>
          { x with state := .contest, claims := [claim],
                   window := some (s.now + s.start.config.contestWindow) }))) ∧
      (e.state = .contest → only → (∃ c ∈ e.claims, c.cell = h.source) →
        joins (e.claims.map fun c => if c.cell = h.source then claim else c)) ∧
      (e.state = .contest → e.claims.length < 8 → (∀ c ∈ e.claims, c.cell ≠ h.source) → only →
        joins (e.claims ++ [claim])) ∧
      (e.state = .contest → 8 ≤ e.claims.length → (∀ c ∈ e.claims, c.cell ≠ h.source) → only →
        ∀ low ∈ e.claims,
          (∀ x ∈ e.claims, x = low ∨ low.score < x.score ∨
            low.score = x.score ∧ x.cell < low.cell) →
          joins (if low.score < sc
            then (e.claims.filter fun c => c.cell != low.cell) ++ [claim] else e.claims))) ∧
    (∀ sc, Arrives h (.claim lot ix sc false) s →
      (e.excluded.contains h.source = true ∨ entryHeld s e = true ∨
        (∃ c k, e.state = .granted c k) ∨ (∃ c, e.state = .claimed c ∨ e.state = .issued c)) →
      exec (.claim h lot ix sc false) s = .next (settle s (heard h s))) ∧
    (∀ sc, Arrives h (.claim lot ix sc true) s →
      let owned (u : State) : Prop := exec (.claim h lot ix sc true) s = .next (settle s u)
      let taken : Prop :=
        (sc = 255 → owned (change fun x => { waiting x with state := .issued h.source })) ∧
        (sc ≠ 255 → owned (raise (.lotGranted lot ix h.source)
          (change fun x => { waiting x with state := .claimed h.source })))
      (e.state = .waiting ∨ e.state = .contest → entryHeld s e = false ∨ sc = 255 → taken) ∧
      (e.state = .waiting ∨ e.state = .contest → entryHeld s e = true → sc ≠ 255 →
        owned (answered .held)) ∧
      (∀ k, e.state = .granted h.source k → taken) ∧
      (e.state = .claimed h.source →
        (sc = 255 → owned (change fun x => { x with state := .issued h.source })) ∧
        (sc ≠ 255 → owned (heard h s))) ∧
      (e.state = .issued h.source → owned (heard h s)) ∧
      (∀ c, c ≠ h.source →
        (∃ k, e.state = .granted c k) ∨ e.state = .claimed c ∨ e.state = .issued c →
        owned (answered .conflict))) ∧
    (∀ sc, Arrives h (.accept lot ix .take sc) s → e.state = .granted h.source sc →
      exec (.accept h lot ix .take sc) s = .next (settle s
        (raise (.lotGranted lot ix h.source) (change fun x =>
          { waiting x with state := .claimed h.source })))) ∧
    (∀ sc, Arrives h (.accept lot ix .decline sc) s → e.state = .granted h.source sc → only →
      cascade (.accept h lot ix .decline sc) shut) ∧
    (∀ a sc, Arrives h (.accept lot ix a sc) s →
      let left (u : State) : Prop := exec (.accept h lot ix a sc) s = .next (settle s u)
      (∀ k, e.state = .granted h.source k → k ≠ sc → left (heard h s)) ∧
      (e.state = .claimed h.source ∨ e.state = .issued h.source → left (heard h s)) ∧
      (∀ c, c ≠ h.source →
        (∃ k, e.state = .granted c k) ∨ e.state = .claimed c ∨ e.state = .issued c →
        left (answered .conflict)) ∧
      (e.state = .waiting ∨ e.state = .contest →
        left (answered (if entryHeld s e then .held else .conflict)))) ∧
    (∀ r, Arrives h (.return_ lot ix r) s →
      let returned (u : State) : Prop := exec (.return_ h lot ix r) s = .next (settle s u)
      (e.state = .claimed h.source → only → returned (raise (.lotLost lot ix (some h.source))
        (change fun x => { waiting x with
          excluded := if r = .operator then shut else e.excluded }))) ∧
      (∀ k, e.state = .granted h.source k → only →
        cascade (.return_ h lot ix r) (if r = .operator then shut else e.excluded)) ∧
      (e.state = .issued h.source → e.returnPending = false →
        returned (raise (.lotLost lot ix (some h.source))
          (change fun x => { x with returnPending := true }))) ∧
      (e.state = .issued h.source → e.returnPending = true →
        returned (change fun x => { x with returnPending := true })) ∧
      ((e.state = .waiting ∨ e.state = .contest ∨ ∃ c, c ≠ h.source ∧
          ((∃ k, e.state = .granted c k) ∨ e.state = .claimed c ∨ e.state = .issued c)) →
        returned (heard h s))) ∧
    (∀ c : Completion, c.lotId = lot → c.index = ix → Arrives h (.lotDone c) s →
      s.start.role = .stage →
      (e.state = .issued c.cell →
        exec (.lotDone h c) s = .next (settle s
          (raise (.stageFinished lot ix c.cell) ((heard h s).setStage { s.stage with
            entries := s.stage.entries.filter fun x => !isLot x.lot lot ix })))) ∧
      (e.state ≠ .issued c.cell → exec (.lotDone h c) s = .next (settle s (heard h s))))) ∧
  (∀ (h : Header) (lot ix : Nat) (s : State), findEntry s lot ix = none → s.isActive = true →
    (∀ sc o, Arrives h (.claim lot ix sc o) s →
      exec (.claim h lot ix sc o) s = .next (settle s (heard h s))) ∧
    (∀ a sc, Arrives h (.accept lot ix a sc) s →
      exec (.accept h lot ix a sc) s = .next (settle s (raise (.lotRevoked lot ix h.source none)
        (sendTo h.source (.revoke lot ix .conflict) (heard h s))))) ∧
    (∀ r, Arrives h (.return_ lot ix r) s →
      exec (.return_ h lot ix r) s = .next (settle s (heard h s))) ∧
    (∀ c : Completion, c.lotId = lot → c.index = ix → s.start.role = .stage →
      Arrives h (.lotDone c) s → exec (.lotDone h c) s = .next (settle s (heard h s)))) ∧
  (∀ (h : Header) (lot ix : Nat) (s : State), s.isActive = false →
    (∀ sc o, Arrives h (.claim lot ix sc o) s →
      exec (.claim h lot ix sc o) s = .next (settle s (heard h s))) ∧
    (∀ a sc, Arrives h (.accept lot ix a sc) s →
      exec (.accept h lot ix a sc) s = .next (settle s (heard h s))) ∧
    (∀ r, Arrives h (.return_ lot ix r) s →
      exec (.return_ h lot ix r) s = .next (settle s (heard h s))))

/-- The staging controller's timers: a contest window that ends grants the best claim, an accept timer
that ends excludes the grantee and grants the best claim left, and with none left, as a window that ends
with no claim, the entry returns to WAITING; the offer timer sends an OFFER for each of the first eight of
the WAITING entries that are not held, in order of priority, then arrival time, then place in the arrival
order; one is left out only when eight are sent (R43, R48, R50). A held-state notice takes an entry that is
held out of CONTEST, GRANTED and CLAIMED, with REVOKE(HELD) to the cell named, and leaves one that is not
held as it is (R41, R42). A peer that is lost or restarts loses its claims and its grant, and one that
restarts its claimed lot (R54). A CLEAR with SCRAP of a LOT key deletes every entry of the lot, with
REVOKE(CONFLICT) to the cell of a GRANTED or CLAIMED one; any other deletes none (R53). The clock at the
expiries (log entry 3) and the arrival order of the entries deleted (log entry 37) are the model's choice;
that a cell is excluded also where the list already holds it is its reading (log entry 31). -/
def Obligations.StagingTimersGrantAndOffer : Prop :=
  (∀ (lot ix d : Nat) (e : StageEntry) (c : Claim) (s : State), s.pins.inReset = false →
    (s.stage.entries.filter fun x => isLot x.lot lot ix) = [e] → e.state = .contest →
    e.window = some d → c ∈ e.claims →
    (∀ x ∈ e.claims, x = c ∨ x.score < c.score ∨ x.score = c.score ∧ c.cell < x.cell) →
    exec (.contestWindowExpiry lot ix) s = .next (settle s
      (sendAll (.grant lot ix c.cell c.score) ((s.setNow (max s.now d)).setStage { s.stage with
        entries := s.stage.entries.map fun x => if isLot x.lot lot ix then
          { x with state := .granted c.cell c.score,
                   claims := e.claims.filter fun y => y.cell != c.cell,
                   window := none,
                   accept := some (max s.now d + s.start.config.acceptTimeout) } else x })))) ∧
  (∀ (lot ix d c sc : Nat) (e : StageEntry) (s : State), s.pins.inReset = false →
    (s.stage.entries.filter fun x => isLot x.lot lot ix) = [e] → e.state = .granted c sc →
    e.accept = some d → e.claims = [] →
    exec (.acceptTimerExpiry lot ix) s = .next (settle s
      ((s.setNow (max s.now d)).setStage { s.stage with
        entries := s.stage.entries.map fun x => if isLot x.lot lot ix then
          { x with state := .waiting, claims := [], window := none, accept := none,
                   excluded := (if e.excluded.length < 4 then e.excluded else e.excluded.drop 1) ++ [c] }
          else x }))) ∧
  (∀ (d : Nat) (s : State), s.pins.inReset = false → s.stage.offerTimer = some d →
    s.link.tx ≠ .off → s.link.queue.length ≤ 8 →
    ∃ t, exec .offerTimerExpiry s = .next t ∧
    (∃ more, t.link.queue = s.link.queue ++ ((offers (s.advanceTo d)).map fun e =>
        { addr := if s.start.config.offerZone = 0 then { type := .toAll, value := 0 }
            else { type := .toZone, value := s.start.config.offerZone },
          payload := .offer e.lot }) ++ more) ∧
    t.stage = { s.stage with
      offerTimer := some (max s.now d + s.start.config.beaconInterval * 1000) } ∧
    (offers (s.advanceTo d)).length ≤ 8 ∧
    (∃ order : List StageEntry,
      order.Perm (s.stage.entries.filter fun e => e.state == .waiting && !entryHeld s e) ∧
      order.Pairwise (fun x y => y.lot.priority < x.lot.priority ∨
        y.lot.priority = x.lot.priority ∧
          ((s.advanceTo d).age y.arrived < (s.advanceTo d).age x.arrived ∨
            (s.advanceTo d).age y.arrived = (s.advanceTo d).age x.arrived ∧
              [x, y].Sublist s.stage.entries)) ∧
      offers (s.advanceTo d) = order.take 8) ∧
    (∀ x ∈ s.stage.entries, x.state = .waiting → entryHeld s x = false →
      x ∉ offers (s.advanceTo d) → (offers (s.advanceTo d)).length = 8) ∧
    ∀ e ∈ offers (s.advanceTo d), e ∈ s.stage.entries ∧ e.state = .waiting ∧ entryHeld s e = false ∧
      ∀ x ∈ s.stage.entries, x.state = .waiting → entryHeld s x = false →
        x ∉ offers (s.advanceTo d) → x.lot.priority ≤ e.lot.priority) ∧
  (∀ (lot ix : Nat) (e : StageEntry) (s : State),
    (s.stage.entries.filter fun x => isLot x.lot lot ix) = [e] →
    let change (u : State) (f : StageEntry → StageEntry) : State := u.setStage { s.stage with
      entries := s.stage.entries.map fun x => if isLot x.lot lot ix then f x else x }
    let waiting (x : StageEntry) : StageEntry :=
      { x with state := .waiting, claims := [], window := none, accept := none }
    let best (c : Claim) : Prop := c ∈ e.claims ∧
      ∀ x ∈ e.claims, x = c ∨ x.score < c.score ∨ x.score = c.score ∧ c.cell < x.cell
    let shut (c : Nat) := (if e.excluded.length < 4 then e.excluded else e.excluded.drop 1) ++ [c]
    let next (u : State) (old : Nat) (c : Claim) : State :=
      sendAll (.grant lot ix c.cell c.score) (change u fun x =>
        { x with state := .granted c.cell c.score,
                 claims := e.claims.filter fun y => y.cell != c.cell, window := none,
                 accept := some (u.now + s.start.config.acceptTimeout), excluded := shut old })
    (∀ d, s.pins.inReset = false → e.state = .contest → e.window = some d → e.claims = [] →
      exec (.contestWindowExpiry lot ix) s =
        .next (settle s (change (s.setNow (max s.now d)) waiting))) ∧
    (∀ d old k c, s.pins.inReset = false → e.state = .granted old k → e.accept = some d → best c →
      exec (.acceptTimerExpiry lot ix) s =
        .next (settle s (next (s.setNow (max s.now d)) old c))) ∧
    (∀ names, s.start.role = .stage → s.isLive = true → e.lot.lotId = lot → e.lot.index = ix →
      (∀ x ∈ s.stage.entries, x = e ∨ entryHeld s x = false) →
      (entryHeld s e = false → notice names s = s) ∧
      (entryHeld s e = true →
        (e.state = .waiting ∨ (∃ c, e.state = .issued c) → notice names s = s) ∧
        (e.state = .contest → notice names s = change s waiting) ∧
        (∀ c, (∃ k, e.state = .granted c k) ∨ e.state = .claimed c →
          notice names s = raise (.lotRevoked lot ix c none)
            (sendTo c (.revoke lot ix .held) (change s waiting))))) ∧
    (∀ n, s.start.role = .stage → s.isLive = true → e.lot.lotId = lot → e.lot.index = ix →
      (∀ x ∈ s.stage.entries, x = e ∨ x.state = .waiting ∨ ∃ c, x.state = .issued c) →
      let both (u : State) : Prop := roleLost n s = u ∧ roleRestart n s = u
      (e.state = .waiting ∨ (∃ c, e.state = .issued c ∨ e.state = .claimed c ∧ c ≠ n) → both s) ∧
      (e.state = .contest ∨ (∃ c k, e.state = .granted c k ∧ c ≠ n) →
        both (change s fun x => { x with claims := e.claims.filter fun y => y.cell != n })) ∧
      (∀ k, e.state = .granted n k →
        (e.claims = [] → both (change s fun x => { waiting x with excluded := shut n })) ∧
        (∀ c, best c → both (next s n c))) ∧
      (e.state = .claimed n → roleLost n s = s ∧
        roleRestart n s = raise (.lotLost lot ix (some n)) (change s waiting)) ∧
      roleBack n s = s)) ∧
  (∀ (sc : Scope) (key : Nat) (d : Disposition) (b : Bool) (s : State), s.start.role = .stage →
    (s.isLive = false ∨ sc ≠ .lot ∨ d ≠ .scrap → handoff sc key d b s = s) ∧
    (s.isLive = true → sc = .lot → d = .scrap →
      let told (u : State) (e : StageEntry) (c : Nat) : State :=
        raise (.lotRevoked key e.lot.index c none) (sendTo c (.revoke key e.lot.index .conflict) u)
      handoff sc key d b s =
        ((s.stage.entries.filter fun e => e.lot.lotId == key).foldl
          (fun u e => match e.state with
            | .granted c _ | .claimed c => told u e c
            | .waiting | .contest | .issued _ => u) s).setStage
          { s.stage with entries := s.stage.entries.filter fun e => e.lot.lotId != key }))

/-! ## The cell -/

/-- The dispatch controller's frames of a lot not yet active: an OFFER makes a sighting or refreshes it,
with its claim ended when it comes from another STAGE, drops that of a held lot, takes the place of the
oldest SEEN one in a full table, or is answered with an owned claim for a lot the cell holds, but in
overflow; a GRANT naming this cell takes a pending claim into the queue, takes a lot it holds again, and
declines any other; one naming another cell removes or marks the sighting; a REVOKE takes a lot out of the
queue and its sighting with it; and a sighting ages and a claim lapses, marked or not (R56, R57, R60 to
R63). A held-state notice drops the sightings that a hold in force matches, returns the queued lots that
are held with RETURN(HELD) and LOT_LOST, and adds the reasons of the holds that match the active lot to its
own until it is FINISHED (R57, R64, R130). A station that is not ACTIVE hears the source of an OFFER, a
GRANT or a REVOKE and discards it (R23, R25, R63). A pending claim is taken on checks 1, 2 and 7 of R58,
spelled out (R62). The clock at the expiries (log entry 3), that of the sightings
equally old the first in the table goes (log entry 38), and the queue order of the lots returned (log entry
37) are the model's choice. -/
def Obligations.SightingsClaimsAndGrants : Prop :=
  (∀ (s : State) (l : LotRecord), takeChecks s l = true ↔
    s.start.station = .active ∧ s.holds.overflow = false ∧
    (∀ x ∈ s.holds.records, x.hold.state = .inForce →
      ¬(x.hold.scope = .lot ∧ x.hold.key = l.lotId ∨
        x.hold.scope = .product ∧ x.hold.key = l.product ∨
        x.hold.scope = .group ∧ x.hold.key = l.group ∧ l.group ≠ 0 ∨
        x.hold.scope = .program ∧ x.hold.key = l.program)) ∧
    s.cell.outbox.length < 8) ∧
  (∀ (h : Header) (s : State), s.isActive = false →
    (∀ l, Arrives h (.offer l) s → exec (.offer h l) s = .next (settle s (heard h s))) ∧
    (∀ lot ix n sc, Arrives h (.grant lot ix n sc) s →
      exec (.grant h lot ix n sc) s = .next (settle s (heard h s))) ∧
    (∀ lot ix r, Arrives h (.revoke lot ix r) s →
      exec (.revoke h lot ix r) s = .next (settle s (heard h s)))) ∧
  ∀ s : State, s.isActive = true → s.start.role = .cell →
    let sight (xs : List Sighting) (u : State) : State := u.setCell { s.cell with sightings := xs }
    let without (lot ix : Nat) : List Sighting :=
      s.cell.sightings.filter fun y => !isLot y.lot lot ix
    let changed (lot ix : Nat) (f : Sighting → Sighting) : List Sighting :=
      s.cell.sightings.map fun y => if isLot y.lot lot ix then f y else y
    (∀ h l, Arrives h (.offer l) s → isActiveLot s.cell l.lotId l.index = false →
      inQueue s.cell l.lotId l.index = false → lotMatched s.holds (queryOf l) = false →
      findSighting s l.lotId l.index = none → s.cell.sightings.length < 32 →
      exec (.offer h l) s = .next (settle s ((heard h s).setCell { s.cell with
        sightings := s.cell.sightings ++
          [{ lot := l, stage := h.source, firstHeard := s.clock, lastOffered := s.clock,
             state := .seen, marked := false, result := .notActive }] }))) ∧
    (∀ h l, Arrives h (.offer l) s → s.holds.overflow = false →
      (isActiveLot s.cell l.lotId l.index = true →
        exec (.offer h l) s = .next (settle s
          (sendTo h.source (.claim l.lotId l.index 255 true) (heard h s)))) ∧
      (isActiveLot s.cell l.lotId l.index = false → inQueue s.cell l.lotId l.index = true →
        exec (.offer h l) s = .next (settle s
          (sendTo h.source (.claim l.lotId l.index (load s.cell) true) (heard h s))))) ∧
    (∀ h l, Arrives h (.offer l) s →
      let offered (u : State) : Prop := exec (.offer h l) s = .next (settle s u)
      let mine := isActiveLot s.cell l.lotId l.index || inQueue s.cell l.lotId l.index
      let new : Sighting :=
        { lot := l, stage := h.source, firstHeard := s.clock, lastOffered := s.clock,
          state := .seen, marked := false, result := .notActive }
      (mine = true → s.holds.overflow = true → offered (heard h s)) ∧
      (mine = false → lotMatched s.holds (queryOf l) = true →
        offered (sight (without l.lotId l.index) (heard h s))) ∧
      (mine = false → lotMatched s.holds (queryOf l) = false →
        (∀ x, findSighting s l.lotId l.index = some x →
          offered (sight (changed l.lotId l.index fun y => { y with
            lot := l, stage := h.source, lastOffered := s.clock,
            state := if y.stage = h.source then y.state else .seen,
            marked := if y.stage = h.source then y.marked else false }) (heard h s))) ∧
        (findSighting s l.lotId l.index = none → 32 ≤ s.cell.sightings.length →
          ((∀ x ∈ s.cell.sightings, isSeen x = false) → offered (heard h s)) ∧
          ∀ o pre post, s.cell.sightings = pre ++ o :: post → isSeen o = true →
            (∀ x ∈ pre, isSeen x = true → s.age x.lastOffered < s.age o.lastOffered) →
            (∀ x ∈ post, isSeen x = true → s.age x.lastOffered ≤ s.age o.lastOffered) →
            offered (sight (without o.lot.lotId o.lot.index ++ [new]) (heard h s))))) ∧
    (∀ h lot ix sc x, Arrives h (.grant lot ix s.start.number sc) s →
      inQueue s.cell lot ix = false → isActiveLot s.cell lot ix = false →
      findSighting s lot ix = some x → x.stage = h.source →
      (isSeen x = false → takeChecks s x.lot = true →
        exec (.grant h lot ix s.start.number sc) s = .next (settle s
          (raise (.lotGranted lot ix h.source)
            ((sendTo h.source (.accept lot ix .take sc) (heard h s)).setCell { s.cell with
              sightings := s.cell.sightings.filter fun y => !isLot y.lot lot ix,
              queue := s.cell.queue ++
                [{ lot := x.lot, stage := h.source, accepted := s.clock }] })))) ∧
      (isSeen x = true ∨ takeChecks s x.lot = false →
        exec (.grant h lot ix s.start.number sc) s = .next (settle s
          ((sendTo h.source (.accept lot ix .decline sc) (heard h s)).setCell { s.cell with
            sightings := s.cell.sightings.filter fun y => !isLot y.lot lot ix })))) ∧
    (∀ h lot ix sc, Arrives h (.grant lot ix s.start.number sc) s →
      let answers (a : AcceptAnswer) : Prop := exec (.grant h lot ix s.start.number sc) s =
        .next (settle s (sendTo h.source (.accept lot ix a sc) (heard h s)))
      (inQueue s.cell lot ix = true ∨ isActiveLot s.cell lot ix = true → answers .take) ∧
      (inQueue s.cell lot ix = false → isActiveLot s.cell lot ix = false →
        (findSighting s lot ix = none ∨
          ∃ x, findSighting s lot ix = some x ∧ x.stage ≠ h.source) → answers .decline)) ∧
    (∀ h lot ix n sc, Arrives h (.grant lot ix n sc) s → n ≠ s.start.number →
      let heardOf (u : State) : Prop := exec (.grant h lot ix n sc) s = .next (settle s u)
      (∀ x, findSighting s lot ix = some x → x.stage = h.source →
        (isSeen x = true → heardOf (sight (without lot ix) (heard h s))) ∧
        (isSeen x = false →
          heardOf (sight (changed lot ix fun y => { y with marked := true }) (heard h s)))) ∧
      ((findSighting s lot ix = none ∨
          ∃ x, findSighting s lot ix = some x ∧ x.stage ≠ h.source) → heardOf (heard h s))) ∧
    (∀ h lot ix r q, Arrives h (.revoke lot ix r) s → q ∈ s.cell.queue → isLot q.lot lot ix = true →
      q.stage = h.source →
      exec (.revoke h lot ix r) s = .next (settle s
        ((raise (.lotRevoked lot ix h.source (some r)) (heard h s)).setCell { s.cell with
          queue := s.cell.queue.filter fun y => !isLot y.lot lot ix,
          sightings := s.cell.sightings.filter fun y => !isLot y.lot lot ix }))) ∧
    (∀ h lot ix r, Arrives h (.revoke lot ix r) s →
      (∀ q ∈ s.cell.queue, isLot q.lot lot ix = true → q.stage ≠ h.source) →
      exec (.revoke h lot ix r) s = .next (settle s (sight (without lot ix) (heard h s)))) ∧
    (∀ lot ix x, s.pins.inReset = false → findSighting s lot ix = some x →
      let gone (n : Nat) : State := (s.setNow n).setCell { s.cell with
        sightings := s.cell.sightings.filter fun y => !isLot y.lot lot ix }
      (x.state = .seen → exec (.sightingAgeing lot ix) s = .next (settle s (gone
        (s.now + (3 * (s.start.config.beaconInterval * 1000) - s.age x.lastOffered))))) ∧
      (∀ sc t, x.state = .pending sc t → x.marked = true →
        exec (.claimLapse lot ix) s = .next (settle s (gone
          (s.now + (2 * (s.start.config.beaconInterval * 1000) - s.age t))))) ∧
      (∀ sc t, x.state = .pending sc t → x.marked = false →
        let n := s.now + (2 * (s.start.config.beaconInterval * 1000) - s.age t)
        let old := 3 * (s.start.config.beaconInterval * 1000) ≤ (s.setNow n).age x.lastOffered
        (old → exec (.claimLapse lot ix) s = .next (settle s (gone n))) ∧
        (¬old → exec (.claimLapse lot ix) s = .next (settle s
          (sight (changed lot ix fun y => { y with state := .seen, marked := false })
            (s.setNow n)))))) ∧
    (∀ names,
      let hits (l : LotRecord) (x : StoredHold) : Prop := x.hold.state = .inForce ∧
        (x.hold.scope = .lot ∧ x.hold.key = l.lotId ∨ x.hold.scope = .product ∧ x.hold.key = l.product ∨
          x.hold.scope = .group ∧ x.hold.key = l.group ∧ l.group ≠ 0 ∨
          x.hold.scope = .program ∧ x.hold.key = l.program)
      (∀ l, lotMatched s.holds (queryOf l) = true ↔ ∃ x ∈ s.holds.records, hits l x) ∧
      ∃ act : Option ActiveLot,
        notice names s =
          (s.cell.queue.filter fun q => s.holds.overflow || lotMatched s.holds (queryOf q.lot)).foldl
            (fun u q => raise (.lotLost q.lot.lotId q.lot.index none)
              (sendTo q.stage (.return_ q.lot.lotId q.lot.index .held) u))
            (s.setCell { s.cell with
              sightings := s.cell.sightings.filter fun x => !lotMatched s.holds (queryOf x.lot),
              queue := s.cell.queue.filter fun q =>
                !(s.holds.overflow || lotMatched s.holds (queryOf q.lot)),
              active := act }) ∧
        (s.cell.active = none → act = none) ∧
        (∀ a, s.cell.active = some a → ∃ m, act = some { a with reasons := m } ∧
          (a.phase = .finished → m = a.reasons) ∧
          (a.phase ≠ .finished → ∀ r : HoldReason, (m &&& reasonBit r ≠ 0#16 ↔
            a.reasons &&& reasonBit r ≠ 0#16 ∨
              ∃ x ∈ s.holds.records, hits a.lot x ∧ x.hold.reason = r))))

/-- The done outbox: a DONE-TAKEN from the pack station a record names removes it, and the delivery
timer's expiry sends the LOT-DONE of the oldest record, and of two or more also that of the one after
the record with the delivery mark, wrapping from the newest to the second-oldest, which takes the mark.
A record removed with the mark passes it to the one made just before it, and a record waiting in the
active slot takes the place set free; any other DONE-TAKEN is ignored (R70, R73). The clock at the
expiries, and that a send is counted whether or not the queue had room, are the model's choice (log
entries 3 and 31). -/
def Obligations.OutboxDeliversAndRetires : Prop :=
  ∀ s : State, s.start.role = .cell →
    (∀ h lot ix r, Arrives h (.doneTaken lot ix) s → s.isActive = true →
      s.cell.outbox = [r] → isRecordOf r.record lot ix = true → r.record.packStation = h.source →
      (∀ a, s.cell.active = some a → a.waiting = none) →
      exec (.doneTaken h lot ix) s = .next (settle s ((heard h s).setCell { s.cell with
        outbox := [], deliveryTimer := none }))) ∧
    (∀ d r, s.pins.inReset = false → s.cell.deliveryTimer = some d → s.cell.outbox = [r] →
      exec .deliveryTimerExpiry s = .next (settle s
        ((sendAll (.lotDone r.record) (s.setNow (max s.now d))).setCell { s.cell with
          outbox := [{ r with sent := min (r.sent + 1) 255 }],
          deliveryTimer := some (max s.now d + s.start.config.beaconInterval * 1000) }))) ∧
    (∀ d r q, s.pins.inReset = false → s.cell.deliveryTimer = some d → s.cell.outbox = [r, q] →
      exec .deliveryTimerExpiry s = .next (settle s
        ((sendAll (.lotDone q.record)
            (sendAll (.lotDone r.record) (s.setNow (max s.now d)))).setCell { s.cell with
          outbox := [{ r with sent := min (r.sent + 1) 255, mark := false },
                     { q with sent := min (q.sent + 1) 255, mark := true }],
          deliveryTimer := some (max s.now d + s.start.config.beaconInterval * 1000) }))) ∧
    (∀ d i r q xs, s.pins.inReset = false → s.cell.deliveryTimer = some d → s.cell.outbox = xs →
      2 ≤ xs.length → xs[0]? = some r → xs[i]? = some q →
      ((∀ x ∈ xs, x.mark = false) ∧ i = 1 ∨
        ∃ k m, xs[k]? = some m ∧ m.mark = true ∧
          (∀ j x, j < k → xs[j]? = some x → x.mark = false) ∧
          i = if k + 1 < xs.length then k + 1 else 1) →
      exec .deliveryTimerExpiry s = .next (settle s
        ((sendAll (.lotDone q.record)
            (sendAll (.lotDone r.record) (s.setNow (max s.now d)))).setCell { s.cell with
          outbox := xs.zipIdx.map fun p => { p.1 with
            sent := if p.2 = 0 ∨ p.2 = i then min (p.1.sent + 1) 255 else p.1.sent,
            mark := p.2 == i },
          deliveryTimer := some (max s.now d + s.start.config.beaconInterval * 1000) }))) ∧
    (∀ h lot ix i r, Arrives h (.doneTaken lot ix) s → s.isActive = true →
      s.cell.outbox[i]? = some r → isRecordOf r.record lot ix = true →
      r.record.packStation = h.source →
      (∀ j x, j < i → s.cell.outbox[j]? = some x → isRecordOf x.record lot ix = false) →
      2 ≤ s.cell.outbox.length → s.cell.outbox.length ≤ 8 →
      let rest := if r.mark = true ∧ 0 < i
        then (s.cell.outbox.eraseIdx i).zipIdx.map fun p => { p.1 with mark := p.2 == i - 1 }
        else s.cell.outbox.eraseIdx i
      ((∀ a, s.cell.active = some a → a.waiting = none) →
        exec (.doneTaken h lot ix) s = .next (settle s ((heard h s).setCell { s.cell with
          outbox := rest }))) ∧
      (∀ a c, s.cell.active = some a → a.waiting = some c →
        (∀ x ∈ rest, isRecordOf x.record c.lotId c.index = false) →
        exec (.doneTaken h lot ix) s = .next (settle s ((heard h s).setCell { s.cell with
          active := some { a with waiting := none },
          outbox := rest ++ [{ record := c, sent := 0, mark := false }] })))) ∧
    (∀ h lot ix, Arrives h (.doneTaken lot ix) s → s.isActive = true →
      (∀ x ∈ s.cell.outbox,
        isRecordOf x.record lot ix = false ∨ x.record.packStation ≠ h.source) →
      exec (.doneTaken h lot ix) s = .next (settle s (heard h s)))

/-- The search for a handler: REQUEST HANDLER, the candidate list, RESERVE to the first candidate, the
next one or NO_HANDLER, RESERVED, and its end; and the idle timer and the spacing (R75 to R77).
HANDLER-WANTED goes to the four lowest zones of the mask, and an empty mask raises NO_HANDLER at once. The
candidate list keeps its order and the best four. At the end of an event of an ACTIVE CELL the conditions
of the automatic HANDLER-WANTED no longer all stand: when they do, it is sent as REQUEST HANDLER sends it,
for the first of the sightings that call for a handler; and the idle timer starts in a cell found idle and is
cancelled in one that is not. That they are tested there, and the field that
keeps the idle timer's expiry, are the model's reading (log entry 10). The clock at the expiries is its
choice (log entry 3). -/
def Obligations.FindingAndReservingAHandler : Prop :=
  ∀ s : State, s.pins.inReset = false → s.start.role = .cell →
    let with_ (r : Reservation) (u : State) : State := u.setCell { s.cell with reservation := r }
    let bindMs := s.start.config.bindTimeout
    (∀ k t, PortTakes (.requestHandler k t) s →
      (∀ n f d, s.cell.reservation = .reserved n f d →
        exec (.requestHandler k t) s = .next (settle s (setOutcome (.refused .reserved) 0x42 s))) ∧
      (s.cell.reservation = .none → s.start.config.zoneMask = 0x0002#16 →
        exec (.requestHandler k t) s = .next (settle s (setOutcome (.done []) 0x42
          ((sendZone 1 (.handlerWanted k t) s).setCell { s.cell with
            wantedSpacing := some (s.now + 6 * (s.start.config.beaconInterval * 1000)),
            reservation :=
              .collecting k t [] (some (s.now + s.start.config.contestWindow)) }))))) ∧
    (∀ h f m k t tm, Arrives h (.handlerAvailable f m) s → s.isLive = true →
      s.cell.reservation = .collecting k t [] tm →
      exec (.handlerAvailable h f m) s = .next (settle s
        (with_ (.collecting k t [{ handler := h.source, fit := f, idle := m }] tm) (heard h s)))) ∧
    (∀ k t c cs d, s.cell.reservation = .collecting k t (c :: cs) (some d) →
      exec .replyWindowExpiry s = .next (settle s
        (with_ (.reserving k t c.handler (c :: cs) (some (max s.now d + bindMs)))
          (sendTo c.handler .reserve (s.setNow (max s.now d)))))) ∧
    (∀ k t d, s.cell.reservation = .collecting k t [] (some d) →
      exec .replyWindowExpiry s = .next (settle s
        (raise (.noHandler k t) (with_ .none (s.setNow (max s.now d)))))) ∧
    (∀ k t c b cs d, c.handler ≠ b.handler → (∀ x ∈ cs, x.handler ≠ c.handler) →
      s.cell.reservation = .reserving k t c.handler (c :: b :: cs) (some d) →
      exec .replyTimerExpiry s = .next (settle s
        (with_ (.reserving k t b.handler (b :: cs) (some (max s.now d + bindMs)))
          (sendTo b.handler .reserve (s.setNow (max s.now d)))))) ∧
    (∀ h m k t c cs tm, Arrives h (.reserveReply .ok m) s → s.isLive = true →
      s.cell.reservation = .reserving k t c.handler (c :: cs) tm → c.handler = h.source →
      exec (.reserveReply h .ok m) s = .next (settle s (raise (.handlerReserved h.source)
        (with_ (.reserved h.source c.fit (some (s.now + m * 60000))) (heard h s))))) ∧
    (∀ n f d, s.cell.reservation = .reserved n f (some d) →
      exec .cellReservationDeadline s = .next (settle s (raise (.reservationLapsed n)
        (with_ .none (s.setNow (max s.now d)))))) ∧
    (∀ d, s.cell.idleTimer = some d →
      exec .idleTimerExpiry s = .next (settle s ((s.setNow (max s.now d)).setCell { s.cell with
        idleTimer := none, idleElapsed := true }))) ∧
    (∀ d, s.cell.wantedSpacing = some d →
      exec .handlerWantedSpacingExpiry s = .next (settle s
        ((s.setNow (max s.now d)).setCell { s.cell with wantedSpacing := none }))) ∧
    (∀ k t, PortTakes (.requestHandler k t) s →
      (∀ a b cs m n, s.cell.reservation = .collecting a b cs m ∨
          s.cell.reservation = .reserving a b n cs m →
        exec (.requestHandler k t) s = .next (settle s (setOutcome (.refused .busy) 0x42 s))) ∧
      (s.cell.reservation = .none →
        let zones := ((List.range 16).filter s.start.config.zoneMask.getLsbD).take 4
        let spaced := some (s.now + 6 * (s.start.config.beaconInterval * 1000))
        (zones = [] → exec (.requestHandler k t) s = .next (settle s (setOutcome (.done []) 0x42
          (raise (.noHandler k t) (s.setCell { s.cell with wantedSpacing := spaced }))))) ∧
        (zones ≠ [] → exec (.requestHandler k t) s = .next (settle s (setOutcome (.done []) 0x42
          ((zones.foldl (fun u z => sendZone z (.handlerWanted k t) u) s).setCell { s.cell with
            wantedSpacing := spaced,
            reservation :=
              .collecting k t [] (some (s.now + s.start.config.contestWindow)) })))))) ∧
    (∀ h f m, Arrives h (.handlerAvailable f m) s → s.isLive = true →
      let before (a b : Candidate) : Prop := b.idle < a.idle ∨ a.idle = b.idle ∧ a.handler < b.handler
      let new : Candidate := { handler := h.source, fit := f, idle := m }
      (∀ k t cs tm, s.cell.reservation = .collecting k t cs tm → cs.Pairwise before →
        cs.length ≤ 4 →
        let offered := new :: cs.filter fun c => c.handler != h.source
        ∃ cs', exec (.handlerAvailable h f m) s =
            .next (settle s (with_ (.collecting k t cs' tm) (heard h s))) ∧
          cs'.Pairwise before ∧ cs'.length = min 4 offered.length ∧ (∀ x ∈ cs', x ∈ offered) ∧
          ∀ x ∈ offered, x ∉ cs' → ∀ y ∈ cs', before y x) ∧
      ((∀ k t cs tm, s.cell.reservation ≠ .collecting k t cs tm) →
        exec (.handlerAvailable h f m) s = .next (settle s (heard h s)))) ∧
    (∀ h m k t c cs tm r, Arrives h (.reserveReply r m) s → s.isLive = true → r ≠ .ok →
      s.cell.reservation = .reserving k t h.source cs tm →
      (cs.filter fun x => x.handler != h.source) = c →
      (c = [] → exec (.reserveReply h r m) s = .next (settle s
        (raise (.noHandler k t) (with_ .none (heard h s))))) ∧
      (∀ b rest, c = b :: rest → exec (.reserveReply h r m) s = .next (settle s
        (with_ (.reserving k t b.handler c (some (s.now + bindMs)))
          (sendTo b.handler .reserve (heard h s)))))) ∧
    (∀ k t n cs d, s.cell.reservation = .reserving k t n cs (some d) →
      (∀ x ∈ cs, x.handler = n) →
      exec .replyTimerExpiry s = .next (settle s
        (raise (.noHandler k t) (with_ .none (s.setNow (max s.now d)))))) ∧
    (∀ h m r, Arrives h (.reserveReply r m) s → s.isLive = true →
      (∀ n f d, s.cell.reservation = .reserved n f d →
        (n = h.source → r = .lapsed → exec (.reserveReply h r m) s = .next (settle s
          (raise (.reservationLapsed n) (with_ .none (heard h s))))) ∧
        (n ≠ h.source ∨ r ≠ .lapsed →
          exec (.reserveReply h r m) s = .next (settle s (heard h s)))) ∧
      (∀ k t n cs tm, s.cell.reservation = .none ∨ s.cell.reservation = .collecting k t cs tm ∨
          s.cell.reservation = .reserving k t n cs tm ∧ n ≠ h.source →
        exec (.reserveReply h r m) s = .next (settle s (heard h s)))) ∧
    (s.isActive = true →
      let calls (x : Sighting) : Prop :=
        x.result = .noHandler ∨ x.result = .kit ∨ x.result = .temperature
      let stands (u : State) : Prop := u.cell.reservation = .none ∧
        (∀ d, u.cell.wantedSpacing = some d → d ≤ u.now) ∧
        (u.cell.binding.state = .none ∨ u.cell.idleElapsed = true)
      let first (x y : Sighting) : Prop := y.lot.priority < x.lot.priority ∨
        y.lot.priority = x.lot.priority ∧ (s.age y.firstHeard < s.age x.firstHeard ∨
          s.age y.firstHeard = s.age x.firstHeard ∧ (x.lot.lotId < y.lot.lotId ∨
            x.lot.lotId = y.lot.lotId ∧ x.lot.index < y.lot.index))
      (∀ x ∈ s.cell.sightings, calls x → stands s →
        (∀ y ∈ s.cell.sightings, calls y → y = x ∨ first x y) →
        wantedTest s = (requestHandler x.lot.kit x.lot.temp s).1) ∧
      (¬stands s ∨ (∀ x ∈ s.cell.sightings, ¬calls x) → wantedTest s = s) ∧
      ∀ before, 0 < s.start.config.beaconInterval →
        ¬(stands (settle before s) ∧ ∃ x ∈ (settle before s).cell.sightings, calls x)) ∧
    (∀ before,
      let c := (settle before s).cell
      let threshold := s.start.config.idleThreshold
      let idle : Prop := s.cell.active = none ∧ s.cell.queue = []
      let kept : Prop := c.idleTimer = s.cell.idleTimer ∧ c.idleElapsed = s.cell.idleElapsed
      (s.isActive = false → kept) ∧
      (s.isActive = true → ¬idle → c.idleTimer = none ∧ c.idleElapsed = false) ∧
      (s.isActive = true → idle →
        (s.cell.idleTimer = none → s.cell.idleElapsed = false → threshold ≠ 0 →
          c.idleTimer = some (s.now + threshold * 1000) ∧ c.idleElapsed = false) ∧
        (s.cell.idleTimer ≠ none ∨ s.cell.idleElapsed = true ∨ threshold = 0 → kept)))

/-- The binding part: DOCK sends BIND-REQ, expecting the kit of a reservation on the handler;
BIND-REPLY(OK) binds with BIND-CONFIRM and settles the reservation, BUSY and MISMATCH end the attempt; the
bind timer fails a first bind and takes a rebind back; UNDOCK and an UNBIND end the binding, or the
attempt; a HANDLER-STATUS of a handler the part does not know is answered with UNBIND(UNDOCK); and the
permit timer repeats the PERMIT, in its idle form with no lot active (R68, R87 to R91). A handler that is
lost leaves the part ORPHANED, one that is back is bound again, and one that restarts ends it; the
sightings of a peer that restarts go (R57, R92), a reservation on it ends, and as a candidate, bound or
not, it leaves the list, the one being tried as by a BUSY reply (R76, R77). The clock at the expiries (log
entry 3), that the reached temperature goes with the binding (log entry 23), the zeros of the copy in a
first BINDING (log entry 40), that MISMATCH on a rebind is taken as BUSY and that an UNBIND that ends a
rebind raises nothing (log entry 22), a status in ORPHANED ignored (log entry 21), the reservation
part acting before the binding part (log entry 45), and the refusal CONTENT of the own number before
HANDLER_PRESENT and BUSY (log entry 51), are the model's. -/
def Obligations.BindingPartMoves : Prop :=
  ∀ s : State, s.pins.inReset = false → s.start.role = .cell →
    let ended (u : State) : State := u.setCell { s.cell with
      binding := BindingPart.none, ready := false, reached := none, mask := 0,
      marks := List.replicate 8 SiteStatus.up, permitTimer := none }
    let interval := s.start.config.beaconInterval * 1000
    (∀ n, PortTakes (.dock n) s → n ≠ s.start.number → s.cell.binding.state = .none →
      s.cell.reservation = .none →
      exec (.dock n) s = .next (settle s (setOutcome (.done []) 0x40
        ((sendTo n (.bindReq 0) s).setCell { s.cell with
          binding := { state := .binding, handler := n, fit := HandlerFit.none, mask := 0,
                       timer := some (s.now + s.start.config.bindTimeout), prev := .none,
                       first := true } })))) ∧
    (∀ n, PortTakes (.dock n) s → n ≠ s.start.number →
      s.cell.binding.state = .bound ∨ s.cell.binding.state = .orphaned →
      exec (.dock n) s = .next (settle s (setOutcome (.refused .handlerPresent) 0x40 s))) ∧
    (∀ n, PortTakes (.dock n) s →
      (n = s.start.number →
        exec (.dock n) s = .next (settle s (setOutcome (.refused .content) 0x40 s))) ∧
      (n ≠ s.start.number → s.cell.binding.state = .binding →
        exec (.dock n) s = .next (settle s (setOutcome (.refused .busy) 0x40 s))) ∧
      (n ≠ s.start.number → s.cell.binding.state = .none → ∀ kit,
        ((∃ f d, s.cell.reservation = .reserved n f d ∧ kit = f.kit) ∨
          kit = 0 ∧ ∀ f d, s.cell.reservation ≠ .reserved n f d) →
        exec (.dock n) s = .next (settle s (setOutcome (.done []) 0x40
          ((sendTo n (.bindReq kit) s).setCell { s.cell with
            binding := { state := .binding, handler := n, fit := HandlerFit.none, mask := 0,
                         timer := some (s.now + s.start.config.bindTimeout), prev := .none,
                         first := true } }))))) ∧
    (∀ h f m, Arrives h (.bindReply .ok f m) s → s.isLive = true →
      s.cell.binding.state = .binding → s.cell.binding.handler = h.source →
      s.cell.reservation = .none →
      exec (.bindReply h .ok f m) s = .next (settle s (raise (.bound h.source)
        ((sendTo h.source (.bindConfirm f.kit f.sites) (heard h s)).setCell { s.cell with
          binding := { state := .bound, handler := h.source, fit := f, mask := m, timer := none,
                       prev := .none, first := false },
          ready := false, permitTimer := some (s.now + interval) })))) ∧
    (∀ h f m, Arrives h (.bindReply .ok f m) s → s.isLive = true →
      s.cell.binding.state = .binding → s.cell.binding.handler = h.source →
      let bound (r : Reservation) (u : State) : State := u.setCell { s.cell with
        binding := { state := .bound, handler := h.source, fit := f, mask := m, timer := none,
                     prev := .none, first := false },
        ready := false, permitTimer := some (s.now + interval), reservation := r }
      let settled (r : Reservation) (last : State → State) : Prop :=
        exec (.bindReply h .ok f m) s = .next (settle s (bound r (last (raise (.bound h.source)
          (sendTo h.source (.bindConfirm f.kit f.sites) (heard h s))))))
      (∀ g d, s.cell.reservation = .reserved h.source g d → settled .none id) ∧
      (∀ j g d, s.cell.reservation = .reserved j g d → j ≠ h.source →
        settled .none (sendTo j (.unbind .cancel))) ∧
      ((∀ j g d, s.cell.reservation ≠ .reserved j g d) → settled s.cell.reservation id)) ∧
    (∀ h r f m, Arrives h (.bindReply r f m) s → s.isLive = true →
      (r ≠ .ok → s.cell.binding.state = .binding → s.cell.binding.handler = h.source →
        (s.cell.binding.first = true → exec (.bindReply h r f m) s = .next (settle s
          (raise (.cellBindFailed h.source (if r = .busy then 1 else 2) f.kit) (ended (heard h s))))) ∧
        (s.cell.binding.first = false → exec (.bindReply h r f m) s = .next (settle s
          (raise (.unbound h.source 2) (ended (heard h s)))))) ∧
      (s.cell.binding.state ≠ .binding ∨ s.cell.binding.handler ≠ h.source →
        exec (.bindReply h r f m) s = .next (settle s (heard h s)))) ∧
    (∀ d, s.cell.binding.state = .binding → s.cell.binding.timer = some d →
      s.cell.binding.first = false →
      exec .cellBindTimerExpiry s = .next (settle s
        ((sendTo s.cell.binding.handler (.unbind .timeout) (s.setNow (max s.now d))).setCell
          { s.cell with
            binding := { s.cell.binding with
              state := s.cell.binding.prev, timer := none, prev := .none },
            ready := false,
            permitTimer := if s.cell.binding.prev = .bound then some (max s.now d + interval)
              else none }))) ∧
    (∀ d, s.cell.binding.state = .binding → s.cell.binding.timer = some d →
      s.cell.binding.first = true →
      exec .cellBindTimerExpiry s = .next (settle s
        (raise (.cellBindFailed s.cell.binding.handler 3 0)
          (ended (sendTo s.cell.binding.handler (.unbind .timeout) (s.setNow (max s.now d))))))) ∧
    (PortTakes .undock s → s.cell.binding.state ≠ .none → s.cell.reservation = .none →
      exec .undock s = .next (settle s (setOutcome (.done []) 0x41
        (raise (.unbound s.cell.binding.handler 0)
          (ended (sendTo s.cell.binding.handler (.unbind .undock) s)))))) ∧
    (PortTakes .undock s → s.cell.binding.state ≠ .none →
      let left (r : Reservation) : Prop :=
        exec .undock s = .next (settle s (setOutcome (.done []) 0x41
          ((raise (.unbound s.cell.binding.handler 0)
            (sendTo s.cell.binding.handler (.unbind .undock) s)).setCell { s.cell with
              binding := BindingPart.none, ready := false, reached := none, mask := 0,
              marks := List.replicate 8 SiteStatus.up, permitTimer := none, reservation := r })))
      (∀ f d, s.cell.reservation = .reserved s.cell.binding.handler f d → left .none) ∧
      ((∀ f d, s.cell.reservation ≠ .reserved s.cell.binding.handler f d) →
        left s.cell.reservation)) ∧
    (PortTakes .undock s → s.cell.binding.state = .none →
      exec .undock s = .next (settle s (setOutcome (.refused .notBound) 0x41 s))) ∧
    (∀ h, Arrives h (.unbind .undock) s → s.isLive = true → s.cell.binding.handler = h.source →
      s.cell.binding.state = .bound ∨ s.cell.binding.state = .orphaned →
      exec (.unbind h .undock) s = .next (settle s (raise (.unbound h.source 0)
        (ended (heard h s))))) ∧
    (∀ h r, Arrives h (.unbind r) s → s.isLive = true →
      let unbinds (u : State) : Prop := exec (.unbind h r) s = .next (settle s u)
      (s.cell.binding.handler = h.source →
        (s.cell.binding.state = .bound ∨ s.cell.binding.state = .orphaned →
          unbinds (raise (.unbound h.source
            (match r with | .undock => 0 | .cancel => 1 | .timeout => 2)) (ended (heard h s)))) ∧
        (s.cell.binding.state = .binding → s.cell.binding.first = true →
          unbinds (raise (.cellBindFailed h.source 3 0) (ended (heard h s)))) ∧
        (s.cell.binding.state = .binding → s.cell.binding.first = false →
          unbinds (ended (heard h s)))) ∧
      (s.cell.binding.state = .none ∨ s.cell.binding.handler ≠ h.source → unbinds (heard h s))) ∧
    (∀ h b, Arrives h (.handlerStatus b) s → s.isActive = true →
      (s.cell.binding.state = .none ∨ s.cell.binding.handler ≠ h.source →
        exec (.handlerStatus h b) s = .next (settle s
          (sendTo h.source (.unbind .undock) (heard h s)))) ∧
      (s.cell.binding.state = .orphaned → s.cell.binding.handler = h.source →
        exec (.handlerStatus h b) s = .next (settle s (heard h s)))) ∧
    (∀ d a, s.cell.permitTimer = some d → s.cell.active = some a →
      exec .permitTimerExpiry s = .next (settle s
        ((sendTo s.cell.binding.handler (.permit (permitNow s)) (s.setNow (max s.now d))).setCell
          { s.cell with active := some { a with lastPermit := some (permitNow s) },
                        permitTimer := some (max s.now d + interval) }))) ∧
    (∀ d, s.cell.permitTimer = some d → s.cell.active = none →
      exec .permitTimerExpiry s = .next (settle s
        ((sendTo s.cell.binding.handler
            (.permit { run := false, lotId := 0, index := 0, kit := 0, temp := 0 })
            (s.setNow (max s.now d))).setCell
          { s.cell with permitTimer := some (max s.now d + interval) }))) ∧
    (s.isLive = true → s.cell.binding.handler ≠ 0 →
      let n := s.cell.binding.handler
      let kept := s.cell.sightings.filter fun x => x.stage != n
      let without (b : BindingPart) : State :=
        s.setCell { s.cell with sightings := kept, binding := b, ready := false, permitTimer := none }
      (s.cell.reservation = .none → s.cell.binding.state = .bound →
        roleLost n s = without { s.cell.binding with state := .orphaned }) ∧
      (s.cell.reservation = .none →
        s.cell.binding.state = .binding ∨ s.cell.binding.state = .orphaned →
        roleLost n s = s.setCell { s.cell with sightings := kept }) ∧
      (∀ f d, s.cell.reservation = .none ∨ s.cell.reservation = .reserved n f d →
        let ended_ : State := s.setCell { s.cell with
          sightings := kept, reservation := .none, binding := BindingPart.none, ready := false,
          reached := none, mask := 0, marks := List.replicate 8 SiteStatus.up, permitTimer := none }
        (s.cell.binding.state = .bound ∨ s.cell.binding.state = .orphaned ∨
            s.cell.binding.state = .binding ∧ s.cell.binding.first = false →
          roleRestart n s = raise (.unbound n 3) ended_) ∧
        (s.cell.binding.state = .binding → s.cell.binding.first = true →
          roleRestart n s = raise (.cellBindFailed n 4 0) ended_)) ∧
      (∀ k p cs m, s.cell.reservation = .reserving k p n cs m → (∀ c ∈ cs, c.handler = n) →
        s.cell.binding.state = .bound ∨ s.cell.binding.state = .orphaned →
        roleRestart n s = (raise (.unbound n 3) (raise (.noHandler k p) s)).setCell { s.cell with
          sightings := kept, reservation := .none, binding := BindingPart.none, ready := false,
          reached := none, mask := 0, marks := List.replicate 8 SiteStatus.up,
          permitTimer := none }) ∧
      (s.cell.binding.state = .orphaned →
        roleBack n s = (sendTo n (.bindReq 0) s).setCell { s.cell with
          binding := { s.cell.binding with
            state := .binding, prev := .orphaned, first := false,
            timer := some (s.now + s.start.config.bindTimeout) },
          ready := false, permitTimer := none }) ∧
      (s.cell.binding.state = .binding ∨ s.cell.binding.state = .bound → roleBack n s = s)) ∧
    (∀ n, s.isLive = true → s.cell.binding.handler ≠ n → s.cell.reservation = .none →
      roleRestart n s = s.setCell { s.cell with
        sightings := s.cell.sightings.filter fun x => x.stage != n } ∧ roleBack n s = s) ∧
    (∀ n, s.isLive = true →
      let gone (r : Reservation) : State := s.setCell { s.cell with
        sightings := s.cell.sightings.filter fun x => x.stage != n, reservation := r }
      let searched (u : State) : Prop :=
        let ended_ : State := u.setCell { u.cell with
          binding := BindingPart.none, ready := false, reached := none, mask := 0,
          marks := List.replicate 8 SiteStatus.up, permitTimer := none }
        (s.cell.binding.handler ≠ n ∨ s.cell.binding.state = .none → roleRestart n s = u) ∧
        (s.cell.binding.handler = n →
          (s.cell.binding.state = .bound ∨ s.cell.binding.state = .orphaned ∨
              s.cell.binding.state = .binding ∧ s.cell.binding.first = false →
            roleRestart n s = raise (.unbound n 3) ended_) ∧
          (s.cell.binding.state = .binding → s.cell.binding.first = true →
            roleRestart n s = raise (.cellBindFailed n 4 0) ended_))
      (s.cell.binding.handler ≠ n → roleBack n s = s) ∧
      (s.cell.reservation = .none → searched (gone .none)) ∧
      (∀ k p cs m, s.cell.reservation = .collecting k p cs m →
        searched (gone (.collecting k p (cs.filter fun c => c.handler != n) m))) ∧
      (∀ k p j cs m, s.cell.reservation = .reserving k p j cs m → j ≠ n →
        searched (gone (.reserving k p j (cs.filter fun c => c.handler != n) m))) ∧
      (∀ k p cs m, s.cell.reservation = .reserving k p n cs m →
        ((∀ c ∈ cs, c.handler = n) → searched (raise (.noHandler k p) (gone .none))) ∧
        (∀ c rest, (cs.filter fun x => x.handler != n) = c :: rest →
          searched (sendTo c.handler .reserve (gone (.reserving k p c.handler (c :: rest)
            (some (s.now + s.start.config.bindTimeout))))))) ∧
      (∀ j f m, s.cell.reservation = .reserved j f m →
        searched (gone (if j = n then .none else .reserved j f m))))

/-- UNQUEUE returns a queued lot to its STAGE with RETURN(OPERATOR), and LOT LOADED makes a queued lot
active in pass 1 with every count at 0 under its product's limits or the default ones; a lot not in the
queue is refused NOT_QUEUED, and LOT LOADED with a lot active BUSY (R65, R66, R115). -/
def Obligations.QueuedLotsAreReturnedOrLoaded : Prop :=
  ∀ (lot ix : Nat) (s : State), PortTakes (.unqueue lot ix) s →
    let rest := s.cell.queue.filter fun y => !isLot y.lot lot ix
    (inQueue s.cell lot ix = false →
      exec (.unqueue lot ix) s = .next (settle s (setOutcome (.refused .notQueued) 0x43 s)) ∧
      exec (.lotLoaded lot ix) s = .next (settle s (setOutcome (.refused .notQueued) 0x44 s))) ∧
    (∀ q, (s.cell.queue.filter fun y => isLot y.lot lot ix) = [q] →
      exec (.unqueue lot ix) s = .next (settle s (setOutcome (.done (be1 rest.length)) 0x43
        ((sendTo q.stage (.return_ lot ix .operator) s).setCell { s.cell with queue := rest }))) ∧
      (∀ a, s.cell.active = some a →
        exec (.lotLoaded lot ix) s = .next (settle s (setOutcome (.refused .busy) 0x44 s))) ∧
      (s.cell.active = none → ∀ src lim,
        (src = .product ∧ (q.lot.product, lim) ∈ s.limits.products ∧
            (∀ p ∈ s.limits.products, p.1 = q.lot.product → p.2 = lim) ∨
          src = .default ∧ lim = s.limits.default ∧
            ∀ p ∈ s.limits.products, p.1 ≠ q.lot.product) →
        exec (.lotLoaded lot ix) s = .next (settle s (setOutcome
          (.done (be1 (limitSourceCode src))) 0x44 (s.setCell { s.cell with
            queue := rest, ready := false,
            active := some
              { lot := q.lot, stage := q.stage, phase := .inPass, readySeen := false,
                lastPermit := none, waiting := none, source := src, limits := lim, pass := 1,
                allowance := lim.passes, tested := 0, bins := List.replicate 16 0, pool := 0,
                unretested := 0, excess := 0,
                sites := List.replicate 8 { tested := 0, good := 0, run := 0 }, reasons := 0,
                suppressed := 0, jamArmed := false } })))))

/-! ## The yield guard -/

/-- END PASS by the lot's state, and the judgment of a running lot: with T = 0 a NO_UNITS hold; finished
when the yield reaches LYF, with its completion record in the outbox, or waiting in the slot for a place
in a full one; else a retest pass while the allowance and the pool let one start, else a FINAL_YIELD hold;
LOT UNLOADED frees the slot of a finished lot, finishes a HELD lot with result HELD while the outbox has a
place, and is refused otherwise (R69 to R71, R131, R132, R136). A lot whose record is already in the outbox
has it replaced in its place, with its delivery mark (R70); that the new record's sends count from 0 is the
model's reading (log entry 31). That the slot of a finished lot is freed also when DONE-TAKEN has already
removed its record, which R71 does not name, is the model's choice (log entry 50). -/
def Obligations.PassesEndAndLotsAreUnloaded : Prop :=
  ∀ s : State, PortTakes .endPass s →
    (s.cell.active = none →
      exec .endPass s = .next (settle s (setOutcome (.refused .notRunning) 0x46 s)) ∧
      exec .lotUnloaded s = .next (settle s (setOutcome (.refused .state) 0x47 s))) ∧
    (∀ a, s.cell.active = some a →
      let record (r : CompletionResult) : Completion :=
        { lotId := a.lot.lotId, index := a.lot.index, count := a.lot.count,
          product := a.lot.product, program := a.lot.program, quantity := a.lot.quantity,
          packStation := a.lot.packStation, cell := s.start.number, tested := a.tested,
          good := goodCount a.bins a.limits.good, unretested := a.pool,
          excess := a.excess, passes := a.pass, result := r, reasons := a.reasons }
      let held (r : HoldReason) : State := (placeHold .lot a.lot.lotId r 0 0 (s.setCell { s.cell with
        active := some { a with
          unretested := a.pool, phase := .awaiting, reasons := a.reasons ||| reasonBit r } })).1
      (lotState s a = .finished ∨ lotState s a = .setup →
        exec .endPass s = .next (settle s (setOutcome (.refused .notRunning) 0x46 s))) ∧
      (lotState s a = .held →
        exec .endPass s = .next (settle s (setOutcome (.refused .held) 0x46 s))) ∧
      (lotState s a = .running ∨ lotState s a = .paused → a.tested ≠ 0 →
        a.limits.lyf ≤ 4096 * goodCount a.bins a.limits.good / a.tested →
        s.cell.outbox.length < 8 → outboxHas s.cell a.lot.lotId a.lot.index = false →
        exec .endPass s = .next (settle s (setOutcome (.done (be1 0 ++ be1 a.pass)) 0x46
          (raise (.cellFinished a.lot.lotId a.lot.index .passed) (s.setCell { s.cell with
            active := some { a with phase := .finished, unretested := a.pool },
            deliveryTimer := if s.cell.outbox.isEmpty then some s.now else s.cell.deliveryTimer,
            outbox := s.cell.outbox ++ [{ record := record .passed, sent := 0, mark := false }] }))))) ∧
      (lotState s a = .running ∨ lotState s a = .paused → a.tested ≠ 0 →
        a.limits.lyf ≤ 4096 * goodCount a.bins a.limits.good / a.tested →
        8 ≤ s.cell.outbox.length → outboxHas s.cell a.lot.lotId a.lot.index = false →
        exec .endPass s = .next (settle s (setOutcome (.done (be1 0 ++ be1 a.pass)) 0x46
          (raise (.cellFinished a.lot.lotId a.lot.index .passed) (s.setCell { s.cell with
            active := some { a with
              phase := .finished, unretested := a.pool, waiting := some (record .passed) } }))))) ∧
      (lotState s a = .running ∨ lotState s a = .paused → a.tested ≠ 0 →
        4096 * goodCount a.bins a.limits.good / a.tested < a.limits.lyf →
        a.pass ≤ a.allowance → 0 < a.pool + goodCount a.bins a.limits.retestable → a.pass < 255 →
        exec .endPass s = .next (settle s (setOutcome (.done (be1 1 ++ be1 (a.pass + 1))) 0x46
          (raise (.retestStarted a.lot.lotId a.lot.index (a.pass + 1)
              (a.pool + goodCount a.bins a.limits.retestable)) (s.setCell { s.cell with
            ready := false,
            active := some { a with
              unretested := a.pool, pass := a.pass + 1,
              pool := a.pool + goodCount a.bins a.limits.retestable,
              bins := (a.bins.zipIdx 1).map fun x =>
                if maskHas a.limits.retestable x.2 then 0 else x.1,
              sites := List.replicate 8 { tested := 0, good := 0, run := 0 }, suppressed := 0,
              phase := .inPass, readySeen := false } }))))) ∧
      (lotState s a = .running ∨ lotState s a = .paused → a.tested = 0 →
        exec .endPass s = .next (settle s (setOutcome (.done (be1 2 ++ be1 a.pass)) 0x46
          (held .noUnits)))) ∧
      (lotState s a = .running ∨ lotState s a = .paused → a.tested ≠ 0 →
        4096 * goodCount a.bins a.limits.good / a.tested < a.limits.lyf →
        (a.allowance < a.pass ∨ a.pool + goodCount a.bins a.limits.retestable = 0) →
        exec .endPass s = .next (settle s (setOutcome (.done (be1 2 ++ be1 a.pass)) 0x46
          (held .finalYield)))) ∧
      (lotState s a = .held → s.cell.outbox.length < 8 →
        outboxHas s.cell a.lot.lotId a.lot.index = false →
        exec .lotUnloaded s = .next (settle s (setOutcome (.done []) 0x47
          (raise (.cellFinished a.lot.lotId a.lot.index .held) (s.setCell { s.cell with
            active := none,
            deliveryTimer := if s.cell.outbox.isEmpty then some s.now else s.cell.deliveryTimer,
            outbox := s.cell.outbox ++ [{ record := record .held, sent := 0, mark := false }] }))))) ∧
      (let replaced (r : CompletionResult) : List OutboxRecord := s.cell.outbox.map fun x =>
          if x.record.lotId = a.lot.lotId ∧ x.record.index = a.lot.index
          then { record := record r, sent := 0, mark := x.mark } else x
       (∃ x ∈ s.cell.outbox, x.record.lotId = a.lot.lotId ∧ x.record.index = a.lot.index) →
        (lotState s a = .running ∨ lotState s a = .paused → a.tested ≠ 0 →
          a.limits.lyf ≤ 4096 * goodCount a.bins a.limits.good / a.tested →
          exec .endPass s = .next (settle s (setOutcome (.done (be1 0 ++ be1 a.pass)) 0x46
            (raise (.cellFinished a.lot.lotId a.lot.index .passed) (s.setCell { s.cell with
              active := some { a with phase := .finished, unretested := a.pool },
              outbox := replaced .passed }))))) ∧
        (lotState s a = .held →
          exec .lotUnloaded s = .next (settle s (setOutcome (.done []) 0x47
            (raise (.cellFinished a.lot.lotId a.lot.index .held) (s.setCell { s.cell with
              active := none, outbox := replaced .held })))))) ∧
      (lotState s a = .held → 8 ≤ s.cell.outbox.length →
        outboxHas s.cell a.lot.lotId a.lot.index = false →
        exec .lotUnloaded s = .next (settle s (setOutcome (.refused .full) 0x47 s))) ∧
      (a.phase = .finished → a.waiting = none →
        exec .lotUnloaded s = .next (settle s (setOutcome (.done []) 0x47
          (s.setCell { s.cell with active := none })))) ∧
      (a.phase = .finished → a.waiting ≠ none →
        exec .lotUnloaded s = .next (settle s (setOutcome (.refused .full) 0x47 s))) ∧
      (lotState s a = .setup ∨ lotState s a = .running ∨ lotState s a = .paused →
        exec .lotUnloaded s = .next (settle s (setOutcome (.refused .notEnded) 0x47 s))))

/-- BIN REPORT of one site with no check triggering: in pass 1 the unit joins the tested base, in a
retest pass it is taken from the pool, each with its bin count and the site's tallies; an entry of bin
0 or of a site out of the effective mask is stray and counts nothing. A HANDLER-STATUS from the bound
handler, or from the one being bound, is taken whole (R91, R111, R117, R119, R120). Every report takes its
entries in site order: a site at 1,048,575 units is stray and asked down with COUNT_LIMIT, one whose fail
run reaches CF with FAIL_RUN, and a marked site in the mask is asked down again (R119 to R121). The six
checks trigger as stated, in their order, when their reason is not suppressed (R122 to R129); their reasons
join the reasons set and the first places a LOT hold unless one is in force (R130). A report that spends the
pool of a retest pass runs the judgment of END PASS unless the lot is HELD (R133). The zeros in the outcome
where no pass ended are the model's choice (log entry 12). That an entry asks its site down once, for its
own reason before the mark's, that a site asked down again counts as requested, and that bin 0 is stray are
its reading (log entry 16). That under a limit of 0 the first unit of the bin triggers BIN_LIMIT also with more
than 4096 units tested, as R122 says, where the floored fraction of R126 is 0, is the model's choice between
the two (log entry 48). -/
def Obligations.UnitsAreCountedAndStatusesTaken : Prop :=
  (∀ (n b : Nat) (bins : List Nat) (a : ActiveLot) (s : State),
    PortTakes (.binReport (BitVec.twoPow 8 (n - 1)) bins) s → SizesRight s → 1 ≤ n → n ≤ 8 →
    bins.getD (n - 1) 0 = b → s.cell.active = some a → a.phase = .inPass →
    a.tested + 1 < a.limits.nMin →
    (∀ m ∈ [1, 2, 3, 4, 5, 6, 7, 8], (tallyAt a m).tested + 1 < a.limits.nSite) →
    a.limits.cf = 0 → markOf s.cell n = .up →
    let counted (x : ActiveLot) : ActiveLot := { x with
      bins := modifyAt (· + 1) (b - 1) a.bins,
      sites := modifyAt (fun t =>
          { tested := t.tested + 1,
            good := t.good + (if maskHas a.limits.good b then 1 else 0),
            run := if maskHas a.limits.good b then 0 else min (t.run + 1) 255 }) (n - 1) a.sites }
    let answer (sites stray pool : Nat) (x : ActiveLot) : Prop :=
      exec (.binReport (BitVec.twoPow 8 (n - 1)) bins) s = .next (settle s (setOutcome
        (.done (be1 sites ++ be1 stray ++ be2 0 ++ be1 0 ++ be3 pool ++ be1 0 ++ be1 0)) 0x45
        (s.setCell { s.cell with active := some x })))
    (b = 0 ∨ maskHas s.cell.mask n = false → (a.pass = 1 ∨ 0 < a.pool) → answer 0 1 a.pool a) ∧
    (1 ≤ b → maskHas s.cell.mask n = true → (tallyAt a n).tested < 1048575 → a.pass = 1 →
      answer (2 ^ (n - 1)) 0 a.pool (counted { a with tested := a.tested + 1 })) ∧
    (1 ≤ b → maskHas s.cell.mask n = true → (tallyAt a n).tested < 1048575 → a.pass ≠ 1 →
      2 ≤ a.pool → answer (2 ^ (n - 1)) 0 (a.pool - 1) (counted { a with pool := a.pool - 1 }))) ∧
  (∀ (h : Header) (b : StatusBody) (s : State), Arrives h (.handlerStatus b) s → s.isActive = true →
    s.cell.binding.state = .bound ∨ s.cell.binding.state = .binding →
    s.cell.binding.handler = h.source →
    let taken (x : Option ActiveLot) : State := (heard h s).setCell { s.cell with
      ready := b.ready, reached := if b.reachedValid then some b.reached else none,
      mask := b.mask, binding := { s.cell.binding with mask := b.mask },
      marks := (s.cell.marks.zipIdx 1).map fun r => if maskHas b.mask r.2 then r.1 else .up,
      active := x }
    (s.cell.active = none → exec (.handlerStatus h b) s = .next (settle s (taken none))) ∧
    (∀ a, s.cell.active = some a → a.phase = .inPass → b.mask ≠ 0#8 → a.limits.jamLimit = 0 →
      exec (.handlerStatus h b) s = .next (settle s (taken (some (if b.ready then
        { a with readySeen := true, jamArmed := true } else a))))) ∧
    (∀ a, s.cell.active = some a →
      let seen := if b.ready then { a with readySeen := true, jamArmed := true } else a
      (a.phase = .inPass → exec (.handlerStatus h b) s = .next (settle s
        (handleTriggers (statusTriggers b seen) a.lot.lotId (taken (some seen))))) ∧
      (a.phase ≠ .inPass → exec (.handlerStatus h b) s = .next (settle s (taken (some a)))))) ∧
  (∀ (m : SiteMask) (bins : List Nat) (s : State), PortTakes (.binReport m bins) s →
    s.cell.active = none →
    exec (.binReport m bins) s = .next (settle s (setOutcome (.refused .notRunning) 0x45 s))) ∧
  (∀ (m : SiteMask) (bins : List Nat) (a : ActiveLot) (s : State), PortTakes (.binReport m bins) s →
    s.cell.active = some a →
    (a.phase ≠ .inPass →
      exec (.binReport m bins) s = .next (settle s (setOutcome (.refused .notRunning) 0x45 s))) ∧
    (a.phase = .inPass →
      let p := ([1, 2, 3, 4, 5, 6, 7, 8].filter (maskHas m)).foldl (takeEntry bins)
        (s, { active := a, counted := 0, stray := false, requested := false, excess := none })
      let u := p.1.setCell { p.1.cell with active := some p.2.active }
      let ts := reportTriggers p.2 u.cell
      let v := handleTriggers ts a.lot.lotId u
      let reported (tail : List Byte) : List Byte :=
        be1 p.2.counted.toNat ++ be1 (if p.2.stray then 1 else 0) ++
          beMask (ts.foldl (fun w t => w ||| reasonBit t.1) 0#16) ++
          be1 (if ts ≠ [] ∧ keyInForce u.holds .lot a.lot.lotId = false then 1 else 0) ++
          be3 p.2.active.pool ++ tail
      ∀ x, v.cell.active = some x →
        (x.pass = 1 ∨ x.pool ≠ 0 ∨ a.pool = 0 ∨ lotState v x = .held →
          exec (.binReport m bins) s =
            .next (settle s (setOutcome (.done (reported (be1 0 ++ be1 0))) 0x45 v))) ∧
        (x.pass ≠ 1 → x.pool = 0 → 0 < a.pool → lotState v x ≠ .held →
          exec (.binReport m bins) s = .next (settle s (setOutcome
            (.done (reported (be1 (endingCode (judgePass x v).2) ++ be1 (passNow (judgePass x v).1))))
            0x45 (judgePass x v).1))) ∧
        (lotState v x = .running ∨ lotState v x = .paused → endPass v = ((judgePass x v).1,
          .done (be1 (endingCode (judgePass x v).2) ++ be1 (passNow (judgePass x v).1)))))) ∧
  (∀ (n : Nat) (bins : List Nat) (r : Report) (s : State), 1 ≤ n → n ≤ 8 →
    let b := bins.getD (n - 1) 0
    let a := r.active
    let t := tallyAt a n
    let run := if maskHas a.limits.good b then 0 else min (t.run + 1) 255
    let down : Prop := a.limits.cf ≠ 0 ∧ a.limits.cf ≤ run
    let spent : Prop := a.pass ≠ 1 ∧ a.pool = 0
    let more : List Nat := modifyAt (· + 1) (b - 1) a.bins
    let based : ActiveLot :=
      if a.pass = 1 then { a with tested := a.tested + 1, bins := more }
      else if 0 < a.pool then { a with pool := a.pool - 1, bins := more }
      else { a with excess := min (a.excess + 1) 16777215 }
    let counted : Report := { r with
      active := { based with
        sites := modifyAt (fun _ =>
          { tested := t.tested + 1, good := t.good + (if maskHas a.limits.good b then 1 else 0),
            run := if down then 0 else run }) (n - 1) a.sites },
      counted := maskAdd r.counted n,
      excess := if spent then some (r.excess.getD n) else r.excess }
    let marked : Prop := maskHas s.cell.mask n = true ∧ markOf s.cell n ≠ .up
    let gives (u : State) (x : Report) : Prop := takeEntry bins (s, r) n = (u, x)
    let asks (w : SiteStatus) (x : Report) : Prop :=
      gives (requestDown n w s) { x with requested := true }
    let plain (x : Report) : Prop :=
      (marked → asks (markOf s.cell n) x) ∧ (¬marked → gives s x)
    (b = 0 ∨ maskHas s.cell.mask n = false → plain { r with stray := true }) ∧
    (1 ≤ b → maskHas s.cell.mask n = true →
      (1048575 ≤ t.tested → asks .countLimit { r with stray := true }) ∧
      (t.tested < 1048575 → down → asks .failRun counted) ∧
      (t.tested < 1048575 → ¬down → plain counted))) ∧
  (∀ (n : Nat) (w : SiteStatus) (s : State), SizesRight s → 1 ≤ n → n ≤ 8 →
    let u := (if markOf s.cell n = .up then raise (.siteDown n w) s else s).setCell
      { s.cell with marks := s.cell.marks.set (n - 1) w }
    requestDown n w s =
      if s.cell.binding.state = .bound then sendTo s.cell.binding.handler (.siteDown n w) u else u) ∧
  (∀ (r : Report) (c : Cell),
    let a := r.active
    let live (h : HoldReason) : Prop := a.suppressed &&& reasonBit h = 0#16
    let site (n : Nat) : Prop := 1 ≤ n ∧ n ≤ 8 ∧ a.limits.nSite ≤ (tallyAt a n).tested
    let yield_ (n : Nat) : Nat := 4096 * (tallyAt a n).good / (tallyAt a n).tested
    let bin (p : Nat × Nat) : Prop := if p.2 = 0 then 0 < a.bins.getD (p.1 - 1) 0
      else p.2 < 4096 * a.bins.getD (p.1 - 1) 0 / a.tested
    let ts := reportTriggers r c
    ((ts.map Prod.fst).Sublist [.noSites, .siteDelta, .binLimit, .yieldAlarm, .countExcess]) ∧
    (∀ d, (.noSites, d) ∈ ts ↔ live .noSites ∧ d = 0 ∧ r.requested = true ∧
      ∀ n, 1 ≤ n → n ≤ 8 → maskHas c.mask n = true → markOf c n ≠ .up) ∧
    (∀ d, (.siteDelta, d) ∈ ts ↔ live .siteDelta ∧ site d ∧
      (∀ n, site n → yield_ d < yield_ n ∨ yield_ d = yield_ n ∧ d ≤ n) ∧
      ∃ n, site n ∧ a.limits.sdl < yield_ n - yield_ d) ∧
    ((∀ p ∈ a.limits.binLimits, 1 ≤ p.1) →
      ∀ d, (.binLimit, d) ∈ ts ↔ live .binLimit ∧ a.limits.nMin ≤ a.tested ∧
        ∃ pre p post, a.limits.binLimits = pre ++ p :: post ∧ d = p.1 ∧ bin p ∧ ∀ q ∈ pre, ¬bin q) ∧
    (∀ d, (.yieldAlarm, d) ∈ ts ↔ live .yieldAlarm ∧ d = 0 ∧ a.pass = 1 ∧
      a.limits.nMin ≤ a.tested ∧
      4096 * goodCount a.bins a.limits.good / a.tested < a.limits.lya) ∧
    (∀ d, (.countExcess, d) ∈ ts ↔ live .countExcess ∧ r.excess = some d)) ∧
  (∀ (b : StatusBody) (a : ActiveLot),
    let live (h : HoldReason) : Prop := a.suppressed &&& reasonBit h = 0#16
    let ts := statusTriggers b a
    ((ts.map Prod.fst).Sublist [.noSites, .jamRate]) ∧
    (∀ d, (.noSites, d) ∈ ts ↔ live .noSites ∧ d = 0 ∧ b.mask = 0#8) ∧
    (∀ d, (.jamRate, d) ∈ ts ↔ live .jamRate ∧ d = 0 ∧ a.limits.jamLimit ≠ 0 ∧
      a.jamArmed = true ∧ a.limits.jamLimit < b.jamCount)) ∧
  (∀ (t : HoldReason × Nat) (ts : List (HoldReason × Nat)) (a : ActiveLot) (s : State),
    s.cell.active = some a →
    let u := s.setCell { s.cell with active := some { a with
      reasons := a.reasons ||| (t :: ts).foldl (fun w x => w ||| reasonBit x.1) 0#16 } }
    handleTriggers [] a.lot.lotId s = s ∧
    (keyInForce s.holds .lot a.lot.lotId = true → handleTriggers (t :: ts) a.lot.lotId s = u) ∧
    (keyInForce s.holds .lot a.lot.lotId = false →
      handleTriggers (t :: ts) a.lot.lotId s = (placeHold .lot a.lot.lotId t.1 t.2 0 u).1))

/-- LIMIT SET A holds its part, LIMIT SET B joins it into the default entry, a product entry present, or a
new one; LIMIT CLEAR takes a product's entry out, or puts the loaded default back (R113, R114). -/
def Obligations.LimitEntriesAreSetAndCleared : Prop :=
  (∀ (a : LimitPartA) (s : State), PortTakes (.limitSetA a) s →
    exec (.limitSetA a) s =
      .next (settle s (setOutcome (.done []) 0x48 (s.setCell { s.cell with partA := some a })))) ∧
  (∀ (p jam : Nat) (pairs : List (Nat × Nat)) (s : State), PortTakes (.limitSetB p pairs jam) s →
    ((∀ a, s.cell.partA = some a → a.product ≠ p) →
      exec (.limitSetB p pairs jam) s =
        .next (settle s (setOutcome (.refused .noPartA) 0x49 s))) ∧
    (∀ a, s.cell.partA = some a → a.product = p →
      let e : LimitEntry :=
        { lya := a.lya, lyf := a.lyf, nMin := a.nMin, nSite := a.nSite, sdl := a.sdl, cf := a.cf,
          good := a.good, retestable := a.retestable, passes := a.passes,
          binLimits := pairs.filter fun x => x.1 != 0, jamLimit := jam }
      let set (l : LimitTable) : Prop :=
        exec (.limitSetB p pairs jam) s = .next (settle s (setOutcome
          (.done (be1 l.products.length)) 0x49
          ((s.setLimits l).setCell { s.cell with partA := none })))
      let known : Prop := ∃ x ∈ s.limits.products, x.1 = p
      (p = 0 → set { s.limits with default := e }) ∧
      (p ≠ 0 → known → set { s.limits with
        products := s.limits.products.map fun x => if x.1 = p then (p, e) else x }) ∧
      (p ≠ 0 → ¬known → s.limits.products.length < 8 → set { s.limits with
        products := s.limits.products ++ [(p, e)] }) ∧
      (p ≠ 0 → ¬known → 8 ≤ s.limits.products.length →
        exec (.limitSetB p pairs jam) s =
          .next (settle s (setOutcome (.refused .full) 0x49 s))))) ∧
  (∀ (p : Nat) (s : State), PortTakes (.limitClear p) s →
    let left := s.limits.products.filter fun x => x.1 != p
    (p = 0 → exec (.limitClear p) s = .next (settle s (setOutcome (.done []) 0x4A
      (s.setLimits { s.limits with default := s.start.config.limits.default })))) ∧
    (p ≠ 0 → (∃ x ∈ s.limits.products, x.1 = p) →
      exec (.limitClear p) s = .next (settle s (setOutcome (.done (be1 left.length)) 0x4A
        (s.setLimits { s.limits with products := left }))) ∧
      limitsFor { s.limits with products := left } p = (.default, s.limits.default)) ∧
    (p ≠ 0 → (∀ x ∈ s.limits.products, x.1 ≠ p) →
      exec (.limitClear p) s = .next (settle s (setOutcome (.refused .unknown) 0x4A s))))

/-! ## The handler -/

/-- The handler's relation: HANDLER-AVAILABLE from FREE; RESERVE in every state, and the reservation's
lapse; BIND-REQ in every state, from the cell concerned and from another; BIND-CONFIRM, completing the
handshake or failing it, and the bind timer that fails it, back to FREE, to RESERVED, or to a lapse when
the deadline is past; UNBIND in every state; and the orphan timer (R79 to R85, R96). The cell concerned
when it is lost, back and restarted; another cell changes nothing (R85). A station that is not ACTIVE does
not answer HANDLER-WANTED, RESERVE or BIND-REQ (R23, R25), nor an ACTIVE one a HANDLER-WANTED that it cannot
serve or that finds it in overflow (R79). The clock at the expiries (log
entry 3), and that BIND_FAILED comes before RESERVATION_LAPSED (log entry 44), are the model's choice. -/
def Obligations.HandlerRelationMoves : Prop :=
  (∀ (h : Header) (s : State), s.isActive = false →
    (∀ k t, Arrives h (.handlerWanted k t) s →
      exec (.handlerWanted h k t) s = .next (settle s (heard h s))) ∧
    (Arrives h .reserve s → exec (.reserve h) s = .next (settle s (heard h s))) ∧
    (∀ k, Arrives h (.bindReq k) s →
      exec (.bindReq h k) s = .next (settle s (heard h s)))) ∧
  (∀ (h : Header) (k : Nat) (t : Int) (s : State), Arrives h (.handlerWanted k t) s →
    (s.holds.overflow = true ∨ s.handler.rel ≠ .free ∨ k ≠ s.handler.kit ∨
      t < s.start.config.tempMin ∨ s.start.config.tempMax < t) →
    exec (.handlerWanted h k t) s = .next (settle s (heard h s))) ∧
  ∀ s : State, s.pins.inReset = false → s.start.role = .handler → s.isActive = true →
    let fit : HandlerFit :=
      { kit := s.handler.kit, tempMin := s.start.config.tempMin, tempMax := s.start.config.tempMax,
        sites := s.start.config.siteCount }
    let freed (u : State) : State := u.setHandler { s.handler with
      rel := .free, cell := 0, deadline := none, bindTimer := none, prevReserved := false,
      orphanTimer := none, freeSince := u.clock, permit := Permit.idle }
    let failed (u : State) (t : State) : Prop :=
      let f : State := raise (.handlerBindFailed s.handler.cell) u
      let back : Handler :=
        { s.handler with rel := .reserved, bindTimer := none, prevReserved := false }
      (s.handler.prevReserved = false → t = f.setHandler { s.handler with
        rel := .free, cell := 0, deadline := none, bindTimer := none, prevReserved := false }) ∧
      (∀ d, s.handler.prevReserved = true → s.handler.deadline = some d →
        (u.now < d → t = f.setHandler back) ∧
        (d ≤ u.now → t = raise (.reservationLapsed s.handler.cell)
          (freed (sendTo s.handler.cell (.reserveReply .lapsed 0) f))))
    (∀ h k t, Arrives h (.handlerWanted k t) s → s.holds.overflow = false → s.handler.rel = .free →
      k = s.handler.kit → s.start.config.tempMin ≤ t → t ≤ s.start.config.tempMax →
      exec (.handlerWanted h k t) s = .next (settle s (sendTo h.source
        (.handlerAvailable fit (min (s.age s.handler.freeSince / 60000) 65535)) (heard h s)))) ∧
    (∀ h, Arrives h .reserve s → s.handler.rel = .free →
      exec (.reserve h) s = .next (settle s (raise (.handlerReserved h.source)
        (sendTo h.source (.reserveReply .ok s.start.config.reservation)
          ((heard h s).setHandler { s.handler with
            rel := .reserved, cell := h.source,
            deadline := some (s.now + s.start.config.reservation * 60000) }))))) ∧
    (∀ h, Arrives h .reserve s →
      s.handler.rel = .binding ∨ s.handler.rel = .bound ∨ s.handler.rel = .orphaned →
      exec (.reserve h) s =
        .next (settle s (sendTo h.source (.reserveReply .busy 0) (heard h s)))) ∧
    (∀ h, Arrives h .reserve s → s.handler.rel = .reserved →
      (∀ d, s.handler.cell = h.source → s.handler.deadline = some d →
        exec (.reserve h) s = .next (settle s (sendTo h.source
          (.reserveReply .ok (max 1 ((d - s.now + 59999) / 60000))) (heard h s)))) ∧
      (s.handler.cell ≠ h.source →
        exec (.reserve h) s =
          .next (settle s (sendTo h.source (.reserveReply .busy 0) (heard h s))))) ∧
    (∀ h k, Arrives h (.bindReq k) s →
      let answered (r : BindResult) : State :=
        sendTo h.source (.bindReply r fit (siteMask s)) (heard h s)
      let gives (u : State) : Prop := exec (.bindReq h k) s = .next (settle s u)
      let passes : Prop := k = 0 ∨ k = s.handler.kit
      let opened (reserved : Bool) : State := (answered .ok).setHandler { s.handler with
        rel := .binding, cell := h.source,
        bindTimer := some (s.now + s.start.config.bindTimeout), prevReserved := reserved }
      (s.handler.rel ≠ .free → s.handler.cell ≠ h.source → gives (answered .busy)) ∧
      (s.handler.rel = .reserved → s.handler.cell = h.source →
        (passes → gives (opened true)) ∧ (¬passes → gives (answered .mismatch))) ∧
      (s.handler.rel = .binding → s.handler.cell = h.source →
        (passes → gives (opened s.handler.prevReserved)) ∧ (¬passes → gives (answered .mismatch))) ∧
      (s.handler.rel = .bound → s.handler.cell = h.source →
        gives ((answered .ok).setHandler { s.handler with statusOwed := true })) ∧
      (s.handler.rel = .orphaned → s.handler.cell = h.source →
        gives (raise (.bound h.source) ((answered .ok).setHandler { s.handler with
          rel := .bound, deadline := none, bindTimer := none, prevReserved := false,
          orphanTimer := none, permit := Permit.idle })))) ∧
    (∀ h k n, Arrives h (.bindConfirm k n) s →
      (s.handler.rel = .binding → s.handler.cell = h.source →
        k ≠ s.handler.kit ∨ n ≠ s.start.config.siteCount →
        ∃ t, exec (.bindConfirm h k n) s = .next (settle s t) ∧ failed (heard h s) t) ∧
      (s.handler.rel ≠ .binding ∨ s.handler.cell ≠ h.source →
        exec (.bindConfirm h k n) s = .next (settle s (heard h s)))) ∧
    (∀ d, s.handler.rel = .binding → s.handler.bindTimer = some d →
      ∃ t, exec .bindTimerExpiry s = .next (settle s t) ∧ failed (s.setNow (max s.now d)) t) ∧
    (∀ h r, Arrives h (.unbind r) s →
      let unbinds (u : State) : Prop := exec (.unbind h r) s = .next (settle s u)
      (s.handler.rel = .free ∨ s.handler.cell ≠ h.source → unbinds (heard h s)) ∧
      (s.handler.rel ≠ .free → s.handler.cell = h.source →
        (r ≠ .timeout → unbinds (raise (.unbound h.source (if r = .undock then 0 else 1))
          (freed (heard h s)))) ∧
        (r = .timeout → s.handler.rel ≠ .binding → unbinds (heard h s)) ∧
        (r = .timeout → s.handler.rel = .binding →
          ∃ t, unbinds t ∧ failed (heard h s) t))) ∧
    (∀ d, s.handler.rel = .reserved → s.handler.deadline = some d →
      exec .reservationDeadline s = .next (settle s (raise (.reservationLapsed s.handler.cell)
        (freed (sendTo s.handler.cell (.reserveReply .lapsed 0) (s.setNow (max s.now d))))))) ∧
    (∀ h k, Arrives h (.bindReq k) s → s.handler.rel = .free →
      (k = 0 ∨ k = s.handler.kit →
        exec (.bindReq h k) s = .next (settle s
          ((sendTo h.source (.bindReply .ok fit (siteMask s)) (heard h s)).setHandler
            { s.handler with
              rel := .binding, cell := h.source,
              bindTimer := some (s.now + s.start.config.bindTimeout), prevReserved := false }))) ∧
      (k ≠ 0 → k ≠ s.handler.kit →
        exec (.bindReq h k) s = .next (settle s
          (sendTo h.source (.bindReply .mismatch fit (siteMask s)) (heard h s))))) ∧
    (∀ h, Arrives h (.bindConfirm s.handler.kit s.start.config.siteCount) s →
      s.handler.rel = .binding → s.handler.cell = h.source →
      exec (.bindConfirm h s.handler.kit s.start.config.siteCount) s = .next (settle s
        (raise (.bound h.source) ((heard h s).setHandler { s.handler with
          rel := .bound, cell := h.source, deadline := none, bindTimer := none,
          prevReserved := false, orphanTimer := none, permit := Permit.idle })))) ∧
    (∀ d, s.handler.rel = .binding → s.handler.bindTimer = some d → s.handler.prevReserved = false →
      exec .bindTimerExpiry s = .next (settle s
        ((raise (.handlerBindFailed s.handler.cell) (s.setNow (max s.now d))).setHandler
          { s.handler with rel := .free, cell := 0, deadline := none, bindTimer := none,
                           prevReserved := false }))) ∧
    (∀ h r, Arrives h (.unbind r) s → s.handler.rel = .bound → s.handler.cell = h.source →
      (r ≠ .timeout → exec (.unbind h r) s = .next (settle s
        (raise (.unbound h.source (unbindReasonCode r)) (freed (heard h s))))) ∧
      (r = .timeout → exec (.unbind h r) s = .next (settle s (heard h s)))) ∧
    (∀ d, s.handler.rel = .orphaned → s.handler.orphanTimer = some d →
      exec .orphanTimerExpiry s = .next (settle s (raise (.unbound s.handler.cell 2)
        (freed (sendTo s.handler.cell (.unbind .timeout) (s.setNow (max s.now d))))))) ∧
    (let n := s.handler.cell
     (s.handler.rel = .bound →
       roleLost n s = s.setHandler { s.handler with
         rel := .orphaned, permit := Permit.idle,
         orphanTimer := some (s.now + s.start.config.orphanTimeout * 60000) }) ∧
     (s.handler.rel ≠ .bound → roleLost n s = s) ∧
     (s.handler.rel = .orphaned →
       roleBack n s = s.setHandler { s.handler with
         rel := .bound, deadline := none, bindTimer := none, prevReserved := false,
         orphanTimer := none, permit := Permit.idle }) ∧
     (s.handler.rel ≠ .orphaned → roleBack n s = s) ∧
     (s.handler.rel ≠ .free → roleRestart n s = raise (.unbound n 3) (freed s)) ∧
     (s.handler.rel = .free → roleRestart n s = s) ∧
     ∀ m, m ≠ n → roleLost m s = s ∧ roleBack m s = s ∧ roleRestart m s = s)

/-- The soak: a PERMIT of the bound cell that names a lot at another temperature sets the target and goes
to SETTLING; one in the idle form of R68 is stored and moves neither target nor jam lot; one that finds
the handler not ACTIVE or not BOUND, or that another cell sends, is ignored; TEMP REACHED, TEMP LOST and
the two timers by the soak state (R95, R97 to R100). The clock at the expiries is the model's choice (log
entry 3). -/
def Obligations.SoakStatesFollowTheChamber : Prop :=
  ∀ s : State, s.pins.inReset = false → s.start.role = .handler →
    (∀ h p, Arrives h (.permit p) s → s.isActive = true → s.handler.rel = .bound →
      s.handler.cell = h.source → p.lotId ≠ 0 →
      let kept : Handler := { s.handler with
        permit := p, jamLot := (p.lotId, p.index),
        jamCount := if (p.lotId, p.index) = s.handler.jamLot then s.handler.jamCount else 0 }
      (s.handler.soak = .unset ∨ s.handler.target ≠ some p.temp →
        exec (.permit h p) s = .next (settle s (raise (.setpointRequest p.temp)
          ((heard h s).setHandler { kept with
            target := some p.temp, soakTimer := none, graceTimer := none, soak := .settling })))) ∧
      (s.handler.soak ≠ .unset → s.handler.target = some p.temp →
        exec (.permit h p) s = .next (settle s ((heard h s).setHandler kept)))) ∧
    (∀ h p, Arrives h (.permit p) s → s.isActive = true → s.handler.rel = .bound →
      s.handler.cell = h.source → p.lotId = 0 →
      p = { run := p.run, lotId := 0, index := 0, kit := 0, temp := 0 } ∧
      exec (.permit h p) s =
        .next (settle s ((heard h s).setHandler { s.handler with permit := p }))) ∧
    (∀ h p, Arrives h (.permit p) s →
      s.isActive = false ∨ s.handler.rel ≠ .bound ∨ s.handler.cell ≠ h.source →
      exec (.permit h p) s = .next (settle s (heard h s))) ∧
    (∀ t, PortTakes (.tempReached t) s →
      let band := if t < 15 then s.start.config.coldSoak
        else if t ≤ 35 then s.start.config.ambientSoak else s.start.config.hotSoak
      let soaks (seconds : Nat) : Prop :=
        exec (.tempReached t) s = .next (settle s (setOutcome
          (.done (be1 (if seconds = 0 then 3 else 2))) 0x60 (s.setHandler { s.handler with
            target := some t, graceTimer := none,
            soak := if seconds = 0 then .ready else .soaking,
            soakTimer := if seconds = 0 then none else some (s.now + seconds * 1000) })))
      (s.handler.soak = .unset → soaks band) ∧
      (s.handler.soak = .settling → s.handler.target = some t → soaks band) ∧
      (s.handler.soak = .excursion → s.handler.target = some t →
        soaks s.start.config.recoverySoak) ∧
      (s.handler.soak = .soaking ∨ s.handler.soak = .ready → s.handler.target = some t →
        exec (.tempReached t) s = .next (settle s (setOutcome
          (.done (be1 (soakStateCode s.handler.soak))) 0x60 s))) ∧
      (s.handler.soak ≠ .unset → s.handler.target ≠ some t →
        exec (.tempReached t) s = .next (settle s (setOutcome (.refused .wrongSetpoint) 0x60 s)))) ∧
    (PortTakes .tempLost s →
      let loses (state : SoakState) (f : Handler) : Prop :=
        exec .tempLost s = .next (settle s (setOutcome (.done (be1 (soakStateCode state))) 0x61
          (s.setHandler f)))
      (s.handler.soak = .soaking →
        loses .settling { s.handler with soak := .settling, soakTimer := none }) ∧
      (s.handler.soak = .ready → s.start.config.excursionGrace ≠ 0 →
        loses .excursion { s.handler with
          soak := .excursion,
          graceTimer := some (s.now + s.start.config.excursionGrace * 1000) }) ∧
      (s.handler.soak = .ready → s.start.config.excursionGrace = 0 →
        loses .settling { s.handler with soak := .settling, graceTimer := none }) ∧
      (s.handler.soak = .unset ∨ s.handler.soak = .settling ∨ s.handler.soak = .excursion →
        loses s.handler.soak s.handler)) ∧
    (∀ c, c = PortCommand.tempLost ∨ (∃ t, c = .tempReached t) → commandOk s c = true →
      s.port.abandoned = false → s.start.station = .start ∨ s.start.station = .silent →
      transact c s = setOutcome (.refused .state) (commandCode c) s) ∧
    (∀ d, s.handler.soak = .soaking → s.handler.soakTimer = some d →
      exec .soakTimerExpiry s = .next (settle s ((s.setNow (max s.now d)).setHandler
        { s.handler with soak := .ready, soakTimer := none }))) ∧
    (∀ d, s.handler.soak = .excursion → s.handler.graceTimer = some d →
      exec .graceTimerExpiry s = .next (settle s ((s.setNow (max s.now d)).setHandler
        { s.handler with soak := .settling, graceTimer := none })))

/-- Sites, counters and the kit: UNIT INDEXED counts every site of its mask that is up, and of an empty mask
none; CONTACTOR COUNT loads a counter in FREE and RESERVED, CONTACTOR REPLACED and SITE RESTORE bring sites
up, a SITE-DOWN of the bound cell takes one down, one that finds the handler not
ACTIVE or not BOUND, that another cell sends, or that names a site above S changes nothing, and KIT CHANGED
sets the kit (R103 to R108). The INDEX-ENABLE level reported is the one the command finds, the model's
reading (log entry 19); that sites worn out together raise SITE_DOWN lowest first is its choice (log entry
37). -/
def Obligations.SitesAndCounters : Prop :=
  ∀ s : State, s.pins.inReset = false → s.port.abandoned = false → s.start.role = .handler →
    s.isLive = true → SizesRight s →
    s.start.config.siteCount ≤ 8 →
    let put (n : Nat) (x : Site) (u : State) : State :=
      u.setHandler { s.handler with sites := s.handler.sites.set (n - 1) x }
    (∀ n, 1 ≤ n → n ≤ s.start.config.siteCount →
      let x := siteAt s.handler n
      let worn (c : Nat) : Prop := ∃ l, contactorLimit s.start.config = some l ∧ l ≤ c
      (x.status = .up → ¬worn (min (x.counter + 1) 4294967295) →
        exec (.unitIndexed (BitVec.twoPow 8 (n - 1))) s = .next (settle s (setOutcome
          (.done (be1 (2 ^ (n - 1)) ++ be1 (if s.pins.indexEn then 1 else 0))) 0x62
          (put n { x with counter := min (x.counter + 1) 4294967295 } s)))) ∧
      (x.status = .up → worn (min (x.counter + 1) 4294967295) →
        exec (.unitIndexed (BitVec.twoPow 8 (n - 1))) s = .next (settle s (setOutcome
          (.done (be1 (2 ^ (n - 1)) ++ be1 (if s.pins.indexEn then 1 else 0))) 0x62
          (raise (.siteDown n .contactLife)
            (put n { status := .contactLife, counter := min (x.counter + 1) 4294967295 } s))))) ∧
      (x.status ≠ .up →
        exec (.unitIndexed (BitVec.twoPow 8 (n - 1))) s = .next (settle s (setOutcome
          (.done (be1 0 ++ be1 (if s.pins.indexEn then 1 else 0))) 0x62 s))) ∧
      (∀ v, v ≤ 4294967295 →
        (s.handler.rel = .free ∨ s.handler.rel = .reserved →
          (worn v → x.status ≠ .contactLife →
            exec (.contactorCount n v) s = .next (settle s (setOutcome (.done []) 0x65
              (raise (.siteDown n .contactLife)
                (put n { status := .contactLife, counter := v } s))))) ∧
          (¬worn v ∨ x.status = .contactLife →
            exec (.contactorCount n v) s = .next (settle s (setOutcome (.done []) 0x65
              (put n { x with counter := v } s))))) ∧
        (s.handler.rel = .binding ∨ s.handler.rel = .bound ∨ s.handler.rel = .orphaned →
          exec (.contactorCount n v) s =
            .next (settle s (setOutcome (.refused .busy) 0x65 s)))) ∧
      (exec (.contactorReplaced n) s = .next (settle s (setOutcome (.done []) 0x64
        (put n { status := if x.status = .contactLife then .up else x.status, counter := 0 } s)))) ∧
      (x.status = .contactLife → worn x.counter →
        exec (.siteRestore n) s = .next (settle s (setOutcome (.refused .lifeSpent) 0x66 s))) ∧
      (x.status ≠ .contactLife ∨ ¬worn x.counter →
        exec (.siteRestore n) s = .next (settle s (setOutcome (.done []) 0x66
          (put n { x with status := .up } s)))) ∧
      (∀ h r, Arrives h (.siteDown n r) s → s.isActive = true → s.handler.rel = .bound →
        s.handler.cell = h.source →
        (x.status = .up → exec (.siteDown h n r) s = .next (settle s
          (raise (.siteDown n r) (put n { x with status := r } (heard h s))))) ∧
        (x.status ≠ .up → exec (.siteDown h n r) s = .next (settle s (heard h s))))) ∧
    (∀ m, PortTakes (.unitIndexed m) s →
      let counter (n : Nat) : Nat := min ((siteAt s.handler n).counter + 1) 4294967295
      let counted (n : Nat) : Prop := 1 ≤ n ∧ n ≤ s.start.config.siteCount ∧ maskHas m n = true ∧
        (siteAt s.handler n).status = .up
      let worn (n : Nat) : Prop := counted n ∧
        ∃ l, contactorLimit s.start.config = some l ∧ l ≤ counter n
      let indexed (k : SiteMask) (u : State) : Prop :=
        exec (.unitIndexed m) s = .next (settle s (setOutcome
          (.done (be1 k.toNat ++ be1 (if s.pins.indexEn then 1 else 0))) 0x62 u))
      (m = 0 → indexed 0 s) ∧
      ∃ (k : SiteMask) (xs : List Site) (down : List Nat),
        (∀ n, 1 ≤ n → n ≤ 8 → (maskHas k n = true ↔ counted n)) ∧ xs.length = 8 ∧
        (∀ n x, 1 ≤ n → xs[n - 1]? = some x →
          (¬counted n → x = siteAt s.handler n) ∧
          (counted n → ¬worn n → x = { status := .up, counter := counter n }) ∧
          (worn n → x = { status := .contactLife, counter := counter n })) ∧
        down.Pairwise (· < ·) ∧ (∀ n, n ∈ down ↔ worn n) ∧
        indexed k (down.foldl (fun u n => raise (.siteDown n .contactLife) u)
          (s.setHandler { s.handler with sites := xs }))) ∧
    (∀ h n r, Arrives h (.siteDown n r) s →
      s.isActive = false ∨ s.handler.rel ≠ .bound ∨ s.handler.cell ≠ h.source ∨
        s.start.config.siteCount < n →
      exec (.siteDown h n r) s = .next (settle s (heard h s))) ∧
    (∀ k, k ≤ 255 → exec (.kitChanged k) s = .next (settle s (setOutcome (.done []) 0x63
      (s.setHandler { s.handler with kit := k }))))

/-- The JAM input: an assertion sets the latch, raising JAM and counting it for a lot named, once
until the latch is cleared; its release keeps the latch; RE-ARM clears it when the input is inactive
and is refused JAM_ACTIVE when it is active; and the status timer's expiry owes a HANDLER-STATUS
(R101, R102, R110). An input already active counts as an assertion when START ends in LEARNING and when
RESTART enters it, and not where START ends in SILENT (R101). In START, in SILENT and in another role an
assertion only follows the pin (R101). The clock at the expiry is the model's
choice (log entry 3). That JAM_ASSERTION with the input already active changes nothing, and that the
release of the input is an event of its own that only follows the pin, are the model's choice (log entry
7). -/
def Obligations.JamsAreLatchedAndReArmed : Prop :=
  (∀ (im : ImageRead) (s : State), s.pins.inReset = false → s.start.station = .start →
    s.start.role = .handler → s.port.events.length < 32 →
    let learns : Prop := s.numberValid = true ∧ imageOutcome im ≠ .badCrc
    let fresh := Handler.reset (configOf im).1.kit
    let jam : EventRec := { event := .jam 0 0, time := s.clock }
    ∃ t, exec (.startEnd im) s = .next t ∧ t.pins.jamIn = s.pins.jamIn ∧
    (learns → s.pins.jamIn = true → t.handler = { fresh with jamLatch := true } ∧
      t.port.events = s.port.events ++ [jam]) ∧
    (¬learns ∨ s.pins.jamIn = false → t.handler = fresh ∧ t.port.events = s.port.events)) ∧
  (∀ s : State, s.pins.inReset = false → s.port.abandoned = false → s.start.role = .handler →
    (s.isLive = true ∨ s.start.station = .silent ∧ s.start.cause = .dupId) →
    let fresh := Handler.reset s.start.config.kit
    ∃ t, exec .restart s = .next t ∧ t.pins.jamIn = s.pins.jamIn ∧
    (s.pins.jamIn = true → t.handler = { fresh with jamLatch := true } ∧
      t.port.events = [{ event := .jam 0 0, time := 0 }]) ∧
    (s.pins.jamIn = false → t.handler = fresh ∧ t.port.events = [])) ∧
  (∀ s : State, s.pins.inReset = false →
    (s.start.station = .start ∨ s.start.station = .silent ∨ s.start.role ≠ .handler) →
    (s.pins.jamIn = false →
      exec .jamAssertion s = .next (settle s (s.setPins { s.pins with jamIn := true })) ∧
      (settle s (s.setPins { s.pins with jamIn := true })).handler.jamLatch = s.handler.jamLatch ∧
      (settle s (s.setPins { s.pins with jamIn := true })).handler.jamCount = s.handler.jamCount) ∧
    (s.pins.jamIn = true → exec .jamAssertion s = .next s) ∧
    exec .jamRelease s = .next (s.setPins { s.pins with jamIn := false })) ∧
  ∀ s : State, s.pins.inReset = false → s.port.abandoned = false → s.start.role = .handler →
    s.isLive = true →
    (s.pins.jamIn = false → s.handler.jamLatch = false →
      exec .jamAssertion s = .next (settle s (raise (.jam s.handler.jamLot.1 s.handler.jamLot.2)
        ((s.setPins { s.pins with jamIn := true }).setHandler { s.handler with
          jamLatch := true,
          jamCount := if s.handler.jamLot.1 = 0 then s.handler.jamCount
            else min (s.handler.jamCount + 1) 255 })))) ∧
    (s.pins.jamIn = false → s.handler.jamLatch = true →
      exec .jamAssertion s = .next (settle s (s.setPins { s.pins with jamIn := true }))) ∧
    (s.pins.jamIn = true → exec .jamAssertion s = .next s) ∧
    (exec .jamRelease s = .next (s.setPins { s.pins with jamIn := false })) ∧
    (s.pins.jamIn = true →
      exec .reArm s = .next (settle s (setOutcome (.refused .jamActive) 0x67 s))) ∧
    (s.pins.jamIn = false →
      exec .reArm s = .next (settle s (setOutcome (.done []) 0x67
        (s.setHandler { s.handler with jamLatch := false })))) ∧
    (∀ d, s.handler.statusTimer = some d →
      exec .statusTimerExpiry s = .next (settle s ((s.setNow (max s.now d)).setHandler
        { s.handler with statusOwed := true })))

/-! ## The release controller -/

/-- A LOT-DONE for this pack station makes its lot's entry and answers DONE-TAKEN; a record already
taken is answered again and changes nothing (R158, R159). PACK DONE is checked in order, and the right
count releases the lot: the release record with its sequence and code goes to all (R165, R166). A full
table evicts the closed entry closed earliest, or takes no record; the fill that completes the slots is
judged in the same event (R158, R159). The judgment takes the six steps of R160 over the sums of R163, a
disposition changes the entries its key matches (R164), and an entry freed by a change of holds is
judged again, or waits for PACK DONE (R162). A RELEASED entry that a key named as added or replaced matches
raises LATE_HOLD, and stays RELEASED (R162). The combined yield is 0 where the sum of T is 0
(R166), lies in 0–4096 (R122, R163), and is free within that where the sum of G is above that of T (log entry
41). That the freed entries are fixed before any is judged (log entry 27), and that LATE_HOLD goes through
the entries in creation order (log entry 37), are the model's choice. -/
def Obligations.LotsArePackedAndReleased : Prop :=
  (∀ (h : Header) (c : Completion) (s : State), Arrives h (.lotDone c) s → s.start.role = .pack →
    s.isActive = true → c.packStation = s.start.number →
    (findPack s c.lotId = none → s.pack.entries.length < 32 → 2 ≤ c.count →
      exec (.lotDone h c) s = .next (settle s (sendTo c.cell (.doneTaken c.lotId c.index)
        ((heard h s).setPack { s.pack with entries := s.pack.entries ++
          [{ lotId := c.lotId, product := c.product, program := c.program, count := c.count,
             slots := [none, none, none, none].set (c.index - 1) (some c), state := .collecting,
             conflict := false, waiting := .none, gateWaived := false, countWaived := false,
             timeClosed := none, release := none }] })))) ∧
    (∀ e, findPack s c.lotId = some e → packClosed e = true ∨ slotAt e c.index = some c →
      exec (.lotDone h c) s =
        .next (settle s (sendTo c.cell (.doneTaken c.lotId c.index) (heard h s)))) ∧
    (∀ e old, findPack s c.lotId = some e → packClosed e = false → slotAt e c.index = some old →
      old ≠ c →
      exec (.lotDone h c) s = .next (settle s (raise (.doneConflict c.lotId c.index c.cell)
        (sendTo c.cell (.doneTaken c.lotId c.index) (heard h s)))))) ∧
  (∀ (lot packed : Nat) (s : State), PortTakes (.packDone lot packed) s →
    let answer (a : Answer) (u : State) : Prop :=
      exec (.packDone lot packed) s = .next (settle s (setOutcome a 0x80 u))
    (findPack s lot = none → answer (.refused .unknown) s) ∧
    (∀ e, findPack s lot = some e →
      let put (f : PackEntry → PackEntry) (u : State) : State := u.setPack { u.pack with
        entries := u.pack.entries.map fun x => if x.lotId = lot then f x else x }
      (e.state ≠ .complete → answer (.refused .state) s) ∧
      (e.state = .complete → packHeld s e = true → answer (.refused .held) s) ∧
      (e.state = .complete → packHeld s e = false → packed ≠ sumGood e →
        answer (.refused .count) (placeHold .lot lot .packCount 0 0
          (put (fun x => { x with waiting := .packCount }) s)).1) ∧
      (e.state = .complete → packHeld s e = false → packed = sumGood e →
        ∃ r : ReleaseRec, r.lotId = lot ∧ r.product = e.product ∧ r.count = e.count ∧
        r.sumTested = sumTested e ∧ r.sumGood = sumGood e ∧ r.yield = combinedYield e ∧
        r.gateWaived = e.gateWaived ∧ r.hasAccepted = hasResult e .accepted ∧
        r.sequence = s.pack.sequence ∧ r.code = (crc16 (releaseHead r)).toNat ∧
        answer (.done (be2 r.sequence ++ be2 r.code))
          (raise (.released lot r.sequence r.code) (sendAll (.release r)
            (((put (fun x => { x with
                state := .released, timeClosed := some s.clock, release := some r }) s)).setPack
              { (put (fun x => { x with
                  state := .released, timeClosed := some s.clock, release := some r }) s).pack with
                sequence := if s.pack.sequence = 65535 then 1 else s.pack.sequence + 1 })))))) ∧
  (∀ (h : Header) (c : Completion) (s : State), Arrives h (.lotDone c) s → s.start.role = .pack →
    (s.isActive = false ∨ c.packStation ≠ s.start.number →
      exec (.lotDone h c) s = .next (settle s (heard h s))) ∧
    (s.isActive = true → c.packStation = s.start.number →
      let new : PackEntry :=
        { lotId := c.lotId, product := c.product, program := c.program, count := c.count,
          slots := [none, none, none, none].set (c.index - 1) (some c), state := .collecting,
          conflict := false, waiting := .none, gateWaived := false, countWaived := false,
          timeClosed := none, release := none }
      (findPack s c.lotId = none → s.pack.entries.length < 32 → c.count = 1 →
        exec (.lotDone h c) s = .next (settle s (judgeEntry new
          (sendTo c.cell (.doneTaken c.lotId c.index)
            ((heard h s).setPack { s.pack with entries := s.pack.entries ++ [new] }))))) ∧
      (findPack s c.lotId = none → 32 ≤ s.pack.entries.length → 2 ≤ c.count →
        ∀ v, s.pack.entries.filter (fun e => e.lotId == v.lotId) = [v] → packClosed v = true →
          (∃ pre post, s.pack.entries = pre ++ v :: post ∧
            (∀ e ∈ pre, packClosed e = true →
              s.age (e.timeClosed.getD 0) < s.age (v.timeClosed.getD 0)) ∧
            ∀ e ∈ post, packClosed e = true →
              s.age (e.timeClosed.getD 0) ≤ s.age (v.timeClosed.getD 0)) →
          exec (.lotDone h c) s = .next (settle s (sendTo c.cell (.doneTaken c.lotId c.index)
            ((heard h s).setPack { s.pack with
              entries := (s.pack.entries.filter fun e => e.lotId != v.lotId) ++ [new] })))) ∧
      (findPack s c.lotId = none → 32 ≤ s.pack.entries.length →
        (∀ e ∈ s.pack.entries, packClosed e = false) →
        exec (.lotDone h c) s = .next (settle s (heard h s))) ∧
      (∀ e, s.pack.entries.filter (fun x => x.lotId == c.lotId) = [e] → packClosed e = false →
        slotAt e c.index = none → SizesRight s →
        let same : Prop := c.count = e.count ∧ c.product = e.product ∧ c.program = e.program
        let f : PackEntry := { e with slots := e.slots.set (c.index - 1) (some c) }
        let g : PackEntry := { f with conflict := true }
        let taken (x : PackEntry) : State := sendTo c.cell (.doneTaken c.lotId c.index)
          ((heard h s).setPack { s.pack with
            entries := s.pack.entries.map fun y => if y.lotId = c.lotId then x else y })
        let full : Prop := ∀ n, 1 ≤ n → n ≤ e.count → n ≤ 4 → (slotAt f n).isSome = true
        (same → e.state = .collecting → e.conflict = false → full →
          exec (.lotDone h c) s = .next (settle s (judgeEntry f (taken f)))) ∧
        (same → e.state = .complete ∨ e.conflict = true ∨ ¬full →
          exec (.lotDone h c) s = .next (settle s (taken f))) ∧
        (¬same → exec (.lotDone h c) s =
          .next (settle s (raise (.doneConflict c.lotId c.index c.cell) (taken g))))))) ∧
  (∀ e : PackEntry,
    let cs := (e.slots.take e.count).filterMap id
    let units := cs.filter fun c => !(c.result == .empty || c.result == .accepted && c.tested == 0)
    sumTested e = (units.map Completion.tested).sum ∧ sumGood e = (units.map Completion.good).sum ∧
    sumQuantity e = (cs.map Completion.quantity).sum ∧
    (sumTested e ≠ 0 → sumGood e ≤ sumTested e →
      combinedYield e = 4096 * sumGood e / sumTested e) ∧
    (sumTested e = 0 → combinedYield e = 0) ∧ combinedYield e ≤ 4096) ∧
  (let late (s : State) (e : PackEntry) (n : NoticeKey) : List Event :=
     if n.added = true ∧ (n.scope = .lot ∧ n.key = e.lotId ∨ n.scope = .product ∧ n.key = e.product ∨
         n.scope = .program ∧ n.key = e.program)
     then ((findHold s.holds n.scope n.key).map fun r =>
       Event.lateHold e.lotId n.scope n.key r.hold.generation).toList
     else []
   let released (s : State) : List PackEntry := s.pack.entries.filter fun e => e.state == .released
   (∀ (names : List NoticeKey) (s : State), s.isLive = true → s.start.role = .pack →
     notice names s = ((released s).flatMap fun e => names.flatMap (late s e)).foldl
       (fun u v => raise v u) s) ∧
   ∀ (h : Header) (r : HoldRec) (s : State), Arrives h (.hold r) s → s.start.role = .pack →
     s.isLive = true → findHold s.holds r.scope r.key = none → s.holds.records.length < 24 →
     r.state = .inForce → (∀ e ∈ s.pack.entries, packClosed e = true) →
     s.port.events.length + s.pack.entries.length < 32 →
     ∃ t, exec (.hold h r) s = .next t ∧ t.pack = s.pack ∧
       t.port.events = s.port.events ++
         ((Event.holdPlaced r.scope r.key r.generation r.origin ::
           ((released s).filter fun e => r.scope == .lot && r.key == e.lotId ||
             r.scope == .product && r.key == e.product ||
             r.scope == .program && r.key == e.program).map fun e =>
               Event.lateHold e.lotId r.scope r.key r.generation).map fun v =>
                 { event := v, time := s.clock })) ∧
  (∀ (e : PackEntry) (s : State), s.pack.entries.filter (fun x => x.lotId == e.lotId) = [e] →
    let put (f : PackEntry) : State := s.setPack { s.pack with
      entries := s.pack.entries.map fun x => if x.lotId = e.lotId then f else x }
    let waits (w : WaitReason) (r : HoldReason) : State :=
      (placeHold .lot e.lotId r 0 0 (put { e with waiting := w })).1
    let has (r : CompletionResult) : Prop := ∃ c, some c ∈ e.slots ∧ c.result = r
    let lyf := (limitsFor s.limits e.product).2.lyf
    let apart : Prop := sumTested e > sumQuantity e + s.start.config.countTolerance ∨
      sumQuantity e > sumTested e + s.start.config.countTolerance
    let counted : Prop := e.countWaived = true ∨ ¬apart
    let sound : Prop := ¬has .held ∧ ¬has .scrapped ∧ ¬has .empty
    let passes : Prop := e.gateWaived = true ∨ sumTested e ≠ 0 ∧
      lyf ≤ 4096 * sumGood e / sumTested e
    (has .held → packHeld s e = true →
      judgeEntry e s = put { e with waiting := .sublotHeld }) ∧
    (has .held → packHeld s e = false → ∀ r,
      (∀ x : HoldReason, holdReasonCode x < holdReasonCode r →
        ∀ c, some c ∈ e.slots → c.result = .held → c.reasons &&& reasonBit x = 0#16) →
      ((∃ c, some c ∈ e.slots ∧ c.result = .held ∧ c.reasons &&& reasonBit r ≠ 0#16) ∨
        r = .operator ∧ ∀ c x, some c ∈ e.slots → c.result = .held → c.reasons &&& reasonBit x = 0#16) →
      judgeEntry e s = waits .sublotHeld r) ∧
    (¬has .held → has .scrapped → judgeEntry e s =
      put { e with state := .scrapped, waiting := .none, timeClosed := some s.clock }) ∧
    (¬has .held → ¬has .scrapped → has .empty → judgeEntry e s = waits .noUnits .noUnits) ∧
    (sound → ¬counted → judgeEntry e s = waits .countMismatch .countMismatch) ∧
    (sound → counted → ¬passes → sumTested e = 0 → judgeEntry e s = waits .noUnits .noUnits) ∧
    (sound → counted → ¬passes → sumTested e ≠ 0 →
      judgeEntry e s = waits .releaseYield .releaseYield) ∧
    (sound → counted → passes →
      judgeEntry e s = put { e with state := .complete, waiting := .none }) ∧
    (∀ (before : State) (ids : List Nat), s.isLive = true → s.start.role = .pack →
      let freed (x : PackEntry) : Prop := x.lotId ∈ ids ∨
        packHeld before x = true ∧ packHeld s x = false ∧
        (x.state = .collecting ∧ x.waiting ≠ .none ∨ x.state = .complete ∧ x.waiting = .packCount)
      ((∀ x ∈ s.pack.entries, ¬freed x) → actOnAllFreed before ids s = s) ∧
      (freed e → (∀ x ∈ s.pack.entries, x = e ∨ ¬freed x) →
        (e.state = .complete → actOnAllFreed before ids s = put { e with waiting := .none }) ∧
        (e.state = .collecting → e.conflict = true → actOnAllFreed before ids s = s) ∧
        (e.state = .collecting → e.conflict = false →
          actOnAllFreed before ids s = judgeEntry e s)))) ∧
  (∀ (sc : Scope) (key : Nat) (d : Disposition) (b : Bool) (s : State), s.isLive = true →
    s.start.role = .pack →
    ∃ es, handoff sc key d b s = s.setPack { s.pack with entries := es } ∧
      es.length = s.pack.entries.length ∧
      ∀ p ∈ s.pack.entries.zip es,
        let e := p.1
        let hit : Prop := sc = .lot ∧ key = e.lotId ∨ sc = .product ∧ key = e.product ∨
          sc = .program ∧ key = e.program
        let accepted : PackEntry := { e with
          slots := e.slots.map (Option.map fun c =>
            { c with
              result := if c.result = .held ∨ c.result = .empty then .accepted else c.result }) }
        (¬hit ∨ packClosed e = true ∨ d = .retest ∨ d = .none → p.2 = e) ∧
        (e.lotId ∈ resumed sc key d s → d = .resume) ∧
        (d = .resume → hit → e.state = .collecting → e.waiting ≠ .none → packHeld s e = false →
          e.lotId ∈ resumed sc key d s) ∧
        ((∀ x ∈ s.pack.entries, x.lotId = e.lotId → x = e) → e.lotId ∈ resumed sc key d s →
          hit ∧ e.state = .collecting ∧ e.waiting ≠ .none ∧ packHeld s e = false) ∧
        (hit → packClosed e = false →
          (d = .scrap →
            p.2 = { e with state := .scrapped, waiting := .none, timeClosed := some s.clock }) ∧
          (d = .resume → packHeld s e = true → p.2 = e) ∧
          (d = .resume → packHeld s e = false → e.state = .complete →
            p.2 = { e with waiting := if e.waiting = .packCount then .none else e.waiting }) ∧
          (d = .resume → packHeld s e = false → e.state = .collecting →
            p.2 = { accepted with
              countWaived := e.countWaived || e.waiting == .countMismatch,
              gateWaived := e.gateWaived || e.waiting == .releaseYield ||
                (e.waiting == .noUnits && sumTested accepted == 0) })))

/-! ## The station port -/

/-- The commands that only report: NOP and the reads answer DONE with their bytes and change nothing
else (R174, R175, and the rule of each read). Beside it the bytes are spelled out, field by field in the
order of their rules: READ STATUS (R175), READ HOLD (R138), READ STAGE (R35), READ SIGHTING (R55), READ LOT
and READ SITE (R116, R125), READ HANDLER (R78, R94), READ PACK and READ RELEASE (R157, R168), with when an
entry is held (R40, R162). READ RELEASE of a lot with no entry is refused UNKNOWN, and of one not RELEASED
STATE (R168). The bytes of fields that do not apply, and the layouts the spec gives by order
alone, are the model's choice (log entry 12), and so are the codes of two flags of READ HANDLER (log entry
42); the revision is any byte (log entry 8). -/
def Obligations.ReadsChangeNothing : Prop :=
  (∀ s : State,
    let flag (b : Bool) : Nat := if b then 1 else 0
    let minutes (d : Option Nat) : Nat :=
      match d with
      | none => 0
      | some d => (d - s.now + 59999) / 60000
    let fit (f : HandlerFit) : List Byte :=
      be1 f.kit ++ beTemp f.tempMin ++ beTemp f.tempMax ++ be1 f.sites
    let relation : Nat := match s.handler.rel with
      | .free => 0 | .reserved => 1 | .binding => 2 | .bound => 3 | .orphaned => 4
    let siteReason (x : SiteStatus) : Nat := match x with
      | .up => 0 | .contactLife => 1 | .failRun => 2 | .countLimit => 3
    let held (lot product program group : Nat) : Prop := s.holds.overflow = true ∨
      ∃ x ∈ s.holds.records, x.hold.state = .inForce ∧
        (x.hold.scope = .lot ∧ x.hold.key = lot ∨ x.hold.scope = .product ∧ x.hold.key = product ∨
          x.hold.scope = .group ∧ x.hold.key = group ∧ group ≠ 0 ∨
          x.hold.scope = .program ∧ x.hold.key = program)
    statusBytes s =
      [Config.revision] ++
      be1 (match s.start.role with | .cell => 0 | .handler => 1 | .stage => 2 | .pack => 3) ++
      be1 s.start.number ++
      be1 (match s.start.station with | .start => 0 | .learning => 1 | .active => 2 | .silent => 3) ++
      be1 (match s.start.cause with | .none => 0 | .badNumber => 1 | .imageBad => 2 | .dupId => 3) ++
      be1 (match s.start.image with
        | .absent => 0 | .noSignature => 1 | .badCrc => 2 | .loaded => 3) ++
      be1 (flag (decide (1 ≤ s.start.number ∧ s.start.number ≤ 40)) + 2 * flag s.start.clamped +
        4 * flag s.holds.overflow + 8 * flag s.port.overflowed +
        16 * flag (s.port.watches.getD 0 none).isSome + 32 * flag (s.port.watches.getD 1 none).isSome +
        64 * flag (s.port.watches.getD 2 none).isSome +
        128 * flag (s.port.watches.getD 3 none).isSome) ++
      be1 s.link.last ++ be1 s.link.queue.length ++ be1 s.holds.records.length ++
      be1 s.port.events.length ++ be4 (s.now % 4294967296) ∧
    (s.start.role = .cell →
      let b := s.cell.binding
      let searched (state handler minutesLeft candidates : Nat) : Prop :=
        roleStatusBytes s =
          be1 (match b.state with | .none => 0 | .binding => 1 | .bound => 2 | .orphaned => 3) ++
          be1 b.handler ++ fit b.fit ++ be1 b.mask.toNat ++ be1 state ++ be1 handler ++
          be1 minutesLeft ++ be1 candidates
      (s.cell.reservation = .none → searched 0 0 0 0) ∧
      (∀ k t cs d, s.cell.reservation = .collecting k t cs d → searched 1 0 0 cs.length) ∧
      (∀ k t j cs d, s.cell.reservation = .reserving k t j cs d → searched 2 0 0 cs.length) ∧
      (∀ j f d, s.cell.reservation = .reserved j f d → searched 3 j (minutes d) 0)) ∧
    (s.start.role = .handler → roleStatusBytes s = be1 relation ++ be1 s.handler.cell) ∧
    (s.start.role = .stage → roleStatusBytes s = be1 s.stage.entries.length ++
      be1 (s.stage.entries.filter fun e => e.state == .waiting && !entryHeld s e).length) ∧
    (s.start.role = .pack → roleStatusBytes s = be1 s.pack.entries.length ++
      be1 (s.pack.entries.filter fun e => e.state == .released || e.state == .scrapped).length ++
      be2 s.pack.sequence) ∧
    (∀ r, holdExtra s r =
      be4 (r.timeCleared.getD 0) ++ be1 (flag (r.hold.origin == s.start.number))) ∧
    (∀ e : StageEntry,
      (entryHeld s e = true ↔ held e.lot.lotId e.lot.product e.lot.program e.lot.group) ∧
      ∀ cell score, (e.claims = [] ∧ cell = 0 ∧ score = 0 ∨
          ∃ c ∈ e.claims, c.cell = cell ∧ c.score = score ∧ ∀ x ∈ e.claims,
            x = c ∨ x.score < c.score ∨ x.score = c.score ∧ c.cell < x.cell) →
        stageEntryBytes s e =
          be4 e.lot.lotId ++ be1 e.lot.index ++ be1 e.lot.priority ++
          be1 (match e.state with
            | .waiting => 0 | .contest => 1 | .granted _ _ => 2 | .claimed _ => 3 | .issued _ => 4) ++
          be1 (match e.state with
            | .waiting | .contest => 0
            | .granted c _ | .claimed c | .issued c => c) ++
          be1 e.claims.length ++ be1 cell ++ be1 score ++ be1 e.excluded.length ++
          be1 (flag e.returnPending) ++ be1 (flag (entryHeld s e))) ∧
    (∀ x : Sighting,
      let reported (state score : Nat) : Prop := sightingBytes x =
        be4 x.lot.lotId ++ be1 x.lot.index ++ be1 x.stage ++ be1 x.lot.priority ++ be1 state ++
        be1 score ++ be1 (flag x.marked) ++
        be1 (match x.result with
          | .eligible => 0 | .notActive => 1 | .overflow => 2 | .held => 3 | .program => 4
          | .noHandler => 5 | .kit => 6 | .temperature => 7 | .outboxFull => 8 | .queueFull => 9)
      (x.state = .seen → reported 0 0) ∧ ∀ sc u, x.state = .pending sc u → reported 1 sc) ∧
    (∀ a : ActiveLot,
      let good := ((List.range 16).map fun b =>
        if a.limits.good.getLsbD b then a.bins.getD b 0 else 0).sum
      lotPartBytes s 0 a =
        be4 a.lot.lotId ++ be1 a.lot.index ++
        be1 (match a.phase with | .inPass => 1 | .awaiting => 2 | .finished => 3) ++
        be1 (match lotState s a with
          | .setup => 0 | .running => 1 | .paused => 2 | .held => 3 | .finished => 4) ++
        be1 a.pass ++ be1 a.allowance ++
        be1 (match a.source with | .product => 0 | .default => 1) ++
        be1 (match a.lastPermit with | some p => flag p.run | none => 0) ∧
      (a.bins.length = 16 → lotPartBytes s 1 a =
        be3 a.tested ++ be3 good ++ be3 a.pool ++ be3 a.unretested ++ be3 a.excess) ∧
      lotPartBytes s 2 a = beMask a.reasons ++ beMask a.suppressed ++ be1 (flag a.jamArmed) ∧
      (∀ n, n < 4 → lotPartBytes s (n + 3) a =
        be3 (a.bins.getD (4 * n) 0) ++ be3 (a.bins.getD (4 * n + 1) 0) ++
        be3 (a.bins.getD (4 * n + 2) 0) ++ be3 (a.bins.getD (4 * n + 3) 0)) ∧
      ∀ n x, 1 ≤ n → a.sites[n - 1]? = some x → siteTallyBytes n a =
        be3 x.tested ++ be3 x.good ++ be1 x.run ++
        be2 (if x.tested < a.limits.nSite then 0 else 4096 * x.good / x.tested)) ∧
    handlerBytes s =
      be1 relation ++ be1 s.handler.cell ++ be1 (minutes s.handler.deadline) ++
      be1 (minutes s.handler.orphanTimer) ++ be2 (min (s.age s.handler.freeSince / 60000) 65535) ++
      be1 s.handler.kit ++ beTemp s.start.config.tempMin ++ beTemp s.start.config.tempMax ++
      be1 s.start.config.siteCount ++ be1 (siteMask s).toNat ++ be1 (flag s.pins.indexEn) ∧
    (∀ n, 1 ≤ n → n ≤ 8 →
      let x := siteAt s.handler n
      let limit := if s.start.config.granularity then s.start.config.contactorField * 1024 + 1023
        else s.start.config.contactorField
      (maskHas (siteMask s) n = true ↔ n ≤ s.start.config.siteCount ∧ x.status = .up) ∧
      (n ≤ s.start.config.siteCount → handlerSiteBytes s n =
        be1 (if x.status = .up then 0 else 1) ++ be1 (siteReason x.status) ++ be4 x.counter ++
        be4 limit) ∧
      (s.start.config.siteCount < n → handlerSiteBytes s n = be1 s.start.config.siteCount)) ∧
    handlerPermitBytes s.handler =
      be1 (flag s.handler.permit.run) ++ be4 s.handler.permit.lotId ++
      be1 s.handler.permit.index ++ be1 s.handler.permit.kit ++ beTemp s.handler.permit.temp ++
      be1 (match s.handler.soak with
        | .unset => 0 | .settling => 1 | .soaking => 2 | .ready => 3 | .excursion => 4) ++
      beTemp (match s.handler.target with | some u => u | none => 0) ∧
    handlerJamBytes s =
      be1 (flag s.handler.jamLatch) ++ be1 (flag s.pins.jamIn) ++ be4 s.handler.jamLot.1 ++
      be1 s.handler.jamLot.2 ++ be1 s.handler.jamCount ∧
    (∀ e : PackEntry,
      (packHeld s e = true ↔ held e.lotId e.product e.program 0) ∧
      ∀ a b c d, e.slots = [a, b, c, d] → packEntryBytes s e =
        be4 e.lotId ++ be2 e.product ++ be2 e.program ++ be1 e.count ++
        be1 (match e.state with
          | .collecting => 0 | .complete => 1 | .released => 2 | .scrapped => 3) ++
        be1 (flag e.conflict) ++
        be1 (match e.waiting with
          | .none => 0 | .sublotHeld => 1 | .noUnits => 2 | .countMismatch => 3
          | .releaseYield => 4 | .packCount => 5) ++
        be1 (flag e.gateWaived) ++ be1 (flag e.countWaived) ++
        be1 (flag a.isSome + 2 * flag b.isSome + 4 * flag c.isSome + 8 * flag d.isSome) ++
        be1 (flag (packHeld s e))) ∧
    (∀ c : Completion, packSlotBytes c =
      be1 c.cell ++
      be1 (match c.result with
        | .passed => 0 | .accepted => 1 | .held => 2 | .scrapped => 3 | .empty => 4) ++
      be3 c.tested ++ be3 c.good ++ be3 c.unretested ++ be3 c.excess ++ be1 c.passes ++
      be2 c.quantity) ∧
    (∀ r : ReleaseRec,
      releasePartBytes 0 r =
        be4 r.lotId ++ be2 r.product ++ be1 r.count ++ be2 r.yield ++
        be1 (flag r.gateWaived + 2 * flag r.hasAccepted) ++ be2 r.sequence ++ be2 r.code ∧
      releasePartBytes 1 r = be4 r.sumTested ++ be4 r.sumGood)) ∧
  ∀ s : State,
    let reports (c : PortCommand) (i : Instr) (code : Nat) (bytes : List Byte) : Prop :=
      PortTakes c s → exec i s = .next (settle s (setOutcome (.done bytes) code s))
    reports .nop .nop 0x01 [] ∧
    (∀ p, reports (.readStatus p) (.readStatus p) 0x02
      (if p = 0 then statusBytes s else roleStatusBytes s)) ∧
    (∀ i p, reports (.readHold i p) (.readHold i p) 0x06
      (if p = 0 then
        be1 s.holds.records.length ++ be1 (inForceCount s.holds.records) ++
          beFlag s.holds.overflow ++ be2 s.holds.digest ++
          bytesOf (holdExtra s) s.holds.records[i]?
       else bytesOf (fun r => holdBytes r.hold) s.holds.records[i]?)) ∧
    (∀ i, reports (.readStage i) (.readStage i) 0x24
      (be1 s.stage.entries.length ++ bytesOf (stageEntryBytes s) s.stage.entries[i]?)) ∧
    (∀ p, reports (.readLot p) (.readLot p) 0x4B (bytesOf (lotPartBytes s p) s.cell.active)) ∧
    (∀ i p, reports (.readQueue i p) (.readQueue i p) 0x4C
      (if p = 0 then be1 s.cell.queue.length ++
          bytesOf (fun q => be1 q.stage ++ be4 q.accepted) s.cell.queue[i]?
       else bytesOf (fun q => lotBytes q.lot) s.cell.queue[i]?)) ∧
    (∀ i, reports (.readSighting i) (.readSighting i) 0x4D
      (be1 s.cell.sightings.length ++
        bytesOf sightingBytes (sortBy (sightingBefore s) s.cell.sightings)[i]?)) ∧
    (∀ n, reports (.readSite n) (.readSite n) 0x4E
      ((match s.cell.active with
          | some a => siteTallyBytes n a
          | none => List.replicate 9 0) ++
        beFlag (maskHas s.cell.mask n) ++ beFlag (markOf s.cell n != .up) ++
        be1 (siteStatusCode (markOf s.cell n)))) ∧
    (∀ i p, reports (.readOutbox i p) (.readOutbox i p) 0x4F
      (if p = 0 then be1 s.cell.outbox.length ++
          bytesOf (fun r => be1 r.sent ++ completionHead r.record) s.cell.outbox[i]?
       else bytesOf (fun r => completionTail r.record) s.cell.outbox[i]?)) ∧
    (∀ p, reports (.readHandler p) (.readHandler p) 0x68
      (if p = 0 then handlerBytes s else if p ≤ 8 then handlerSiteBytes s p
       else if p = 9 then handlerPermitBytes s.handler else handlerJamBytes s)) ∧
    (∀ i p, s.pack.entries.length ≤ i →
      reports (.readPack i p) (.readPack i p) 0x81 (be1 s.pack.entries.length)) ∧
    (∀ i p e, s.pack.entries[i]? = some e →
      reports (.readPack i p) (.readPack i p) 0x81
        (if p = 0 then be1 s.pack.entries.length ++ packEntryBytes s e
         else bytesOf packSlotBytes (slotAt e p))) ∧
    (∀ lot p e r, findPack s lot = some e → e.state = .released → e.release = some r →
      reports (.readRelease lot p) (.readRelease lot p) 0x82 (releasePartBytes p r)) ∧
    (∀ lot p e, PortTakes (.readRelease lot p) s → findPack s lot = some e → e.state ≠ .released →
      exec (.readRelease lot p) s = .next (settle s (setOutcome (.refused .state) 0x82 s))) ∧
    (∀ lot p, PortTakes (.readRelease lot p) s → findPack s lot = none →
      exec (.readRelease lot p) s = .next (settle s (setOutcome (.refused .unknown) 0x82 s)))

/-- READ EVENT takes the oldest event and clears OVERFLOWED, READ DIAGNOSTICS reports and clears all
twelve latches, READ PEER part 0 clears the LOST latch, and the watch slots are armed and disarmed
(R16, R32, R173, R178, R179). Beside it the codes and key fields of the 25 event kinds (R176, section 11.5),
the twelve latches and the bytes of a peer's entry with the role block of its BEACON (R28, R32) are spelled
out. The twelve flag bytes of READ DIAGNOSTICS in the order of R16 and R173, and the order and the zeros of
READ PEER, are the model's choice (log entry 12). -/
def Obligations.EventsLatchesAndWatches : Prop :=
  (∀ v : Event,
    let scope (sc : Scope) : List Byte := be1 (match sc with
      | .lot => 0 | .product => 1 | .group => 2 | .program => 3)
    let spelled : Nat × List Byte := match v with
      | .peerLost n => (1, be1 n)
      | .peerBack n => (2, be1 n)
      | .peerRestart n => (3, be1 n)
      | .holdPlaced sc k g n => (4, scope sc ++ be4 k ++ be2 g ++ be1 n)
      | .holdCleared sc k g d => (5, scope sc ++ be4 k ++ be2 g ++ be1 (match d with
          | .none => 0 | .resume => 1 | .scrap => 2 | .retest => 3))
      | .holdOverflow entered n => (6, be1 (if entered then 0 else 1) ++ be1 n)
      | .lotGranted l i n => (7, be4 l ++ be1 i ++ be1 n)
      | .lotLost l i none => (8, be4 l ++ be1 i)
      | .lotLost l i (some n) => (8, be4 l ++ be1 i ++ be1 n)
      | .lotRevoked l i n none => (9, be4 l ++ be1 i ++ be1 n)
      | .lotRevoked l i n (some r) => (9, be4 l ++ be1 i ++ be1 n ++ be1 (match r with
          | .held => 0 | .conflict => 1))
      | .retestStarted l i n p => (10, be4 l ++ be1 i ++ be1 n ++ be3 p)
      | .stageFinished l i n => (11, be4 l ++ be1 i ++ be1 n)
      | .cellFinished l i r => (11, be4 l ++ be1 i ++ be1 (match r with
          | .passed => 0 | .accepted => 1 | .held => 2 | .scrapped => 3 | .empty => 4))
      | .handlerReserved n => (12, be1 n)
      | .reservationLapsed n => (13, be1 n)
      | .noHandler k u => (14, be1 k ++ beTemp u)
      | .bound n => (15, be1 n)
      | .unbound n r => (16, be1 n ++ be1 r)
      | .cellBindFailed n r k => (17, be1 n ++ be1 r ++ be1 k)
      | .handlerBindFailed n => (17, be1 n)
      | .siteDown n r => (18, be1 n ++ be1 (match r with
          | .up => 0 | .contactLife => 1 | .failRun => 2 | .countLimit => 3))
      | .jam l i => (19, be4 l ++ be1 i)
      | .setpointRequest u => (20, beTemp u)
      | .doneConflict l i n => (21, be4 l ++ be1 i ++ be1 n)
      | .released l n c => (22, be4 l ++ be2 n ++ be2 c)
      | .lateHold l sc k g => (23, be4 l ++ scope sc ++ be4 k ++ be2 g)
      | .watchHit n kind sc k => (24, be1 n ++ be1 kind ++ scope sc ++ be4 k)
      | .dupId => (25, [])
    eventCode v = spelled.1 ∧
    padTo 11 (eventFields v) = spelled.2 ++ List.replicate (11 - spelled.2.length) 0) ∧
  (∀ (l : LinkLatches) (p : PortLatches),
    let flag (b : Bool) : List Byte := be1 (if b then 1 else 0)
    latchBytes l p = flag l.framing ++ flag l.check ++ flag l.address ++ flag l.kind ++
      flag l.content ++ flag l.txFull ++ flag l.txAbandon ++ flag l.dupId ++ flag p.length ++
      flag p.check ++ flag p.code ++ flag p.content) ∧
  (∀ e : PeerEntry,
    let flag (b : Bool) : List Byte := be1 (if b then 1 else 0)
    let beaconed : List Byte := match e.beacon with
      | none => []
      | some b =>
        be1 (match b.block with
          | .cell _ _ _ => 0 | .handler _ _ _ _ _ _ _ => 1 | .stage _ _ => 2 | .pack _ => 3) ++
        be1 (match b.state with | .start => 0 | .learning => 1 | .active => 2 | .silent => 3) ++
        be2 b.zones.toNat ++ be1 b.holdCount ++ be2 b.digest
    peerBytes e =
      be1 (match e.presence with | .unknown => 0 | .present => 1 | .lost => 2) ++
      flag e.lostLatch ++ flag e.fresh ++ flag e.beacon.isSome ++
      be4 (match e.lastHeard with | some u => u | none => 0) ++ beaconed) ∧
  (∀ b : BeaconBlock, blockBytes b = match b with
    | .cell n r l => be1 n ++ be1 r ++ be1 l
    | .handler st n k lo hi c m =>
      be1 (match st with
        | .free => 0 | .reserved => 1 | .binding => 2 | .bound => 3 | .orphaned => 4) ++
      be1 n ++ be1 k ++ beTemp lo ++ beTemp hi ++ be1 c ++ be1 m.toNat
    | .stage w z => be1 w ++ be1 z
    | .pack n => be1 n) ∧
  ∀ s : State,
    (∀ e es, PortTakes .readEvent s → s.port.events = e :: es →
      exec .readEvent s = .next (settle s (setOutcome
        (.done (be1 (eventCode e.event) ++ be4 e.time ++ padTo 11 (eventFields e.event) ++
          be1 (128 * (if s.port.overflowed then 1 else 0) + es.length % 64))) 0x04
        (s.setPort { s.port with events := es, overflowed := false })))) ∧
    (PortTakes .readEvent s → s.port.events = [] →
      exec .readEvent s = .next (settle s (setOutcome
        (.done (List.replicate 16 0 ++ be1 (128 * (if s.port.overflowed then 1 else 0)))) 0x04
        (s.setPort { s.port with overflowed := false })))) ∧
    (PortTakes .readDiagnostics s →
      exec .readDiagnostics s = .next (settle s (setOutcome
        (.done (latchBytes s.link.latches s.port.latches)) 0x03
        ((s.setLink { s.link with
            latches := { framing := false, check := false, address := false, kind := false,
                         content := false, txFull := false, txAbandon := false, dupId := false }
          }).setPort { s.port with
            latches := { length := false, check := false, code := false, content := false } })))) ∧
    (∀ n, PortTakes (.readPeer n 0) s → SizesRight s →
      exec (.readPeer n 0) s = .next (settle s (setOutcome
        (.done (peerBytes (peerAt s.peers n))) 0x05
        (s.setPeers { s.peers with
          table := s.peers.table.set (n - 1) { peerAt s.peers n with lostLatch := false } })))) ∧
    (∀ n, PortTakes (.readPeer n 1) s →
      exec (.readPeer n 1) s = .next (settle s (setOutcome
        (.done (bytesOf (fun b => blockBytes b.block) (peerAt s.peers n).beacon)) 0x05 s))) ∧
    (∀ n sc k, PortTakes (.armWatch n sc k) s → SizesRight s →
      exec (.armWatch n sc k) s = .next (settle s (setOutcome
        (.done (be1 (if (s.port.watches.getD n none).isSome then 1 else 0))) 0x09
        (s.setPort { s.port with watches := s.port.watches.set n (some (sc, k)) })))) ∧
    (∀ n, PortTakes (.disarmWatch n) s → SizesRight s →
      exec (.disarmWatch n) s = .next (settle s (setOutcome
        (.done (be1 (if (s.port.watches.getD n none).isSome then 1 else 0))) 0x0A
        (s.setPort { s.port with watches := s.port.watches.set n none }))))

/-- Chip select presents the previous outcome; a transaction that a full reset abandoned executes nothing
and leaves the previous outcome; any other is checked for LENGTH, CHECK, CODE and CONTENT in that order,
the first failure giving ERROR and its latch; and a command the station state does not allow is refused
STATE (R169, R170, R172 to R174). Beside it each command of the catalogue has its row, its code, its role and
ranges and the station states that take it spelled out (R172, R174, section 11.4), and with them what every
premise `PortTakes` says; so have the twenty bytes of an outcome (R169 to R171) and the CRC-8. An enumerated
field with no code in a raw transaction fails CONTENT; chip select asserted again changes nothing. A
transaction does not need chip select to have been asserted first (log entry 13), raw bytes have the effect
of the row they spell (log entry 14), a bin above 16 outside the mask fails CONTENT (log entry 39): the
model's choices; the revision is any byte (log entry 8). -/
def Obligations.TransactionsAreQualified : Prop :=
  (∀ (c : PortCommand) (s : State),
    let row : Instr × Nat := match c with
      | .nop => (.nop, 0x01)
      | .readStatus p => (.readStatus p, 0x02)
      | .readDiagnostics => (.readDiagnostics, 0x03)
      | .readEvent => (.readEvent, 0x04)
      | .readPeer n p => (.readPeer n p, 0x05)
      | .readHold i p => (.readHold i p, 0x06)
      | .placeHold sc k t => (.placeHold sc k t, 0x07)
      | .disposition sc k g d => (.disposition sc k g d, 0x08)
      | .armWatch n sc k => (.armWatch n sc k, 0x09)
      | .disarmWatch n => (.disarmWatch n, 0x0A)
      | .restart => (.restart, 0x0B)
      | .lotArrived l => (.lotArrived l, 0x20)
      | .lotIssued l i n => (.lotIssued l i n, 0x21)
      | .lotReturned l i => (.lotReturned l i, 0x22)
      | .lotRemoved l i => (.lotRemoved l i, 0x23)
      | .readStage i => (.readStage i, 0x24)
      | .dock n => (.dock n, 0x40)
      | .undock => (.undock, 0x41)
      | .requestHandler k t => (.requestHandler k t, 0x42)
      | .unqueue l i => (.unqueue l i, 0x43)
      | .lotLoaded l i => (.lotLoaded l i, 0x44)
      | .binReport m bins => (.binReport m bins, 0x45)
      | .endPass => (.endPass, 0x46)
      | .lotUnloaded => (.lotUnloaded, 0x47)
      | .limitSetA a => (.limitSetA a, 0x48)
      | .limitSetB p ps j => (.limitSetB p ps j, 0x49)
      | .limitClear p => (.limitClear p, 0x4A)
      | .readLot p => (.readLot p, 0x4B)
      | .readQueue i p => (.readQueue i p, 0x4C)
      | .readSighting i => (.readSighting i, 0x4D)
      | .readSite n => (.readSite n, 0x4E)
      | .readOutbox i p => (.readOutbox i p, 0x4F)
      | .tempReached t => (.tempReached t, 0x60)
      | .tempLost => (.tempLost, 0x61)
      | .unitIndexed m => (.unitIndexed m, 0x62)
      | .kitChanged k => (.kitChanged k, 0x63)
      | .contactorReplaced n => (.contactorReplaced n, 0x64)
      | .contactorCount n v => (.contactorCount n v, 0x65)
      | .siteRestore n => (.siteRestore n, 0x66)
      | .reArm => (.reArm, 0x67)
      | .readHandler p => (.readHandler p, 0x68)
      | .packDone l n => (.packDone l n, 0x80)
      | .readPack i p => (.readPack i p, 0x81)
      | .readRelease l p => (.readRelease l p, 0x82)
    let roleRight : Prop := if row.2 ≤ 0x0B then True
      else if row.2 ≤ 0x24 then s.start.role = .stage
      else if row.2 ≤ 0x4F then s.start.role = .cell
      else if row.2 ≤ 0x68 then s.start.role = .handler else s.start.role = .pack
    let live : Prop := s.start.station = .learning ∨ s.start.station = .active
    let taken : Prop := match c with
      | .nop | .readStatus _ | .readDiagnostics | .readEvent => True
      | .readPeer _ _ | .readHold _ _ | .placeHold _ _ _ | .armWatch _ _ _ | .disarmWatch _
      | .readStage _ | .readLot _ | .readQueue _ _ | .readSighting _ | .readSite _
      | .readOutbox _ _ | .readHandler _ | .readPack _ _ | .readRelease _ _ =>
        s.start.station ≠ .start
      | .restart => live ∨ s.start.station = .silent ∧ s.start.cause = .dupId
      | .lotArrived _ | .lotIssued _ _ _ | .lotReturned _ _ | .lotRemoved _ _ | .limitSetA _
      | .limitSetB _ _ _ | .limitClear _ | .tempReached _ | .tempLost | .unitIndexed _
      | .kitChanged _ | .contactorReplaced _ | .contactorCount _ _ | .siteRestore _ | .reArm => live
      | .dock _ | .undock | .requestHandler _ _ | .unqueue _ _ | .lotLoaded _ _ | .binReport _ _
      | .endPass | .lotUnloaded | .packDone _ _ | .disposition _ _ _ _ =>
        s.start.station = .active
    let in_ (lo hi n : Nat) : Prop := lo ≤ n ∧ n ≤ hi
    let id (n : Nat) : Prop := in_ 1 4294967295 n
    let word (n : Nat) : Prop := in_ 1 65535 n
    let station (n : Nat) : Prop := in_ 1 40 n
    let lot (l i : Nat) : Prop := id l ∧ in_ 1 4 i
    let temp (u : Int) : Prop := -60 ≤ u ∧ u ≤ 200
    let site (n : Nat) : Prop := in_ 1 s.start.config.siteCount n
    let key (sc : Scope) (k : Nat) : Prop := match sc with
      | .lot => id k | .product => word k | .group => in_ 1 31 k | .program => word k
    let inRange : Prop := match c with
      | .nop | .readDiagnostics | .readEvent | .restart | .undock | .endPass | .lotUnloaded
      | .limitClear _ | .tempLost | .reArm => True
      | .readStatus p => p ≤ 1
      | .readPeer n p => station n ∧ p ≤ 1
      | .readHold i p => i ≤ 23 ∧ p ≤ 1
      | .placeHold sc k t => key sc k ∧ (sc = .lot → t = 0)
      | .disposition sc k g d => key sc k ∧ word g ∧ d ≠ .none
      | .armWatch n sc k => n ≤ 3 ∧ key sc k
      | .disarmWatch n => n ≤ 3
      | .lotArrived l => lot l.lotId l.index ∧ in_ l.index 4 l.count ∧ word l.product ∧
          word l.program ∧ in_ 1 255 l.kit ∧ temp l.temp ∧ word l.quantity ∧ l.group ≤ 31 ∧
          l.priority ≤ 7 ∧ station l.packStation
      | .lotIssued l i n => lot l i ∧ station n
      | .lotReturned l i | .lotRemoved l i | .unqueue l i | .lotLoaded l i => lot l i
      | .readStage i => i ≤ 63
      | .dock n => station n
      | .requestHandler k t => in_ 1 255 k ∧ temp t
      | .binReport _ bins => ∀ b ∈ bins, b ≤ 16
      | .limitSetA a => a.lya ≤ 4096 ∧ a.lyf ≤ 4096 ∧ word a.nMin ∧ word a.nSite ∧
          a.sdl ≤ 4096 ∧ a.cf ≤ 255 ∧ a.passes ≤ 3 ∧
          ∀ b, b < 16 → a.good.getLsbD b = true → a.retestable.getLsbD b = false
      | .limitSetB _ ps j => j ≤ 255 ∧ (∀ p ∈ ps, p.1 ≠ 0 → in_ 2 16 p.1 ∧ p.2 ≤ 4096) ∧
          ps.Pairwise fun p q => p.1 = 0 ∨ p.1 ≠ q.1
      | .readLot p => p ≤ 6
      | .readQueue i p => i ≤ 3 ∧ p ≤ 1
      | .readSighting i => i ≤ 31
      | .readSite n => in_ 1 8 n
      | .readOutbox i p => i ≤ 7 ∧ p ≤ 1
      | .tempReached t => temp t
      | .unitIndexed m => ∀ n, 1 ≤ n → n ≤ 8 → m.getLsbD (n - 1) = true → site n
      | .kitChanged k => k ≤ 255
      | .contactorReplaced n | .siteRestore n => site n
      | .contactorCount n v => site n ∧ v ≤ 4294967295
      | .readHandler p => p ≤ 10
      | .packDone l n => id l ∧ n ≤ 4294967295
      | .readPack i p => i ≤ 31 ∧ p ≤ 4
      | .readRelease l p => id l ∧ p ≤ 1
    let errs (k : ErrorKind) (l : PortLatches) : Prop :=
      exec row.1 s = .next (settle s (s.setPort { s.port with
        previous := { answer := .error k, echo := row.2 }, selected := false, latches := l }))
    commandCode c = row.2 ∧
    (PortTakes c s ↔ s.pins.inReset = false ∧ s.port.abandoned = false ∧ roleRight ∧ inRange ∧
      taken) ∧
    (s.pins.inReset = false → s.port.abandoned = true →
      exec row.1 s = .next (settle s (s.setPort { s.port with abandoned := false }))) ∧
    (s.pins.inReset = false → s.port.abandoned = false →
      (¬roleRight → errs .code { s.port.latches with code := true }) ∧
      (roleRight → ¬inRange → errs .content { s.port.latches with content := true }) ∧
      (roleRight → inRange → ¬taken →
        exec row.1 s = .next (settle s (s.setPort { s.port with
          previous := { answer := .refused .state, echo := row.2 }, selected := false }))))) ∧
  (∀ (s : State) (n : Nat), codeOk s n = true ↔
    (1 ≤ n ∧ n ≤ 0x0B ∨ s.start.role = .stage ∧ 0x20 ≤ n ∧ n ≤ 0x24 ∨
      s.start.role = .cell ∧ 0x40 ≤ n ∧ n ≤ 0x4F ∨ s.start.role = .handler ∧ 0x60 ≤ n ∧ n ≤ 0x68 ∨
      s.start.role = .pack ∧ 0x80 ≤ n ∧ n ≤ 0x82)) ∧
  (∀ bs : List Byte,
    let bits := bs.flatMap fun b => [7, 6, 5, 4, 3, 2, 1, 0].map b.getLsbD
    let shift (r : BitVec 8) (b : Bool) : BitVec 8 :=
      if r.msb != b then (r <<< 1) ^^^ 0x07#8 else r <<< 1
    crc8 bs = bits.foldl shift 0#8) ∧
  (∀ (s : State) (o : Outcome),
    let result : List Byte := match o.answer with
      | .done r => r
      | .refused r => be1 (match r with
          | .state => 1 | .busy => 2 | .full => 3 | .duplicate => 4 | .wrongCell => 5
          | .unknown => 6 | .notQueued => 7 | .notRunning => 8 | .held => 9 | .notEnded => 10
          | .reserved => 11 | .handlerPresent => 12 | .notBound => 13 | .content => 14
          | .noPartA => 15 | .wrongSetpoint => 16 | .jamActive => 17 | .lifeSpent => 18
          | .unknownHold => 19 | .genMismatch => 20 | .scope => 21 | .notHere => 22 | .count => 23)
      | .already g => be2 g
      | .error k => be1 (match k with | .length => 0 | .check => 1 | .code => 2 | .content => 3)
      | .start => [Config.revision] ++
          be1 (match s.start.role with | .cell => 0 | .handler => 1 | .stage => 2 | .pack => 3) ++
          be1 s.start.number ++ be1 (if 1 ≤ s.start.number ∧ s.start.number ≤ 40 then 1 else 0) ++
          be1 (match s.start.station with
            | .start => 0 | .learning => 1 | .active => 2 | .silent => 3) ++
          be1 (match s.start.cause with | .none => 0 | .badNumber => 1 | .imageBad => 2 | .dupId => 3)
    let first := be1 (match o.answer with
        | .done _ => 1 | .refused _ => 2 | .already _ => 3 | .error _ => 4 | .start => 5) ++
      be1 o.echo ++ result.take 17 ++ List.replicate (17 - result.length) 0
    outcomeBytes s o = first ++ [crc8 first]) ∧
  ∀ s : State, s.pins.inReset = false →
    (s.port.selected = false →
      exec .csAssert s = .next (settle s (s.setPort { s.port with
        selected := true, abandoned := false, shiftOut := outcomeBytes s s.port.previous }))) ∧
    (s.port.selected = true → exec .csAssert s = .next (settle s s)) ∧
    (s.port.abandoned = true →
      (∀ t, exec (.unknownTransaction t) s =
        .next (settle s (s.setPort { s.port with abandoned := false }))) ∧
      (∀ c, transact c s = s.setPort { s.port with abandoned := false })) ∧
    (∀ t : Transaction, s.port.abandoned = false →
      let errs (k : ErrorKind) (l : PortLatches) : Prop :=
        exec (.unknownTransaction t) s = .next (settle s (s.setPort { s.port with
          previous := { answer := .error k, echo := (t.bytes.headD 0).toNat }, selected := false,
          latches := l }))
      (8 * t.bytes.length + t.extraEdges ≠ 160 → errs .length { s.port.latches with length := true }) ∧
      (t.bytes.length = 20 → t.extraEdges = 0 → crc8 (t.bytes.take 19) ≠ t.bytes.getD 19 0 →
        errs .check { s.port.latches with check := true }) ∧
      (t.bytes.length = 20 → t.extraEdges = 0 → crc8 (t.bytes.take 19) = t.bytes.getD 19 0 →
        codeOk s (t.bytes.headD 0).toNat = false →
        errs .code { s.port.latches with code := true }) ∧
      (let at_ (i : Nat) : Nat := (t.bytes.getD i 0#8).toNat
       t.bytes.length = 20 → t.extraEdges = 0 → crc8 (t.bytes.take 19) = t.bytes.getD 19 0 →
        (at_ 0 = 0x07 ∧ 3 < at_ 1 ∨ at_ 0 = 0x08 ∧ (3 < at_ 1 ∨ 3 < at_ 8) ∨
          at_ 0 = 0x09 ∧ 3 < at_ 2) →
        errs .content { s.port.latches with content := true })) ∧
    (∀ c : PortCommand, s.port.abandoned = false →
      (codeOk s (commandCode c) = true → commandOk s c = false →
        transact c s = s.setPort { s.port with
          previous := { answer := .error .content, echo := commandCode c }, selected := false,
          latches := { s.port.latches with content := true } }) ∧
      (codeOk s (commandCode c) = true → commandOk s c = true → available s (availability c) = false →
        transact c s = s.setPort { s.port with
          previous := { answer := .refused .state, echo := commandCode c }, selected := false }))

end
end

