-- ==== Sys2Proof/Laws/State.lean ====
section
/-! SUPPORT. Laws/State.lean: one lemma for each field of State after each update of one block, so that no
later proof unfolds a record update. -/
namespace Sys2Proof.Machine

/-! ### After `State.setPins` -/

@[simp] theorem State.setPins_pins (s : State) (x : Pins) : (s.setPins x).pins = x := rfl
@[simp] theorem State.setPins_start (s : State) (x : Pins) : (s.setPins x).start = s.start := rfl
@[simp] theorem State.setPins_now (s : State) (x : Pins) : (s.setPins x).now = s.now := rfl
@[simp] theorem State.setPins_link (s : State) (x : Pins) : (s.setPins x).link = s.link := rfl
@[simp] theorem State.setPins_peers (s : State) (x : Pins) : (s.setPins x).peers = s.peers := rfl
@[simp] theorem State.setPins_holds (s : State) (x : Pins) : (s.setPins x).holds = s.holds := rfl
@[simp] theorem State.setPins_limits (s : State) (x : Pins) : (s.setPins x).limits = s.limits := rfl
@[simp] theorem State.setPins_stage (s : State) (x : Pins) : (s.setPins x).stage = s.stage := rfl
@[simp] theorem State.setPins_cell (s : State) (x : Pins) : (s.setPins x).cell = s.cell := rfl
@[simp] theorem State.setPins_handler (s : State) (x : Pins) : (s.setPins x).handler = s.handler := rfl
@[simp] theorem State.setPins_pack (s : State) (x : Pins) : (s.setPins x).pack = s.pack := rfl
@[simp] theorem State.setPins_port (s : State) (x : Pins) : (s.setPins x).port = s.port := rfl
@[simp] theorem State.setPins_pending (s : State) (x : Pins) : (s.setPins x).pending = s.pending := rfl

@[simp] theorem State.setPins_clock (s : State) (x : Pins) : (s.setPins x).clock = s.clock := rfl
@[simp] theorem State.setPins_isActive (s : State) (x : Pins) : (s.setPins x).isActive = s.isActive := rfl
@[simp] theorem State.setPins_isLive (s : State) (x : Pins) : (s.setPins x).isLive = s.isLive := rfl
@[simp] theorem State.setPins_own (s : State) (x : Pins) : (s.setPins x).own = s.own := rfl
@[simp] theorem State.setPins_beaconMs (s : State) (x : Pins) : (s.setPins x).beaconMs = s.beaconMs := rfl
@[simp] theorem State.setPins_numberValid (s : State) (x : Pins) : (s.setPins x).numberValid = s.numberValid := rfl
@[simp] theorem State.setPins_isRole (s : State) (x : Pins) (r : Role) :
    (s.setPins x).isRole r = s.isRole r := rfl

@[simp] theorem State.setPins_setPins (s : State) (x y : Pins) : (s.setPins x).setPins y = s.setPins y := rfl
@[simp] theorem State.setPins_self (s : State) : s.setPins s.pins = s := rfl

/-! ### After `State.setStart` -/

@[simp] theorem State.setStart_pins (s : State) (x : StartUnit) : (s.setStart x).pins = s.pins := rfl
@[simp] theorem State.setStart_start (s : State) (x : StartUnit) : (s.setStart x).start = x := rfl
@[simp] theorem State.setStart_now (s : State) (x : StartUnit) : (s.setStart x).now = s.now := rfl
@[simp] theorem State.setStart_link (s : State) (x : StartUnit) : (s.setStart x).link = s.link := rfl
@[simp] theorem State.setStart_peers (s : State) (x : StartUnit) : (s.setStart x).peers = s.peers := rfl
@[simp] theorem State.setStart_holds (s : State) (x : StartUnit) : (s.setStart x).holds = s.holds := rfl
@[simp] theorem State.setStart_limits (s : State) (x : StartUnit) : (s.setStart x).limits = s.limits := rfl
@[simp] theorem State.setStart_stage (s : State) (x : StartUnit) : (s.setStart x).stage = s.stage := rfl
@[simp] theorem State.setStart_cell (s : State) (x : StartUnit) : (s.setStart x).cell = s.cell := rfl
@[simp] theorem State.setStart_handler (s : State) (x : StartUnit) : (s.setStart x).handler = s.handler := rfl
@[simp] theorem State.setStart_pack (s : State) (x : StartUnit) : (s.setStart x).pack = s.pack := rfl
@[simp] theorem State.setStart_port (s : State) (x : StartUnit) : (s.setStart x).port = s.port := rfl
@[simp] theorem State.setStart_pending (s : State) (x : StartUnit) : (s.setStart x).pending = s.pending := rfl

@[simp] theorem State.setStart_clock (s : State) (x : StartUnit) : (s.setStart x).clock = s.clock := rfl

@[simp] theorem State.setStart_setStart (s : State) (x y : StartUnit) : (s.setStart x).setStart y = s.setStart y := rfl
@[simp] theorem State.setStart_self (s : State) : s.setStart s.start = s := rfl

/-! ### After `State.setNow` -/

@[simp] theorem State.setNow_pins (s : State) (x : Nat) : (s.setNow x).pins = s.pins := rfl
@[simp] theorem State.setNow_start (s : State) (x : Nat) : (s.setNow x).start = s.start := rfl
@[simp] theorem State.setNow_now (s : State) (x : Nat) : (s.setNow x).now = x := rfl
@[simp] theorem State.setNow_link (s : State) (x : Nat) : (s.setNow x).link = s.link := rfl
@[simp] theorem State.setNow_peers (s : State) (x : Nat) : (s.setNow x).peers = s.peers := rfl
@[simp] theorem State.setNow_holds (s : State) (x : Nat) : (s.setNow x).holds = s.holds := rfl
@[simp] theorem State.setNow_limits (s : State) (x : Nat) : (s.setNow x).limits = s.limits := rfl
@[simp] theorem State.setNow_stage (s : State) (x : Nat) : (s.setNow x).stage = s.stage := rfl
@[simp] theorem State.setNow_cell (s : State) (x : Nat) : (s.setNow x).cell = s.cell := rfl
@[simp] theorem State.setNow_handler (s : State) (x : Nat) : (s.setNow x).handler = s.handler := rfl
@[simp] theorem State.setNow_pack (s : State) (x : Nat) : (s.setNow x).pack = s.pack := rfl
@[simp] theorem State.setNow_port (s : State) (x : Nat) : (s.setNow x).port = s.port := rfl
@[simp] theorem State.setNow_pending (s : State) (x : Nat) : (s.setNow x).pending = s.pending := rfl

@[simp] theorem State.setNow_isActive (s : State) (x : Nat) : (s.setNow x).isActive = s.isActive := rfl
@[simp] theorem State.setNow_isLive (s : State) (x : Nat) : (s.setNow x).isLive = s.isLive := rfl
@[simp] theorem State.setNow_own (s : State) (x : Nat) : (s.setNow x).own = s.own := rfl
@[simp] theorem State.setNow_beaconMs (s : State) (x : Nat) : (s.setNow x).beaconMs = s.beaconMs := rfl
@[simp] theorem State.setNow_numberValid (s : State) (x : Nat) : (s.setNow x).numberValid = s.numberValid := rfl
@[simp] theorem State.setNow_isRole (s : State) (x : Nat) (r : Role) :
    (s.setNow x).isRole r = s.isRole r := rfl

@[simp] theorem State.setNow_setNow (s : State) (x y : Nat) : (s.setNow x).setNow y = s.setNow y := rfl
@[simp] theorem State.setNow_self (s : State) : s.setNow s.now = s := rfl

/-! ### After `State.setLink` -/

@[simp] theorem State.setLink_pins (s : State) (x : Link) : (s.setLink x).pins = s.pins := rfl
@[simp] theorem State.setLink_start (s : State) (x : Link) : (s.setLink x).start = s.start := rfl
@[simp] theorem State.setLink_now (s : State) (x : Link) : (s.setLink x).now = s.now := rfl
@[simp] theorem State.setLink_link (s : State) (x : Link) : (s.setLink x).link = x := rfl
@[simp] theorem State.setLink_peers (s : State) (x : Link) : (s.setLink x).peers = s.peers := rfl
@[simp] theorem State.setLink_holds (s : State) (x : Link) : (s.setLink x).holds = s.holds := rfl
@[simp] theorem State.setLink_limits (s : State) (x : Link) : (s.setLink x).limits = s.limits := rfl
@[simp] theorem State.setLink_stage (s : State) (x : Link) : (s.setLink x).stage = s.stage := rfl
@[simp] theorem State.setLink_cell (s : State) (x : Link) : (s.setLink x).cell = s.cell := rfl
@[simp] theorem State.setLink_handler (s : State) (x : Link) : (s.setLink x).handler = s.handler := rfl
@[simp] theorem State.setLink_pack (s : State) (x : Link) : (s.setLink x).pack = s.pack := rfl
@[simp] theorem State.setLink_port (s : State) (x : Link) : (s.setLink x).port = s.port := rfl
@[simp] theorem State.setLink_pending (s : State) (x : Link) : (s.setLink x).pending = s.pending := rfl

@[simp] theorem State.setLink_clock (s : State) (x : Link) : (s.setLink x).clock = s.clock := rfl
@[simp] theorem State.setLink_isActive (s : State) (x : Link) : (s.setLink x).isActive = s.isActive := rfl
@[simp] theorem State.setLink_isLive (s : State) (x : Link) : (s.setLink x).isLive = s.isLive := rfl
@[simp] theorem State.setLink_own (s : State) (x : Link) : (s.setLink x).own = s.own := rfl
@[simp] theorem State.setLink_beaconMs (s : State) (x : Link) : (s.setLink x).beaconMs = s.beaconMs := rfl
@[simp] theorem State.setLink_numberValid (s : State) (x : Link) : (s.setLink x).numberValid = s.numberValid := rfl
@[simp] theorem State.setLink_isRole (s : State) (x : Link) (r : Role) :
    (s.setLink x).isRole r = s.isRole r := rfl

@[simp] theorem State.setLink_setLink (s : State) (x y : Link) : (s.setLink x).setLink y = s.setLink y := rfl
@[simp] theorem State.setLink_self (s : State) : s.setLink s.link = s := rfl

/-! ### After `State.setPeers` -/

@[simp] theorem State.setPeers_pins (s : State) (x : PeerDir) : (s.setPeers x).pins = s.pins := rfl
@[simp] theorem State.setPeers_start (s : State) (x : PeerDir) : (s.setPeers x).start = s.start := rfl
@[simp] theorem State.setPeers_now (s : State) (x : PeerDir) : (s.setPeers x).now = s.now := rfl
@[simp] theorem State.setPeers_link (s : State) (x : PeerDir) : (s.setPeers x).link = s.link := rfl
@[simp] theorem State.setPeers_peers (s : State) (x : PeerDir) : (s.setPeers x).peers = x := rfl
@[simp] theorem State.setPeers_holds (s : State) (x : PeerDir) : (s.setPeers x).holds = s.holds := rfl
@[simp] theorem State.setPeers_limits (s : State) (x : PeerDir) : (s.setPeers x).limits = s.limits := rfl
@[simp] theorem State.setPeers_stage (s : State) (x : PeerDir) : (s.setPeers x).stage = s.stage := rfl
@[simp] theorem State.setPeers_cell (s : State) (x : PeerDir) : (s.setPeers x).cell = s.cell := rfl
@[simp] theorem State.setPeers_handler (s : State) (x : PeerDir) : (s.setPeers x).handler = s.handler := rfl
@[simp] theorem State.setPeers_pack (s : State) (x : PeerDir) : (s.setPeers x).pack = s.pack := rfl
@[simp] theorem State.setPeers_port (s : State) (x : PeerDir) : (s.setPeers x).port = s.port := rfl
@[simp] theorem State.setPeers_pending (s : State) (x : PeerDir) : (s.setPeers x).pending = s.pending := rfl

@[simp] theorem State.setPeers_clock (s : State) (x : PeerDir) : (s.setPeers x).clock = s.clock := rfl
@[simp] theorem State.setPeers_isActive (s : State) (x : PeerDir) : (s.setPeers x).isActive = s.isActive := rfl
@[simp] theorem State.setPeers_isLive (s : State) (x : PeerDir) : (s.setPeers x).isLive = s.isLive := rfl
@[simp] theorem State.setPeers_own (s : State) (x : PeerDir) : (s.setPeers x).own = s.own := rfl
@[simp] theorem State.setPeers_beaconMs (s : State) (x : PeerDir) : (s.setPeers x).beaconMs = s.beaconMs := rfl
@[simp] theorem State.setPeers_numberValid (s : State) (x : PeerDir) : (s.setPeers x).numberValid = s.numberValid := rfl
@[simp] theorem State.setPeers_isRole (s : State) (x : PeerDir) (r : Role) :
    (s.setPeers x).isRole r = s.isRole r := rfl

@[simp] theorem State.setPeers_setPeers (s : State) (x y : PeerDir) : (s.setPeers x).setPeers y = s.setPeers y := rfl
@[simp] theorem State.setPeers_self (s : State) : s.setPeers s.peers = s := rfl

/-! ### After `State.setHolds` -/

@[simp] theorem State.setHolds_pins (s : State) (x : HoldTable) : (s.setHolds x).pins = s.pins := rfl
@[simp] theorem State.setHolds_start (s : State) (x : HoldTable) : (s.setHolds x).start = s.start := rfl
@[simp] theorem State.setHolds_now (s : State) (x : HoldTable) : (s.setHolds x).now = s.now := rfl
@[simp] theorem State.setHolds_link (s : State) (x : HoldTable) : (s.setHolds x).link = s.link := rfl
@[simp] theorem State.setHolds_peers (s : State) (x : HoldTable) : (s.setHolds x).peers = s.peers := rfl
@[simp] theorem State.setHolds_holds (s : State) (x : HoldTable) : (s.setHolds x).holds = x := rfl
@[simp] theorem State.setHolds_limits (s : State) (x : HoldTable) : (s.setHolds x).limits = s.limits := rfl
@[simp] theorem State.setHolds_stage (s : State) (x : HoldTable) : (s.setHolds x).stage = s.stage := rfl
@[simp] theorem State.setHolds_cell (s : State) (x : HoldTable) : (s.setHolds x).cell = s.cell := rfl
@[simp] theorem State.setHolds_handler (s : State) (x : HoldTable) : (s.setHolds x).handler = s.handler := rfl
@[simp] theorem State.setHolds_pack (s : State) (x : HoldTable) : (s.setHolds x).pack = s.pack := rfl
@[simp] theorem State.setHolds_port (s : State) (x : HoldTable) : (s.setHolds x).port = s.port := rfl
@[simp] theorem State.setHolds_pending (s : State) (x : HoldTable) : (s.setHolds x).pending = s.pending := rfl

@[simp] theorem State.setHolds_clock (s : State) (x : HoldTable) : (s.setHolds x).clock = s.clock := rfl
@[simp] theorem State.setHolds_isActive (s : State) (x : HoldTable) : (s.setHolds x).isActive = s.isActive := rfl
@[simp] theorem State.setHolds_isLive (s : State) (x : HoldTable) : (s.setHolds x).isLive = s.isLive := rfl
@[simp] theorem State.setHolds_own (s : State) (x : HoldTable) : (s.setHolds x).own = s.own := rfl
@[simp] theorem State.setHolds_beaconMs (s : State) (x : HoldTable) : (s.setHolds x).beaconMs = s.beaconMs := rfl
@[simp] theorem State.setHolds_numberValid (s : State) (x : HoldTable) : (s.setHolds x).numberValid = s.numberValid := rfl
@[simp] theorem State.setHolds_isRole (s : State) (x : HoldTable) (r : Role) :
    (s.setHolds x).isRole r = s.isRole r := rfl

@[simp] theorem State.setHolds_setHolds (s : State) (x y : HoldTable) : (s.setHolds x).setHolds y = s.setHolds y := rfl
@[simp] theorem State.setHolds_self (s : State) : s.setHolds s.holds = s := rfl

/-! ### After `State.setLimits` -/

@[simp] theorem State.setLimits_pins (s : State) (x : LimitTable) : (s.setLimits x).pins = s.pins := rfl
@[simp] theorem State.setLimits_start (s : State) (x : LimitTable) : (s.setLimits x).start = s.start := rfl
@[simp] theorem State.setLimits_now (s : State) (x : LimitTable) : (s.setLimits x).now = s.now := rfl
@[simp] theorem State.setLimits_link (s : State) (x : LimitTable) : (s.setLimits x).link = s.link := rfl
@[simp] theorem State.setLimits_peers (s : State) (x : LimitTable) : (s.setLimits x).peers = s.peers := rfl
@[simp] theorem State.setLimits_holds (s : State) (x : LimitTable) : (s.setLimits x).holds = s.holds := rfl
@[simp] theorem State.setLimits_limits (s : State) (x : LimitTable) : (s.setLimits x).limits = x := rfl
@[simp] theorem State.setLimits_stage (s : State) (x : LimitTable) : (s.setLimits x).stage = s.stage := rfl
@[simp] theorem State.setLimits_cell (s : State) (x : LimitTable) : (s.setLimits x).cell = s.cell := rfl
@[simp] theorem State.setLimits_handler (s : State) (x : LimitTable) : (s.setLimits x).handler = s.handler := rfl
@[simp] theorem State.setLimits_pack (s : State) (x : LimitTable) : (s.setLimits x).pack = s.pack := rfl
@[simp] theorem State.setLimits_port (s : State) (x : LimitTable) : (s.setLimits x).port = s.port := rfl
@[simp] theorem State.setLimits_pending (s : State) (x : LimitTable) : (s.setLimits x).pending = s.pending := rfl

@[simp] theorem State.setLimits_clock (s : State) (x : LimitTable) : (s.setLimits x).clock = s.clock := rfl
@[simp] theorem State.setLimits_isActive (s : State) (x : LimitTable) : (s.setLimits x).isActive = s.isActive := rfl
@[simp] theorem State.setLimits_isLive (s : State) (x : LimitTable) : (s.setLimits x).isLive = s.isLive := rfl
@[simp] theorem State.setLimits_own (s : State) (x : LimitTable) : (s.setLimits x).own = s.own := rfl
@[simp] theorem State.setLimits_beaconMs (s : State) (x : LimitTable) : (s.setLimits x).beaconMs = s.beaconMs := rfl
@[simp] theorem State.setLimits_numberValid (s : State) (x : LimitTable) : (s.setLimits x).numberValid = s.numberValid := rfl
@[simp] theorem State.setLimits_isRole (s : State) (x : LimitTable) (r : Role) :
    (s.setLimits x).isRole r = s.isRole r := rfl

@[simp] theorem State.setLimits_setLimits (s : State) (x y : LimitTable) : (s.setLimits x).setLimits y = s.setLimits y := rfl
@[simp] theorem State.setLimits_self (s : State) : s.setLimits s.limits = s := rfl

/-! ### After `State.setStage` -/

@[simp] theorem State.setStage_pins (s : State) (x : Stage) : (s.setStage x).pins = s.pins := rfl
@[simp] theorem State.setStage_start (s : State) (x : Stage) : (s.setStage x).start = s.start := rfl
@[simp] theorem State.setStage_now (s : State) (x : Stage) : (s.setStage x).now = s.now := rfl
@[simp] theorem State.setStage_link (s : State) (x : Stage) : (s.setStage x).link = s.link := rfl
@[simp] theorem State.setStage_peers (s : State) (x : Stage) : (s.setStage x).peers = s.peers := rfl
@[simp] theorem State.setStage_holds (s : State) (x : Stage) : (s.setStage x).holds = s.holds := rfl
@[simp] theorem State.setStage_limits (s : State) (x : Stage) : (s.setStage x).limits = s.limits := rfl
@[simp] theorem State.setStage_stage (s : State) (x : Stage) : (s.setStage x).stage = x := rfl
@[simp] theorem State.setStage_cell (s : State) (x : Stage) : (s.setStage x).cell = s.cell := rfl
@[simp] theorem State.setStage_handler (s : State) (x : Stage) : (s.setStage x).handler = s.handler := rfl
@[simp] theorem State.setStage_pack (s : State) (x : Stage) : (s.setStage x).pack = s.pack := rfl
@[simp] theorem State.setStage_port (s : State) (x : Stage) : (s.setStage x).port = s.port := rfl
@[simp] theorem State.setStage_pending (s : State) (x : Stage) : (s.setStage x).pending = s.pending := rfl

@[simp] theorem State.setStage_clock (s : State) (x : Stage) : (s.setStage x).clock = s.clock := rfl
@[simp] theorem State.setStage_isActive (s : State) (x : Stage) : (s.setStage x).isActive = s.isActive := rfl
@[simp] theorem State.setStage_isLive (s : State) (x : Stage) : (s.setStage x).isLive = s.isLive := rfl
@[simp] theorem State.setStage_own (s : State) (x : Stage) : (s.setStage x).own = s.own := rfl
@[simp] theorem State.setStage_beaconMs (s : State) (x : Stage) : (s.setStage x).beaconMs = s.beaconMs := rfl
@[simp] theorem State.setStage_numberValid (s : State) (x : Stage) : (s.setStage x).numberValid = s.numberValid := rfl
@[simp] theorem State.setStage_isRole (s : State) (x : Stage) (r : Role) :
    (s.setStage x).isRole r = s.isRole r := rfl

@[simp] theorem State.setStage_setStage (s : State) (x y : Stage) : (s.setStage x).setStage y = s.setStage y := rfl
@[simp] theorem State.setStage_self (s : State) : s.setStage s.stage = s := rfl

/-! ### After `State.setCell` -/

@[simp] theorem State.setCell_pins (s : State) (x : Cell) : (s.setCell x).pins = s.pins := rfl
@[simp] theorem State.setCell_start (s : State) (x : Cell) : (s.setCell x).start = s.start := rfl
@[simp] theorem State.setCell_now (s : State) (x : Cell) : (s.setCell x).now = s.now := rfl
@[simp] theorem State.setCell_link (s : State) (x : Cell) : (s.setCell x).link = s.link := rfl
@[simp] theorem State.setCell_peers (s : State) (x : Cell) : (s.setCell x).peers = s.peers := rfl
@[simp] theorem State.setCell_holds (s : State) (x : Cell) : (s.setCell x).holds = s.holds := rfl
@[simp] theorem State.setCell_limits (s : State) (x : Cell) : (s.setCell x).limits = s.limits := rfl
@[simp] theorem State.setCell_stage (s : State) (x : Cell) : (s.setCell x).stage = s.stage := rfl
@[simp] theorem State.setCell_cell (s : State) (x : Cell) : (s.setCell x).cell = x := rfl
@[simp] theorem State.setCell_handler (s : State) (x : Cell) : (s.setCell x).handler = s.handler := rfl
@[simp] theorem State.setCell_pack (s : State) (x : Cell) : (s.setCell x).pack = s.pack := rfl
@[simp] theorem State.setCell_port (s : State) (x : Cell) : (s.setCell x).port = s.port := rfl
@[simp] theorem State.setCell_pending (s : State) (x : Cell) : (s.setCell x).pending = s.pending := rfl

@[simp] theorem State.setCell_clock (s : State) (x : Cell) : (s.setCell x).clock = s.clock := rfl
@[simp] theorem State.setCell_isActive (s : State) (x : Cell) : (s.setCell x).isActive = s.isActive := rfl
@[simp] theorem State.setCell_isLive (s : State) (x : Cell) : (s.setCell x).isLive = s.isLive := rfl
@[simp] theorem State.setCell_own (s : State) (x : Cell) : (s.setCell x).own = s.own := rfl
@[simp] theorem State.setCell_beaconMs (s : State) (x : Cell) : (s.setCell x).beaconMs = s.beaconMs := rfl
@[simp] theorem State.setCell_numberValid (s : State) (x : Cell) : (s.setCell x).numberValid = s.numberValid := rfl
@[simp] theorem State.setCell_isRole (s : State) (x : Cell) (r : Role) :
    (s.setCell x).isRole r = s.isRole r := rfl

@[simp] theorem State.setCell_setCell (s : State) (x y : Cell) : (s.setCell x).setCell y = s.setCell y := rfl
@[simp] theorem State.setCell_self (s : State) : s.setCell s.cell = s := rfl

/-! ### After `State.setHandler` -/

@[simp] theorem State.setHandler_pins (s : State) (x : Handler) : (s.setHandler x).pins = s.pins := rfl
@[simp] theorem State.setHandler_start (s : State) (x : Handler) : (s.setHandler x).start = s.start := rfl
@[simp] theorem State.setHandler_now (s : State) (x : Handler) : (s.setHandler x).now = s.now := rfl
@[simp] theorem State.setHandler_link (s : State) (x : Handler) : (s.setHandler x).link = s.link := rfl
@[simp] theorem State.setHandler_peers (s : State) (x : Handler) : (s.setHandler x).peers = s.peers := rfl
@[simp] theorem State.setHandler_holds (s : State) (x : Handler) : (s.setHandler x).holds = s.holds := rfl
@[simp] theorem State.setHandler_limits (s : State) (x : Handler) : (s.setHandler x).limits = s.limits := rfl
@[simp] theorem State.setHandler_stage (s : State) (x : Handler) : (s.setHandler x).stage = s.stage := rfl
@[simp] theorem State.setHandler_cell (s : State) (x : Handler) : (s.setHandler x).cell = s.cell := rfl
@[simp] theorem State.setHandler_handler (s : State) (x : Handler) : (s.setHandler x).handler = x := rfl
@[simp] theorem State.setHandler_pack (s : State) (x : Handler) : (s.setHandler x).pack = s.pack := rfl
@[simp] theorem State.setHandler_port (s : State) (x : Handler) : (s.setHandler x).port = s.port := rfl
@[simp] theorem State.setHandler_pending (s : State) (x : Handler) : (s.setHandler x).pending = s.pending := rfl

@[simp] theorem State.setHandler_clock (s : State) (x : Handler) : (s.setHandler x).clock = s.clock := rfl
@[simp] theorem State.setHandler_isActive (s : State) (x : Handler) : (s.setHandler x).isActive = s.isActive := rfl
@[simp] theorem State.setHandler_isLive (s : State) (x : Handler) : (s.setHandler x).isLive = s.isLive := rfl
@[simp] theorem State.setHandler_own (s : State) (x : Handler) : (s.setHandler x).own = s.own := rfl
@[simp] theorem State.setHandler_beaconMs (s : State) (x : Handler) : (s.setHandler x).beaconMs = s.beaconMs := rfl
@[simp] theorem State.setHandler_numberValid (s : State) (x : Handler) : (s.setHandler x).numberValid = s.numberValid := rfl
@[simp] theorem State.setHandler_isRole (s : State) (x : Handler) (r : Role) :
    (s.setHandler x).isRole r = s.isRole r := rfl

@[simp] theorem State.setHandler_setHandler (s : State) (x y : Handler) : (s.setHandler x).setHandler y = s.setHandler y := rfl
@[simp] theorem State.setHandler_self (s : State) : s.setHandler s.handler = s := rfl

/-! ### After `State.setPack` -/

@[simp] theorem State.setPack_pins (s : State) (x : Pack) : (s.setPack x).pins = s.pins := rfl
@[simp] theorem State.setPack_start (s : State) (x : Pack) : (s.setPack x).start = s.start := rfl
@[simp] theorem State.setPack_now (s : State) (x : Pack) : (s.setPack x).now = s.now := rfl
@[simp] theorem State.setPack_link (s : State) (x : Pack) : (s.setPack x).link = s.link := rfl
@[simp] theorem State.setPack_peers (s : State) (x : Pack) : (s.setPack x).peers = s.peers := rfl
@[simp] theorem State.setPack_holds (s : State) (x : Pack) : (s.setPack x).holds = s.holds := rfl
@[simp] theorem State.setPack_limits (s : State) (x : Pack) : (s.setPack x).limits = s.limits := rfl
@[simp] theorem State.setPack_stage (s : State) (x : Pack) : (s.setPack x).stage = s.stage := rfl
@[simp] theorem State.setPack_cell (s : State) (x : Pack) : (s.setPack x).cell = s.cell := rfl
@[simp] theorem State.setPack_handler (s : State) (x : Pack) : (s.setPack x).handler = s.handler := rfl
@[simp] theorem State.setPack_pack (s : State) (x : Pack) : (s.setPack x).pack = x := rfl
@[simp] theorem State.setPack_port (s : State) (x : Pack) : (s.setPack x).port = s.port := rfl
@[simp] theorem State.setPack_pending (s : State) (x : Pack) : (s.setPack x).pending = s.pending := rfl

@[simp] theorem State.setPack_clock (s : State) (x : Pack) : (s.setPack x).clock = s.clock := rfl
@[simp] theorem State.setPack_isActive (s : State) (x : Pack) : (s.setPack x).isActive = s.isActive := rfl
@[simp] theorem State.setPack_isLive (s : State) (x : Pack) : (s.setPack x).isLive = s.isLive := rfl
@[simp] theorem State.setPack_own (s : State) (x : Pack) : (s.setPack x).own = s.own := rfl
@[simp] theorem State.setPack_beaconMs (s : State) (x : Pack) : (s.setPack x).beaconMs = s.beaconMs := rfl
@[simp] theorem State.setPack_numberValid (s : State) (x : Pack) : (s.setPack x).numberValid = s.numberValid := rfl
@[simp] theorem State.setPack_isRole (s : State) (x : Pack) (r : Role) :
    (s.setPack x).isRole r = s.isRole r := rfl

@[simp] theorem State.setPack_setPack (s : State) (x y : Pack) : (s.setPack x).setPack y = s.setPack y := rfl
@[simp] theorem State.setPack_self (s : State) : s.setPack s.pack = s := rfl

/-! ### After `State.setPort` -/

@[simp] theorem State.setPort_pins (s : State) (x : Port) : (s.setPort x).pins = s.pins := rfl
@[simp] theorem State.setPort_start (s : State) (x : Port) : (s.setPort x).start = s.start := rfl
@[simp] theorem State.setPort_now (s : State) (x : Port) : (s.setPort x).now = s.now := rfl
@[simp] theorem State.setPort_link (s : State) (x : Port) : (s.setPort x).link = s.link := rfl
@[simp] theorem State.setPort_peers (s : State) (x : Port) : (s.setPort x).peers = s.peers := rfl
@[simp] theorem State.setPort_holds (s : State) (x : Port) : (s.setPort x).holds = s.holds := rfl
@[simp] theorem State.setPort_limits (s : State) (x : Port) : (s.setPort x).limits = s.limits := rfl
@[simp] theorem State.setPort_stage (s : State) (x : Port) : (s.setPort x).stage = s.stage := rfl
@[simp] theorem State.setPort_cell (s : State) (x : Port) : (s.setPort x).cell = s.cell := rfl
@[simp] theorem State.setPort_handler (s : State) (x : Port) : (s.setPort x).handler = s.handler := rfl
@[simp] theorem State.setPort_pack (s : State) (x : Port) : (s.setPort x).pack = s.pack := rfl
@[simp] theorem State.setPort_port (s : State) (x : Port) : (s.setPort x).port = x := rfl
@[simp] theorem State.setPort_pending (s : State) (x : Port) : (s.setPort x).pending = s.pending := rfl

@[simp] theorem State.setPort_clock (s : State) (x : Port) : (s.setPort x).clock = s.clock := rfl
@[simp] theorem State.setPort_isActive (s : State) (x : Port) : (s.setPort x).isActive = s.isActive := rfl
@[simp] theorem State.setPort_isLive (s : State) (x : Port) : (s.setPort x).isLive = s.isLive := rfl
@[simp] theorem State.setPort_own (s : State) (x : Port) : (s.setPort x).own = s.own := rfl
@[simp] theorem State.setPort_beaconMs (s : State) (x : Port) : (s.setPort x).beaconMs = s.beaconMs := rfl
@[simp] theorem State.setPort_numberValid (s : State) (x : Port) : (s.setPort x).numberValid = s.numberValid := rfl
@[simp] theorem State.setPort_isRole (s : State) (x : Port) (r : Role) :
    (s.setPort x).isRole r = s.isRole r := rfl

@[simp] theorem State.setPort_setPort (s : State) (x y : Port) : (s.setPort x).setPort y = s.setPort y := rfl
@[simp] theorem State.setPort_self (s : State) : s.setPort s.port = s := rfl

/-! ### After `State.setPending` -/

@[simp] theorem State.setPending_pins (s : State) (x : List Instr) : (s.setPending x).pins = s.pins := rfl
@[simp] theorem State.setPending_start (s : State) (x : List Instr) : (s.setPending x).start = s.start := rfl
@[simp] theorem State.setPending_now (s : State) (x : List Instr) : (s.setPending x).now = s.now := rfl
@[simp] theorem State.setPending_link (s : State) (x : List Instr) : (s.setPending x).link = s.link := rfl
@[simp] theorem State.setPending_peers (s : State) (x : List Instr) : (s.setPending x).peers = s.peers := rfl
@[simp] theorem State.setPending_holds (s : State) (x : List Instr) : (s.setPending x).holds = s.holds := rfl
@[simp] theorem State.setPending_limits (s : State) (x : List Instr) : (s.setPending x).limits = s.limits := rfl
@[simp] theorem State.setPending_stage (s : State) (x : List Instr) : (s.setPending x).stage = s.stage := rfl
@[simp] theorem State.setPending_cell (s : State) (x : List Instr) : (s.setPending x).cell = s.cell := rfl
@[simp] theorem State.setPending_handler (s : State) (x : List Instr) : (s.setPending x).handler = s.handler := rfl
@[simp] theorem State.setPending_pack (s : State) (x : List Instr) : (s.setPending x).pack = s.pack := rfl
@[simp] theorem State.setPending_port (s : State) (x : List Instr) : (s.setPending x).port = s.port := rfl
@[simp] theorem State.setPending_pending (s : State) (x : List Instr) : (s.setPending x).pending = x := rfl

@[simp] theorem State.setPending_clock (s : State) (x : List Instr) : (s.setPending x).clock = s.clock := rfl
@[simp] theorem State.setPending_isActive (s : State) (x : List Instr) : (s.setPending x).isActive = s.isActive := rfl
@[simp] theorem State.setPending_isLive (s : State) (x : List Instr) : (s.setPending x).isLive = s.isLive := rfl
@[simp] theorem State.setPending_own (s : State) (x : List Instr) : (s.setPending x).own = s.own := rfl
@[simp] theorem State.setPending_beaconMs (s : State) (x : List Instr) : (s.setPending x).beaconMs = s.beaconMs := rfl
@[simp] theorem State.setPending_numberValid (s : State) (x : List Instr) : (s.setPending x).numberValid = s.numberValid := rfl
@[simp] theorem State.setPending_isRole (s : State) (x : List Instr) (r : Role) :
    (s.setPending x).isRole r = s.isRole r := rfl

@[simp] theorem State.setPending_setPending (s : State) (x y : List Instr) : (s.setPending x).setPending y = s.setPending y := rfl
@[simp] theorem State.setPending_self (s : State) : s.setPending s.pending = s := rfl

end Sys2Proof.Machine
end

