-- ==== Sys2Proof/Laws/Ops.lean ====
section
/-! SUPPORT. Laws/Ops.lean: what raising an event and posting a frame can do: an event changes the port alone,
a frame the link alone. -/
namespace Sys2Proof.Machine

/-! ## Raising an event (R176) -/

/-- Raising an event changes the event queue or OVERFLOWED, nothing else. -/
theorem raise_cases (e : Event) (s : State) :
    (s.port.events.length < 32 ∧
        raise e s = s.setPort { s.port with events := s.port.events ++ [{ event := e, time := s.clock }] }) ∨
      (32 ≤ s.port.events.length ∧ raise e s = s.setPort { s.port with overflowed := true }) := by
  unfold raise Config.eventSize
  split
  · exact .inl ⟨‹_›, rfl⟩
  · exact .inr ⟨by omega, rfl⟩

/-! ### The fields `raise` leaves as they are -/

@[simp] theorem raise_pins (e : Event) (s : State) : (raise e s).pins = s.pins := by
  rcases raise_cases e s with ⟨_, h⟩ | ⟨_, h⟩ <;> rw [h] <;> rfl
@[simp] theorem raise_start (e : Event) (s : State) : (raise e s).start = s.start := by
  rcases raise_cases e s with ⟨_, h⟩ | ⟨_, h⟩ <;> rw [h] <;> rfl
@[simp] theorem raise_now (e : Event) (s : State) : (raise e s).now = s.now := by
  rcases raise_cases e s with ⟨_, h⟩ | ⟨_, h⟩ <;> rw [h] <;> rfl
@[simp] theorem raise_link (e : Event) (s : State) : (raise e s).link = s.link := by
  rcases raise_cases e s with ⟨_, h⟩ | ⟨_, h⟩ <;> rw [h] <;> rfl
@[simp] theorem raise_peers (e : Event) (s : State) : (raise e s).peers = s.peers := by
  rcases raise_cases e s with ⟨_, h⟩ | ⟨_, h⟩ <;> rw [h] <;> rfl
@[simp] theorem raise_holds (e : Event) (s : State) : (raise e s).holds = s.holds := by
  rcases raise_cases e s with ⟨_, h⟩ | ⟨_, h⟩ <;> rw [h] <;> rfl
@[simp] theorem raise_limits (e : Event) (s : State) : (raise e s).limits = s.limits := by
  rcases raise_cases e s with ⟨_, h⟩ | ⟨_, h⟩ <;> rw [h] <;> rfl
@[simp] theorem raise_stage (e : Event) (s : State) : (raise e s).stage = s.stage := by
  rcases raise_cases e s with ⟨_, h⟩ | ⟨_, h⟩ <;> rw [h] <;> rfl
@[simp] theorem raise_cell (e : Event) (s : State) : (raise e s).cell = s.cell := by
  rcases raise_cases e s with ⟨_, h⟩ | ⟨_, h⟩ <;> rw [h] <;> rfl
@[simp] theorem raise_handler (e : Event) (s : State) : (raise e s).handler = s.handler := by
  rcases raise_cases e s with ⟨_, h⟩ | ⟨_, h⟩ <;> rw [h] <;> rfl
@[simp] theorem raise_pack (e : Event) (s : State) : (raise e s).pack = s.pack := by
  rcases raise_cases e s with ⟨_, h⟩ | ⟨_, h⟩ <;> rw [h] <;> rfl
@[simp] theorem raise_pending (e : Event) (s : State) : (raise e s).pending = s.pending := by
  rcases raise_cases e s with ⟨_, h⟩ | ⟨_, h⟩ <;> rw [h] <;> rfl
@[simp] theorem raise_clock (e : Event) (s : State) : (raise e s).clock = s.clock := by
  simp [State.clock]
@[simp] theorem raise_isActive (e : Event) (s : State) : (raise e s).isActive = s.isActive := by
  simp [State.isActive]
@[simp] theorem raise_isLive (e : Event) (s : State) : (raise e s).isLive = s.isLive := by
  simp [State.isLive]
@[simp] theorem raise_own (e : Event) (s : State) : (raise e s).own = s.own := by
  simp [State.own]
@[simp] theorem raise_beaconMs (e : Event) (s : State) : (raise e s).beaconMs = s.beaconMs := by
  simp [State.beaconMs]
@[simp] theorem raise_numberValid (e : Event) (s : State) : (raise e s).numberValid = s.numberValid := by
  simp [State.numberValid]
@[simp] theorem raise_isRole (e : Event) (s : State) (r : Role) : (raise e s).isRole r = s.isRole r := by
  simp [State.isRole]

/-- Raising an event leaves the rest of the port as it is. -/
@[simp] theorem raise_port_previous (e : Event) (s : State) :
    (raise e s).port.previous = s.port.previous := by
  rcases raise_cases e s with ⟨_, h⟩ | ⟨_, h⟩ <;> rw [h] <;> rfl
@[simp] theorem raise_port_watches (e : Event) (s : State) :
    (raise e s).port.watches = s.port.watches := by
  rcases raise_cases e s with ⟨_, h⟩ | ⟨_, h⟩ <;> rw [h] <;> rfl
@[simp] theorem raise_port_selected (e : Event) (s : State) :
    (raise e s).port.selected = s.port.selected := by
  rcases raise_cases e s with ⟨_, h⟩ | ⟨_, h⟩ <;> rw [h] <;> rfl
@[simp] theorem raise_port_abandoned (e : Event) (s : State) :
    (raise e s).port.abandoned = s.port.abandoned := by
  rcases raise_cases e s with ⟨_, h⟩ | ⟨_, h⟩ <;> rw [h] <;> rfl
@[simp] theorem raise_port_latches (e : Event) (s : State) :
    (raise e s).port.latches = s.port.latches := by
  rcases raise_cases e s with ⟨_, h⟩ | ⟨_, h⟩ <;> rw [h] <;> rfl

/-- The event queue never passes 32 records (R176). -/
theorem raise_events_length (e : Event) (s : State) (h : s.port.events.length ≤ 32) :
    (raise e s).port.events.length ≤ 32 := by
  rcases raise_cases e s with ⟨h1, h2⟩ | ⟨_, h2⟩ <;> rw [h2] <;> simp <;> omega

/-! ## Posting a frame (R12, R13) -/

/-- Posting a frame does nothing at an OFF transmitter, sets TX_FULL at a full queue, and otherwise puts
the frame at the tail. -/
theorem post_cases (a : Address) (p : Payload) (s : State) :
    (s.link.tx = .off ∧ post a p s = s) ∨
      (s.link.tx ≠ .off ∧ s.link.queue.length < 16 ∧
        post a p s = s.setLink { s.link with
          queue := s.link.queue ++ [{ addr := a, payload := p }], tx := s.link.tx.afterPost }) ∨
      (s.link.tx ≠ .off ∧ 16 ≤ s.link.queue.length ∧
        post a p s = s.setLink { s.link with latches := { s.link.latches with txFull := true } }) := by
  unfold post Config.queueSize
  split
  · exact .inl ⟨‹_›, rfl⟩
  · split
    · exact .inr (.inl ⟨‹_›, ‹_›, rfl⟩)
    · exact .inr (.inr ⟨‹_›, by omega, rfl⟩)

/-! ### The fields `post` leaves as they are -/

@[simp] theorem post_pins (a : Address) (p : Payload) (s : State) : (post a p s).pins = s.pins := by
  rcases post_cases a p s with ⟨_, h⟩ | ⟨_, _, h⟩ | ⟨_, _, h⟩ <;> rw [h] <;> rfl
@[simp] theorem post_start (a : Address) (p : Payload) (s : State) : (post a p s).start = s.start := by
  rcases post_cases a p s with ⟨_, h⟩ | ⟨_, _, h⟩ | ⟨_, _, h⟩ <;> rw [h] <;> rfl
@[simp] theorem post_now (a : Address) (p : Payload) (s : State) : (post a p s).now = s.now := by
  rcases post_cases a p s with ⟨_, h⟩ | ⟨_, _, h⟩ | ⟨_, _, h⟩ <;> rw [h] <;> rfl
@[simp] theorem post_peers (a : Address) (p : Payload) (s : State) : (post a p s).peers = s.peers := by
  rcases post_cases a p s with ⟨_, h⟩ | ⟨_, _, h⟩ | ⟨_, _, h⟩ <;> rw [h] <;> rfl
@[simp] theorem post_holds (a : Address) (p : Payload) (s : State) : (post a p s).holds = s.holds := by
  rcases post_cases a p s with ⟨_, h⟩ | ⟨_, _, h⟩ | ⟨_, _, h⟩ <;> rw [h] <;> rfl
@[simp] theorem post_limits (a : Address) (p : Payload) (s : State) : (post a p s).limits = s.limits := by
  rcases post_cases a p s with ⟨_, h⟩ | ⟨_, _, h⟩ | ⟨_, _, h⟩ <;> rw [h] <;> rfl
@[simp] theorem post_stage (a : Address) (p : Payload) (s : State) : (post a p s).stage = s.stage := by
  rcases post_cases a p s with ⟨_, h⟩ | ⟨_, _, h⟩ | ⟨_, _, h⟩ <;> rw [h] <;> rfl
@[simp] theorem post_cell (a : Address) (p : Payload) (s : State) : (post a p s).cell = s.cell := by
  rcases post_cases a p s with ⟨_, h⟩ | ⟨_, _, h⟩ | ⟨_, _, h⟩ <;> rw [h] <;> rfl
@[simp] theorem post_handler (a : Address) (p : Payload) (s : State) : (post a p s).handler = s.handler := by
  rcases post_cases a p s with ⟨_, h⟩ | ⟨_, _, h⟩ | ⟨_, _, h⟩ <;> rw [h] <;> rfl
@[simp] theorem post_pack (a : Address) (p : Payload) (s : State) : (post a p s).pack = s.pack := by
  rcases post_cases a p s with ⟨_, h⟩ | ⟨_, _, h⟩ | ⟨_, _, h⟩ <;> rw [h] <;> rfl
@[simp] theorem post_port (a : Address) (p : Payload) (s : State) : (post a p s).port = s.port := by
  rcases post_cases a p s with ⟨_, h⟩ | ⟨_, _, h⟩ | ⟨_, _, h⟩ <;> rw [h] <;> rfl
@[simp] theorem post_pending (a : Address) (p : Payload) (s : State) : (post a p s).pending = s.pending := by
  rcases post_cases a p s with ⟨_, h⟩ | ⟨_, _, h⟩ | ⟨_, _, h⟩ <;> rw [h] <;> rfl
@[simp] theorem post_clock (a : Address) (p : Payload) (s : State) : (post a p s).clock = s.clock := by
  simp [State.clock]
@[simp] theorem post_isActive (a : Address) (p : Payload) (s : State) : (post a p s).isActive = s.isActive := by
  simp [State.isActive]
@[simp] theorem post_isLive (a : Address) (p : Payload) (s : State) : (post a p s).isLive = s.isLive := by
  simp [State.isLive]
@[simp] theorem post_own (a : Address) (p : Payload) (s : State) : (post a p s).own = s.own := by
  simp [State.own]
@[simp] theorem post_beaconMs (a : Address) (p : Payload) (s : State) : (post a p s).beaconMs = s.beaconMs := by
  simp [State.beaconMs]
@[simp] theorem post_numberValid (a : Address) (p : Payload) (s : State) : (post a p s).numberValid = s.numberValid := by
  simp [State.numberValid]
@[simp] theorem post_isRole (a : Address) (p : Payload) (s : State) (r : Role) : (post a p s).isRole r = s.isRole r := by
  simp [State.isRole]

/-! ### The fields `sendTo` leaves as they are -/

@[simp] theorem sendTo_pins (n : Nat) (p : Payload) (s : State) : (sendTo n p s).pins = s.pins := by
  simp [sendTo]
@[simp] theorem sendTo_start (n : Nat) (p : Payload) (s : State) : (sendTo n p s).start = s.start := by
  simp [sendTo]
@[simp] theorem sendTo_now (n : Nat) (p : Payload) (s : State) : (sendTo n p s).now = s.now := by
  simp [sendTo]
@[simp] theorem sendTo_peers (n : Nat) (p : Payload) (s : State) : (sendTo n p s).peers = s.peers := by
  simp [sendTo]
@[simp] theorem sendTo_holds (n : Nat) (p : Payload) (s : State) : (sendTo n p s).holds = s.holds := by
  simp [sendTo]
@[simp] theorem sendTo_limits (n : Nat) (p : Payload) (s : State) : (sendTo n p s).limits = s.limits := by
  simp [sendTo]
@[simp] theorem sendTo_stage (n : Nat) (p : Payload) (s : State) : (sendTo n p s).stage = s.stage := by
  simp [sendTo]
@[simp] theorem sendTo_cell (n : Nat) (p : Payload) (s : State) : (sendTo n p s).cell = s.cell := by
  simp [sendTo]
@[simp] theorem sendTo_handler (n : Nat) (p : Payload) (s : State) : (sendTo n p s).handler = s.handler := by
  simp [sendTo]
@[simp] theorem sendTo_pack (n : Nat) (p : Payload) (s : State) : (sendTo n p s).pack = s.pack := by
  simp [sendTo]
@[simp] theorem sendTo_port (n : Nat) (p : Payload) (s : State) : (sendTo n p s).port = s.port := by
  simp [sendTo]
@[simp] theorem sendTo_pending (n : Nat) (p : Payload) (s : State) : (sendTo n p s).pending = s.pending := by
  simp [sendTo]
@[simp] theorem sendTo_clock (n : Nat) (p : Payload) (s : State) : (sendTo n p s).clock = s.clock := by
  simp [State.clock]
@[simp] theorem sendTo_isActive (n : Nat) (p : Payload) (s : State) : (sendTo n p s).isActive = s.isActive := by
  simp [State.isActive]
@[simp] theorem sendTo_isLive (n : Nat) (p : Payload) (s : State) : (sendTo n p s).isLive = s.isLive := by
  simp [State.isLive]
@[simp] theorem sendTo_own (n : Nat) (p : Payload) (s : State) : (sendTo n p s).own = s.own := by
  simp [State.own]
@[simp] theorem sendTo_beaconMs (n : Nat) (p : Payload) (s : State) : (sendTo n p s).beaconMs = s.beaconMs := by
  simp [State.beaconMs]
@[simp] theorem sendTo_numberValid (n : Nat) (p : Payload) (s : State) : (sendTo n p s).numberValid = s.numberValid := by
  simp [State.numberValid]
@[simp] theorem sendTo_isRole (n : Nat) (p : Payload) (s : State) (r : Role) : (sendTo n p s).isRole r = s.isRole r := by
  simp [State.isRole]

/-! ### The fields `sendAll` leaves as they are -/

@[simp] theorem sendAll_pins (p : Payload) (s : State) : (sendAll p s).pins = s.pins := by
  simp [sendAll]
@[simp] theorem sendAll_start (p : Payload) (s : State) : (sendAll p s).start = s.start := by
  simp [sendAll]
@[simp] theorem sendAll_now (p : Payload) (s : State) : (sendAll p s).now = s.now := by
  simp [sendAll]
@[simp] theorem sendAll_peers (p : Payload) (s : State) : (sendAll p s).peers = s.peers := by
  simp [sendAll]
@[simp] theorem sendAll_holds (p : Payload) (s : State) : (sendAll p s).holds = s.holds := by
  simp [sendAll]
@[simp] theorem sendAll_limits (p : Payload) (s : State) : (sendAll p s).limits = s.limits := by
  simp [sendAll]
@[simp] theorem sendAll_stage (p : Payload) (s : State) : (sendAll p s).stage = s.stage := by
  simp [sendAll]
@[simp] theorem sendAll_cell (p : Payload) (s : State) : (sendAll p s).cell = s.cell := by
  simp [sendAll]
@[simp] theorem sendAll_handler (p : Payload) (s : State) : (sendAll p s).handler = s.handler := by
  simp [sendAll]
@[simp] theorem sendAll_pack (p : Payload) (s : State) : (sendAll p s).pack = s.pack := by
  simp [sendAll]
@[simp] theorem sendAll_port (p : Payload) (s : State) : (sendAll p s).port = s.port := by
  simp [sendAll]
@[simp] theorem sendAll_pending (p : Payload) (s : State) : (sendAll p s).pending = s.pending := by
  simp [sendAll]
@[simp] theorem sendAll_clock (p : Payload) (s : State) : (sendAll p s).clock = s.clock := by
  simp [State.clock]
@[simp] theorem sendAll_isActive (p : Payload) (s : State) : (sendAll p s).isActive = s.isActive := by
  simp [State.isActive]
@[simp] theorem sendAll_isLive (p : Payload) (s : State) : (sendAll p s).isLive = s.isLive := by
  simp [State.isLive]
@[simp] theorem sendAll_own (p : Payload) (s : State) : (sendAll p s).own = s.own := by
  simp [State.own]
@[simp] theorem sendAll_beaconMs (p : Payload) (s : State) : (sendAll p s).beaconMs = s.beaconMs := by
  simp [State.beaconMs]
@[simp] theorem sendAll_numberValid (p : Payload) (s : State) : (sendAll p s).numberValid = s.numberValid := by
  simp [State.numberValid]
@[simp] theorem sendAll_isRole (p : Payload) (s : State) (r : Role) : (sendAll p s).isRole r = s.isRole r := by
  simp [State.isRole]

/-! ### The fields `sendZone` leaves as they are -/

@[simp] theorem sendZone_pins (z : Nat) (p : Payload) (s : State) : (sendZone z p s).pins = s.pins := by
  simp [sendZone]
@[simp] theorem sendZone_start (z : Nat) (p : Payload) (s : State) : (sendZone z p s).start = s.start := by
  simp [sendZone]
@[simp] theorem sendZone_now (z : Nat) (p : Payload) (s : State) : (sendZone z p s).now = s.now := by
  simp [sendZone]
@[simp] theorem sendZone_peers (z : Nat) (p : Payload) (s : State) : (sendZone z p s).peers = s.peers := by
  simp [sendZone]
@[simp] theorem sendZone_holds (z : Nat) (p : Payload) (s : State) : (sendZone z p s).holds = s.holds := by
  simp [sendZone]
@[simp] theorem sendZone_limits (z : Nat) (p : Payload) (s : State) : (sendZone z p s).limits = s.limits := by
  simp [sendZone]
@[simp] theorem sendZone_stage (z : Nat) (p : Payload) (s : State) : (sendZone z p s).stage = s.stage := by
  simp [sendZone]
@[simp] theorem sendZone_cell (z : Nat) (p : Payload) (s : State) : (sendZone z p s).cell = s.cell := by
  simp [sendZone]
@[simp] theorem sendZone_handler (z : Nat) (p : Payload) (s : State) : (sendZone z p s).handler = s.handler := by
  simp [sendZone]
@[simp] theorem sendZone_pack (z : Nat) (p : Payload) (s : State) : (sendZone z p s).pack = s.pack := by
  simp [sendZone]
@[simp] theorem sendZone_port (z : Nat) (p : Payload) (s : State) : (sendZone z p s).port = s.port := by
  simp [sendZone]
@[simp] theorem sendZone_pending (z : Nat) (p : Payload) (s : State) : (sendZone z p s).pending = s.pending := by
  simp [sendZone]
@[simp] theorem sendZone_clock (z : Nat) (p : Payload) (s : State) : (sendZone z p s).clock = s.clock := by
  simp [State.clock]
@[simp] theorem sendZone_isActive (z : Nat) (p : Payload) (s : State) : (sendZone z p s).isActive = s.isActive := by
  simp [State.isActive]
@[simp] theorem sendZone_isLive (z : Nat) (p : Payload) (s : State) : (sendZone z p s).isLive = s.isLive := by
  simp [State.isLive]
@[simp] theorem sendZone_own (z : Nat) (p : Payload) (s : State) : (sendZone z p s).own = s.own := by
  simp [State.own]
@[simp] theorem sendZone_beaconMs (z : Nat) (p : Payload) (s : State) : (sendZone z p s).beaconMs = s.beaconMs := by
  simp [State.beaconMs]
@[simp] theorem sendZone_numberValid (z : Nat) (p : Payload) (s : State) : (sendZone z p s).numberValid = s.numberValid := by
  simp [State.numberValid]
@[simp] theorem sendZone_isRole (z : Nat) (p : Payload) (s : State) (r : Role) : (sendZone z p s).isRole r = s.isRole r := by
  simp [State.isRole]

/-! ### The fields `postBeacon` leaves as they are -/

@[simp] theorem postBeacon_pins (b : BeaconBody) (s : State) : (postBeacon b s).pins = s.pins := by
  unfold postBeacon; dsimp only; split <;> simp
@[simp] theorem postBeacon_start (b : BeaconBody) (s : State) : (postBeacon b s).start = s.start := by
  unfold postBeacon; dsimp only; split <;> simp
@[simp] theorem postBeacon_now (b : BeaconBody) (s : State) : (postBeacon b s).now = s.now := by
  unfold postBeacon; dsimp only; split <;> simp
@[simp] theorem postBeacon_peers (b : BeaconBody) (s : State) : (postBeacon b s).peers = s.peers := by
  unfold postBeacon; dsimp only; split <;> simp
@[simp] theorem postBeacon_holds (b : BeaconBody) (s : State) : (postBeacon b s).holds = s.holds := by
  unfold postBeacon; dsimp only; split <;> simp
@[simp] theorem postBeacon_limits (b : BeaconBody) (s : State) : (postBeacon b s).limits = s.limits := by
  unfold postBeacon; dsimp only; split <;> simp
@[simp] theorem postBeacon_stage (b : BeaconBody) (s : State) : (postBeacon b s).stage = s.stage := by
  unfold postBeacon; dsimp only; split <;> simp
@[simp] theorem postBeacon_cell (b : BeaconBody) (s : State) : (postBeacon b s).cell = s.cell := by
  unfold postBeacon; dsimp only; split <;> simp
@[simp] theorem postBeacon_handler (b : BeaconBody) (s : State) : (postBeacon b s).handler = s.handler := by
  unfold postBeacon; dsimp only; split <;> simp
@[simp] theorem postBeacon_pack (b : BeaconBody) (s : State) : (postBeacon b s).pack = s.pack := by
  unfold postBeacon; dsimp only; split <;> simp
@[simp] theorem postBeacon_port (b : BeaconBody) (s : State) : (postBeacon b s).port = s.port := by
  unfold postBeacon; dsimp only; split <;> simp
@[simp] theorem postBeacon_pending (b : BeaconBody) (s : State) : (postBeacon b s).pending = s.pending := by
  unfold postBeacon; dsimp only; split <;> simp
@[simp] theorem postBeacon_clock (b : BeaconBody) (s : State) : (postBeacon b s).clock = s.clock := by
  simp [State.clock]
@[simp] theorem postBeacon_isActive (b : BeaconBody) (s : State) : (postBeacon b s).isActive = s.isActive := by
  simp [State.isActive]
@[simp] theorem postBeacon_isLive (b : BeaconBody) (s : State) : (postBeacon b s).isLive = s.isLive := by
  simp [State.isLive]
@[simp] theorem postBeacon_own (b : BeaconBody) (s : State) : (postBeacon b s).own = s.own := by
  simp [State.own]
@[simp] theorem postBeacon_beaconMs (b : BeaconBody) (s : State) : (postBeacon b s).beaconMs = s.beaconMs := by
  simp [State.beaconMs]
@[simp] theorem postBeacon_numberValid (b : BeaconBody) (s : State) : (postBeacon b s).numberValid = s.numberValid := by
  simp [State.numberValid]
@[simp] theorem postBeacon_isRole (b : BeaconBody) (s : State) (r : Role) : (postBeacon b s).isRole r = s.isRole r := by
  simp [State.isRole]

/-- Posting leaves the last sender, the attempt count, the line and the wire as they are. -/
@[simp] theorem post_link_last (a : Address) (p : Payload) (s : State) :
    (post a p s).link.last = s.link.last := by
  rcases post_cases a p s with ⟨_, h⟩ | ⟨_, _, h⟩ | ⟨_, _, h⟩ <;> rw [h] <;> rfl
@[simp] theorem post_link_line (a : Address) (p : Payload) (s : State) :
    (post a p s).link.line = s.link.line := by
  rcases post_cases a p s with ⟨_, h⟩ | ⟨_, _, h⟩ | ⟨_, _, h⟩ <;> rw [h] <;> rfl

/-- The transmit queue never passes 16 frames (R12). -/
theorem post_queue_length (a : Address) (p : Payload) (s : State) (h : s.link.queue.length ≤ 16) :
    (post a p s).link.queue.length ≤ 16 := by
  rcases post_cases a p s with ⟨_, h2⟩ | ⟨_, h1, h2⟩ | ⟨_, _, h2⟩ <;> rw [h2] <;> first | simpa using h | (simp; omega)

/-- Posting adds at the tail or not at all. -/
theorem post_queue_prefix (a : Address) (p : Payload) (s : State) :
    ∃ more, (post a p s).link.queue = s.link.queue ++ more := by
  rcases post_cases a p s with ⟨_, h⟩ | ⟨_, _, h⟩ | ⟨_, _, h⟩ <;> rw [h]
  · exact ⟨[], by simp⟩
  · exact ⟨_, rfl⟩
  · exact ⟨[], by simp⟩

/-! ## Lists -/

@[simp] theorem length_modifyAt {α : Type} (f : α → α) (n : Nat) (l : List α) :
    (modifyAt f n l).length = l.length := by
  induction l generalizing n with
  | nil => cases n <;> rfl
  | cons x xs ih => cases n <;> simp [modifyAt, ih]

/-- Changing the element at an index is setting it. -/
theorem modifyAt_eq_set {α : Type} (f : α → α) (d : α) (n : Nat) (l : List α) :
    modifyAt f n l = l.set n (f (l.getD n d)) := by
  induction l generalizing n with
  | nil => cases n <;> rfl
  | cons x xs ih => cases n <;> simp [modifyAt, ih]

@[simp] theorem length_insertBy {α : Type} (before : α → α → Bool) (x : α) (l : List α) :
    (insertBy before x l).length = l.length + 1 := by
  induction l with
  | nil => rfl
  | cons y ys ih => simp only [insertBy]; split <;> simp [ih]

@[simp] theorem length_sortBy {α : Type} (before : α → α → Bool) (l : List α) :
    (sortBy before l).length = l.length := by
  induction l with
  | nil => rfl
  | cons x xs ih => simp [sortBy, ih]

theorem mem_insertBy {α : Type} (before : α → α → Bool) (x y : α) (l : List α) :
    y ∈ insertBy before x l ↔ y = x ∨ y ∈ l := by
  induction l with
  | nil => simp [insertBy]
  | cons z zs ih =>
    simp only [insertBy]
    split
    · simp
    · simp only [List.mem_cons, ih]
      constructor
      · rintro (h | h | h) <;> simp [h]
      · rintro (h | h | h) <;> simp [h]

theorem mem_sortBy {α : Type} (before : α → α → Bool) (y : α) (l : List α) :
    y ∈ sortBy before l ↔ y ∈ l := by
  induction l with
  | nil => simp [sortBy]
  | cons x xs ih => simp [sortBy, mem_insertBy, ih]

/-- The best element is an element of the list. -/
theorem mem_of_bestBy {α : Type} (better : α → α → Bool) {x : α} {l : List α}
    (h : bestBy better l = some x) : x ∈ l := by
  induction l generalizing x with
  | nil => simp [bestBy] at h
  | cons y ys ih =>
    simp only [bestBy] at h
    split at h
    · simp_all
    · split at h <;> simp_all

end Sys2Proof.Machine
end

