-- ==== Sys2Proof/Laws/Arrival.lean ====
section
/-! SUPPORT. Laws/Arrival.lean: what a frame that arrives and a transaction that is taken come to, so that
the proof of a row's effect starts at its block: `arrives_delivers` and `takes_runs`; and
what hearing a frame leaves of the CONTENT check's inputs. -/
namespace Sys2Proof.Machine

/-! ## The state once a frame has been heard -/

@[simp] theorem heard_pins (h : Header) (s : State) : (heard h s).pins = s.pins := rfl
@[simp] theorem heard_start (h : Header) (s : State) : (heard h s).start = s.start := rfl
@[simp] theorem heard_now (h : Header) (s : State) : (heard h s).now = s.now := rfl
@[simp] theorem heard_holds (h : Header) (s : State) : (heard h s).holds = s.holds := rfl
@[simp] theorem heard_limits (h : Header) (s : State) : (heard h s).limits = s.limits := rfl
@[simp] theorem heard_stage (h : Header) (s : State) : (heard h s).stage = s.stage := rfl
@[simp] theorem heard_cell (h : Header) (s : State) : (heard h s).cell = s.cell := rfl
@[simp] theorem heard_handler (h : Header) (s : State) : (heard h s).handler = s.handler := rfl
@[simp] theorem heard_pack (h : Header) (s : State) : (heard h s).pack = s.pack := rfl
@[simp] theorem heard_port (h : Header) (s : State) : (heard h s).port = s.port := rfl
@[simp] theorem heard_pending (h : Header) (s : State) : (heard h s).pending = s.pending := rfl
@[simp] theorem heard_clock (h : Header) (s : State) : (heard h s).clock = s.clock := rfl
@[simp] theorem heard_isActive (h : Header) (s : State) : (heard h s).isActive = s.isActive := rfl
@[simp] theorem heard_isLive (h : Header) (s : State) : (heard h s).isLive = s.isLive := rfl
@[simp] theorem heard_isRole (h : Header) (s : State) (r : Role) : (heard h s).isRole r = s.isRole r := rfl
@[simp] theorem heard_beaconMs (h : Header) (s : State) : (heard h s).beaconMs = s.beaconMs := rfl

/-- A change of one peer entry that keeps its beaconed fields keeps those of every entry. -/
theorem updatePeer_beacon (n m : Nat) (f : PeerEntry → PeerEntry) (s : State)
    (hf : ∀ e, (f e).beacon = e.beacon) :
    (peerAt (updatePeer n f s).peers m).beacon = (peerAt s.peers m).beacon := by
  have kept : ∀ (l : List PeerEntry) (i j : Nat),
      ((modifyAt f i l).getD j PeerEntry.reset).beacon = (l.getD j PeerEntry.reset).beacon := by
    intro l
    induction l with
    | nil => simp [modifyAt]
    | cons e l ih =>
      intro i j
      cases i <;> cases j <;> simp_all [modifyAt]
  simp only [peerAt, nth1, updatePeer, State.setPeers]
  split
  · rfl
  · exact kept _ _ _

/-- Hearing a frame leaves what every peer last beaconed (R29, R30). -/
@[simp] theorem heard_beacon (h : Header) (s : State) (n : Nat) :
    (peerAt (heard h s).peers n).beacon = (peerAt s.peers n).beacon :=
  updatePeer_beacon _ _ _ _ fun _ => rfl

/-- The S of a handler is that of the binding part's copy, or, where the binding part holds none of it, that
of the handler's last BEACON (R86, R30). -/
theorem siteCountOf_eq_some {s : State} {n sites : Nat} (h : siteCountOf s n = some sites) :
    (s.cell.binding.state ≠ .none ∧ s.cell.binding.handler = n ∧ s.cell.binding.fit.sites ≠ 0 ∧
        sites = s.cell.binding.fit.sites) ∨
      ∃ b st c k lo hi m, (peerAt s.peers n).beacon = some b ∧
        b.block = .handler st c k lo hi sites m := by
  unfold siteCountOf at h
  split at h
  · next copied => exact .inl ⟨copied.1, copied.2.1, copied.2.2, by simpa using h.symm⟩
  · split at h
    · next heard => cases h; exact .inr ⟨_, _, _, _, _, _, _, heard, rfl⟩
    · cases h

@[simp] theorem siteCountOf_heard (h : Header) (s : State) (n : Nat) :
    siteCountOf (heard h s) n = siteCountOf s n := by simp [siteCountOf]

/-- The CONTENT check is the same before and after the frame is heard. -/
@[simp] theorem contentOk_heard (h : Header) (s : State) (n : Nat) (p : Payload) :
    contentOk (heard h s) n p = contentOk s n p := by cases p <;> simp [contentOk]

/-! ## A frame that arrives -/

/-- A kind that a role takes is a known kind (R5). -/
theorem kindKnown_of_takenBy {k : Nat} {r : Role} (h : takenBy k r = true) : kindKnown k = true := by
  revert h; unfold takenBy kindKnown; split <;> simp

/-- No armed slot, no hit (R180). -/
theorem offerWatches_of_disarmed (p : Payload) (s : State)
    (h : s.port.watches = [none, none, none, none]) : offerWatches p s = s := by
  simp [offerWatches, offerSlot, h]

/-- A frame from a PRESENT peer that does not newly set its fresh mark refreshes the entry alone (R29). -/
theorem hear_of_present (n : Nat) (fresh : Bool) (s : State)
    (h : (peerAt s.peers n).presence = .present)
    (hf : fresh = true → (peerAt s.peers n).fresh = true) :
    hear n fresh s = updatePeer n (·.heard s.clock (s.now + 3 * s.beaconMs) fresh) s := by
  cases fresh <;> simp_all [hear]

/-- A frame that arrives is heard and delivered, and its event ends (R6). -/
theorem arrives_delivers {h : Header} {p : Payload} {s : State} (ha : Arrives h p s) :
    event (receiveFrame h p) s = settle s (deliver h.source p (heard h s)) := by
  obtain ⟨reset, recv, addr, mine, taken, content, source, present, fresh, watches⟩ := ha
  have heard_eq : hear h.source h.fresh (s.setLink (s.link.afterTransmission h.source)) = heard h s :=
    hear_of_present _ _ _ present fresh
  have other : h.source ≠ s.own := source
  have mine' : forThisStation (heard h s) h = true := mine
  simp [event, reset, receiveFrame, recv, addr, takeFrame, other, heard_eq,
    offerWatches_of_disarmed _ _ (show (heard h s).port.watches = _ from watches), qualify, mine', taken,
    content, kindKnown_of_takenBy taken]

/-! ## A transaction that is taken -/

/-- A command that is taken runs, its answer becomes the previous outcome, and its event ends (R170,
R172). -/
theorem takes_runs {c : PortCommand} {s : State} (h : PortTakes c s) :
    event (transact c) s =
      settle s (setOutcome (runCommand c s).2 (commandCode c) (runCommand c s).1) := by
  obtain ⟨reset, open_, code, content, state⟩ := h
  simp [event, reset, transact, open_, code, content, state]

/-! ## An expiry -/

/-- The expiry of a timer that runs acts at its moment (log entry 3). -/
@[simp] theorem expire_some (d : Nat) (act : State → State) (s : State) :
    expire (some d) act s = act (s.setNow (max s.now d)) := rfl

/-- The expiry of a timer that does not run changes nothing. -/
@[simp] theorem expire_none (act : State → State) (s : State) : expire none act s = s := rfl

end Sys2Proof.Machine
end

