-- ==== Sys2Proof/Laws/PerInstr.lean ====
section
/-! SUPPORT. Laws/PerInstr.lean: the family F, one lemma per command: a well-formed frame row fills one of
the payload lengths its kind may have (R14, spec/11 section 11.2), and a well-formed port row fits the 18
payload bytes of a transaction (R169). -/
namespace Sys2Proof.Machine

/-- The payload a frame row carries. -/
def Instr.payload? : Instr → Option Payload
  | .resetRelease _ _ => none
  | .resetAssert => none
  | .startEnd _ => none
  | .lineJoin => none
  | .learningTimerExpiry => none
  | .carrierDetect _ => none
  | .transmissionEnd _ => none
  | .transmitStart => none
  | .frameSent => none
  | .collision => none
  | .disturbanceEnd => none
  | .backoffRoundOver => none
  | .lossTimerExpiry _ => none
  | .beaconTimerExpiry => none
  | .beacon _ b => some (.beacon b)
  | .offer _ lot => some (.offer lot)
  | .claim _ lotId index score owned => some (.claim lotId index score owned)
  | .grant _ lotId index cell score => some (.grant lotId index cell score)
  | .accept _ lotId index answer score => some (.accept lotId index answer score)
  | .revoke _ lotId index reason => some (.revoke lotId index reason)
  | .return_ _ lotId index reason => some (.return_ lotId index reason)
  | .lotDone _ c => some (.lotDone c)
  | .doneTaken _ lotId index => some (.doneTaken lotId index)
  | .release _ r => some (.release r)
  | .hold _ r => some (.hold r)
  | .clear _ scope key generation disposition station => some (.clear scope key generation disposition station)
  | .holdListReq _ start => some (.holdListReq start)
  | .holdList _ total start count records => some (.holdList total start count records)
  | .holdListNone _ total start => some (.holdListNone total start)
  | .answerTimerExpiry => none
  | .resyncSpacingExpiry => none
  | .handlerWanted _ kit temp => some (.handlerWanted kit temp)
  | .handlerAvailable _ fit idle => some (.handlerAvailable fit idle)
  | .reserve _ => some (.reserve)
  | .reserveReply _ result minutes => some (.reserveReply result minutes)
  | .bindReq _ kit => some (.bindReq kit)
  | .bindReply _ result fit mask => some (.bindReply result fit mask)
  | .bindConfirm _ kit sites => some (.bindConfirm kit sites)
  | .unbind _ reason => some (.unbind reason)
  | .permit _ p => some (.permit p)
  | .handlerStatus _ b => some (.handlerStatus b)
  | .siteDown _ site reason => some (.siteDown site reason)
  | .offerTimerExpiry => none
  | .contestWindowExpiry _ _ => none
  | .acceptTimerExpiry _ _ => none
  | .sightingAgeing _ _ => none
  | .claimLapse _ _ => none
  | .permitTimerExpiry => none
  | .deliveryTimerExpiry => none
  | .idleTimerExpiry => none
  | .handlerWantedSpacingExpiry => none
  | .replyWindowExpiry => none
  | .replyTimerExpiry => none
  | .cellReservationDeadline => none
  | .cellBindTimerExpiry => none
  | .reservationDeadline => none
  | .bindTimerExpiry => none
  | .orphanTimerExpiry => none
  | .soakTimerExpiry => none
  | .graceTimerExpiry => none
  | .statusTimerExpiry => none
  | .jamAssertion => none
  | .jamRelease => none
  | .csAssert => none
  | .unknownTransaction _ => none
  | .nop => none
  | .readStatus _ => none
  | .readDiagnostics => none
  | .readEvent => none
  | .readPeer _ _ => none
  | .readHold _ _ => none
  | .placeHold _ _ _ => none
  | .disposition _ _ _ _ => none
  | .armWatch _ _ _ => none
  | .disarmWatch _ => none
  | .restart => none
  | .lotArrived _ => none
  | .lotIssued _ _ _ => none
  | .lotReturned _ _ => none
  | .lotRemoved _ _ => none
  | .readStage _ => none
  | .dock _ => none
  | .undock => none
  | .requestHandler _ _ => none
  | .unqueue _ _ => none
  | .lotLoaded _ _ => none
  | .binReport _ _ => none
  | .endPass => none
  | .lotUnloaded => none
  | .limitSetA _ => none
  | .limitSetB _ _ _ => none
  | .limitClear _ => none
  | .readLot _ => none
  | .readQueue _ _ => none
  | .readSighting _ => none
  | .readSite _ => none
  | .readOutbox _ _ => none
  | .tempReached _ => none
  | .tempLost => none
  | .unitIndexed _ => none
  | .kitChanged _ => none
  | .contactorReplaced _ => none
  | .contactorCount _ _ => none
  | .siteRestore _ => none
  | .reArm => none
  | .readHandler _ => none
  | .packDone _ _ => none
  | .readPack _ _ => none
  | .readRelease _ _ => none

/-- The command a port row carries. -/
def Instr.command? : Instr → Option PortCommand
  | .resetRelease _ _ => none
  | .resetAssert => none
  | .startEnd _ => none
  | .lineJoin => none
  | .learningTimerExpiry => none
  | .carrierDetect _ => none
  | .transmissionEnd _ => none
  | .transmitStart => none
  | .frameSent => none
  | .collision => none
  | .disturbanceEnd => none
  | .backoffRoundOver => none
  | .lossTimerExpiry _ => none
  | .beaconTimerExpiry => none
  | .beacon _ _ => none
  | .offer _ _ => none
  | .claim _ _ _ _ _ => none
  | .grant _ _ _ _ _ => none
  | .accept _ _ _ _ _ => none
  | .revoke _ _ _ _ => none
  | .return_ _ _ _ _ => none
  | .lotDone _ _ => none
  | .doneTaken _ _ _ => none
  | .release _ _ => none
  | .hold _ _ => none
  | .clear _ _ _ _ _ _ => none
  | .holdListReq _ _ => none
  | .holdList _ _ _ _ _ => none
  | .holdListNone _ _ _ => none
  | .answerTimerExpiry => none
  | .resyncSpacingExpiry => none
  | .handlerWanted _ _ _ => none
  | .handlerAvailable _ _ _ => none
  | .reserve _ => none
  | .reserveReply _ _ _ => none
  | .bindReq _ _ => none
  | .bindReply _ _ _ _ => none
  | .bindConfirm _ _ _ => none
  | .unbind _ _ => none
  | .permit _ _ => none
  | .handlerStatus _ _ => none
  | .siteDown _ _ _ => none
  | .offerTimerExpiry => none
  | .contestWindowExpiry _ _ => none
  | .acceptTimerExpiry _ _ => none
  | .sightingAgeing _ _ => none
  | .claimLapse _ _ => none
  | .permitTimerExpiry => none
  | .deliveryTimerExpiry => none
  | .idleTimerExpiry => none
  | .handlerWantedSpacingExpiry => none
  | .replyWindowExpiry => none
  | .replyTimerExpiry => none
  | .cellReservationDeadline => none
  | .cellBindTimerExpiry => none
  | .reservationDeadline => none
  | .bindTimerExpiry => none
  | .orphanTimerExpiry => none
  | .soakTimerExpiry => none
  | .graceTimerExpiry => none
  | .statusTimerExpiry => none
  | .jamAssertion => none
  | .jamRelease => none
  | .csAssert => none
  | .unknownTransaction _ => none
  | .nop => some .nop
  | .readStatus part => some (.readStatus part)
  | .readDiagnostics => some .readDiagnostics
  | .readEvent => some .readEvent
  | .readPeer station part => some (.readPeer station part)
  | .readHold index part => some (.readHold index part)
  | .placeHold scope key trigger => some (.placeHold scope key trigger)
  | .disposition scope key generation action => some (.disposition scope key generation action)
  | .armWatch slot scope key => some (.armWatch slot scope key)
  | .disarmWatch slot => some (.disarmWatch slot)
  | .restart => some .restart
  | .lotArrived lot => some (.lotArrived lot)
  | .lotIssued lotId index cell => some (.lotIssued lotId index cell)
  | .lotReturned lotId index => some (.lotReturned lotId index)
  | .lotRemoved lotId index => some (.lotRemoved lotId index)
  | .readStage index => some (.readStage index)
  | .dock handler => some (.dock handler)
  | .undock => some .undock
  | .requestHandler kit temp => some (.requestHandler kit temp)
  | .unqueue lotId index => some (.unqueue lotId index)
  | .lotLoaded lotId index => some (.lotLoaded lotId index)
  | .binReport mask bins => some (.binReport mask bins)
  | .endPass => some .endPass
  | .lotUnloaded => some .lotUnloaded
  | .limitSetA a => some (.limitSetA a)
  | .limitSetB product pairs jamLimit => some (.limitSetB product pairs jamLimit)
  | .limitClear product => some (.limitClear product)
  | .readLot part => some (.readLot part)
  | .readQueue index part => some (.readQueue index part)
  | .readSighting index => some (.readSighting index)
  | .readSite site => some (.readSite site)
  | .readOutbox index part => some (.readOutbox index part)
  | .tempReached temp => some (.tempReached temp)
  | .tempLost => some .tempLost
  | .unitIndexed mask => some (.unitIndexed mask)
  | .kitChanged kit => some (.kitChanged kit)
  | .contactorReplaced site => some (.contactorReplaced site)
  | .contactorCount site value => some (.contactorCount site value)
  | .siteRestore site => some (.siteRestore site)
  | .reArm => some .reArm
  | .readHandler part => some (.readHandler part)
  | .packDone lotId count => some (.packDone lotId count)
  | .readPack index part => some (.readPack index part)
  | .readRelease lotId part => some (.readRelease lotId part)

end Sys2Proof.Machine

namespace Sys2Proof.Laws.F
open Sys2Proof.Machine

/-- What the row carries fits where its layout puts it. -/
def Statement (i : Instr) : Prop :=
  i.wf = true →
    (∀ p, Instr.payload? i = some p → lengthAllowed (kindCode p) (payloadBytes p).length = true) ∧
      ∀ c, Instr.command? i = some c → (commandFields c).length ≤ 18

/-- A row that carries neither a frame nor a command. -/
theorem of_none {i : Instr} (hp : Instr.payload? i = none) (hc : Instr.command? i = none) : Statement i :=
  fun _ => by simp [hp, hc]

/-- A row that carries a frame of one length. -/
theorem of_payload {i : Instr} {p : Payload} (hp : Instr.payload? i = some p)
    (hc : Instr.command? i = none)
    (h : i.wf = true → lengthAllowed (kindCode p) (payloadBytes p).length = true) : Statement i :=
  fun hw => by simp [hp, hc, h hw]

/-- A row that carries a command. -/
theorem of_command {i : Instr} {c : PortCommand} (hp : Instr.payload? i = none)
    (hc : Instr.command? i = some c) (h : i.wf = true → (commandFields c).length ≤ 18) : Statement i :=
  fun hw => by simp [hp, hc, h hw]

/-- A list of pieces of one length. -/
theorem length_pieces {α : Type} (f : α → List Byte) (n : Nat) (h : ∀ x, (f x).length = n) (xs : List α) :
    (xs.flatMap f).length = n * xs.length := by
  induction xs with
  | nil => rfl
  | cons x xs ih => simp [h, ih, Nat.mul_succ, Nat.add_comm]

theorem resetRelease (numberStraps : BitVec 6) (roleStraps : BitVec 2) : Statement (.resetRelease numberStraps roleStraps) :=
  of_none rfl rfl
theorem resetAssert : Statement .resetAssert :=
  of_none rfl rfl
theorem startEnd (image : ImageRead) : Statement (.startEnd image) :=
  of_none rfl rfl
theorem lineJoin : Statement .lineJoin :=
  of_none rfl rfl
theorem learningTimerExpiry : Statement .learningTimerExpiry :=
  of_none rfl rfl
theorem carrierDetect (point : CountPoint) : Statement (.carrierDetect point) :=
  of_none rfl rfl
theorem transmissionEnd (line : Transmission) : Statement (.transmissionEnd line) :=
  of_none rfl rfl
theorem transmitStart : Statement .transmitStart :=
  of_none rfl rfl
theorem frameSent : Statement .frameSent :=
  of_none rfl rfl
theorem collision : Statement .collision :=
  of_none rfl rfl
theorem disturbanceEnd : Statement .disturbanceEnd :=
  of_none rfl rfl
theorem backoffRoundOver : Statement .backoffRoundOver :=
  of_none rfl rfl
theorem lossTimerExpiry (peer : Nat) : Statement (.lossTimerExpiry peer) :=
  of_none rfl rfl
theorem beaconTimerExpiry : Statement .beaconTimerExpiry :=
  of_none rfl rfl
theorem beacon (h : Header) (b : BeaconBody) : Statement (.beacon h b) :=
  of_payload rfl rfl fun _ => by cases b with | mk _ _ _ _ blk => cases blk <;> rfl
theorem offer (h : Header) (lot : LotRecord) : Statement (.offer h lot) :=
  of_payload rfl rfl fun _ => rfl
theorem claim (h : Header) (lotId : Nat) (index : Nat) (score : Nat) (owned : Bool) : Statement (.claim h lotId index score owned) :=
  of_payload rfl rfl fun _ => rfl
theorem grant (h : Header) (lotId : Nat) (index : Nat) (cell : Nat) (score : Nat) : Statement (.grant h lotId index cell score) :=
  of_payload rfl rfl fun _ => rfl
theorem accept (h : Header) (lotId : Nat) (index : Nat) (answer : AcceptAnswer) (score : Nat) : Statement (.accept h lotId index answer score) :=
  of_payload rfl rfl fun _ => rfl
theorem revoke (h : Header) (lotId : Nat) (index : Nat) (reason : RevokeReason) : Statement (.revoke h lotId index reason) :=
  of_payload rfl rfl fun _ => rfl
theorem return_ (h : Header) (lotId : Nat) (index : Nat) (reason : ReturnReason) : Statement (.return_ h lotId index reason) :=
  of_payload rfl rfl fun _ => rfl
theorem lotDone (h : Header) (c : Completion) : Statement (.lotDone h c) :=
  of_payload rfl rfl fun _ => rfl
theorem doneTaken (h : Header) (lotId : Nat) (index : Nat) : Statement (.doneTaken h lotId index) :=
  of_payload rfl rfl fun _ => rfl
theorem release (h : Header) (r : ReleaseRec) : Statement (.release h r) :=
  of_payload rfl rfl fun _ => rfl
theorem hold (h : Header) (r : HoldRec) : Statement (.hold h r) :=
  of_payload rfl rfl fun _ => rfl
theorem clear (h : Header) (scope : Scope) (key : Nat) (generation : Nat) (disposition : Disposition) (station : Nat) : Statement (.clear h scope key generation disposition station) :=
  of_payload rfl rfl fun _ => rfl
theorem holdListReq (h : Header) (start : Nat) : Statement (.holdListReq h start) :=
  of_payload rfl rfl fun _ => rfl
theorem holdList (h : Header) (total : Nat) (start : Nat) (count : Nat) (records : List HoldRec) : Statement (.holdList h total start count records) :=
  of_payload rfl rfl fun hw => by
    simp only [Instr.wf, Payload.wf, Bool.and_eq_true, decide_eq_true_eq] at hw
    have len := length_pieces holdBytes 15 (fun _ => rfl) records
    have some := hw.2.1.1.2
    have few := hw.2.1.2
    simp only [payloadBytes, be1, List.length_append, List.length_cons, List.length_nil, len]
    obtain h | h | h : records.length = 1 ∨ records.length = 2 ∨ records.length = 3 := by omega
    all_goals rw [h]; rfl
theorem holdListNone (h : Header) (total : Nat) (start : Nat) : Statement (.holdListNone h total start) :=
  of_payload rfl rfl fun _ => rfl
theorem answerTimerExpiry : Statement .answerTimerExpiry :=
  of_none rfl rfl
theorem resyncSpacingExpiry : Statement .resyncSpacingExpiry :=
  of_none rfl rfl
theorem handlerWanted (h : Header) (kit : Nat) (temp : Int) : Statement (.handlerWanted h kit temp) :=
  of_payload rfl rfl fun _ => rfl
theorem handlerAvailable (h : Header) (fit : HandlerFit) (idle : Nat) : Statement (.handlerAvailable h fit idle) :=
  of_payload rfl rfl fun _ => rfl
theorem reserve (h : Header) : Statement (.reserve h) :=
  of_payload rfl rfl fun _ => rfl
theorem reserveReply (h : Header) (result : ReserveResult) (minutes : Nat) : Statement (.reserveReply h result minutes) :=
  of_payload rfl rfl fun _ => rfl
theorem bindReq (h : Header) (kit : Nat) : Statement (.bindReq h kit) :=
  of_payload rfl rfl fun _ => rfl
theorem bindReply (h : Header) (result : BindResult) (fit : HandlerFit) (mask : SiteMask) : Statement (.bindReply h result fit mask) :=
  of_payload rfl rfl fun _ => rfl
theorem bindConfirm (h : Header) (kit : Nat) (sites : Nat) : Statement (.bindConfirm h kit sites) :=
  of_payload rfl rfl fun _ => rfl
theorem unbind (h : Header) (reason : UnbindReason) : Statement (.unbind h reason) :=
  of_payload rfl rfl fun _ => rfl
theorem permit (h : Header) (p : Permit) : Statement (.permit h p) :=
  of_payload rfl rfl fun _ => rfl
theorem handlerStatus (h : Header) (b : StatusBody) : Statement (.handlerStatus h b) :=
  of_payload rfl rfl fun hw => by
    simp only [Instr.wf, Payload.wf, StatusBody.wf, Bool.and_eq_true, beq_iff_eq] at hw
    have len := length_pieces (fun st => be1 (siteStatusCode st)) 1 (fun _ => rfl) b.sites
    simp only [payloadBytes, be1, beTemp, be2, List.length_append, List.length_cons, List.length_nil] at len ⊢
    rw [len, hw.2.1.2]; rfl
theorem siteDown (h : Header) (site : Nat) (reason : SiteStatus) : Statement (.siteDown h site reason) :=
  of_payload rfl rfl fun _ => rfl
theorem offerTimerExpiry : Statement .offerTimerExpiry :=
  of_none rfl rfl
theorem contestWindowExpiry (lotId : Nat) (index : Nat) : Statement (.contestWindowExpiry lotId index) :=
  of_none rfl rfl
theorem acceptTimerExpiry (lotId : Nat) (index : Nat) : Statement (.acceptTimerExpiry lotId index) :=
  of_none rfl rfl
theorem sightingAgeing (lotId : Nat) (index : Nat) : Statement (.sightingAgeing lotId index) :=
  of_none rfl rfl
theorem claimLapse (lotId : Nat) (index : Nat) : Statement (.claimLapse lotId index) :=
  of_none rfl rfl
theorem permitTimerExpiry : Statement .permitTimerExpiry :=
  of_none rfl rfl
theorem deliveryTimerExpiry : Statement .deliveryTimerExpiry :=
  of_none rfl rfl
theorem idleTimerExpiry : Statement .idleTimerExpiry :=
  of_none rfl rfl
theorem handlerWantedSpacingExpiry : Statement .handlerWantedSpacingExpiry :=
  of_none rfl rfl
theorem replyWindowExpiry : Statement .replyWindowExpiry :=
  of_none rfl rfl
theorem replyTimerExpiry : Statement .replyTimerExpiry :=
  of_none rfl rfl
theorem cellReservationDeadline : Statement .cellReservationDeadline :=
  of_none rfl rfl
theorem cellBindTimerExpiry : Statement .cellBindTimerExpiry :=
  of_none rfl rfl
theorem reservationDeadline : Statement .reservationDeadline :=
  of_none rfl rfl
theorem bindTimerExpiry : Statement .bindTimerExpiry :=
  of_none rfl rfl
theorem orphanTimerExpiry : Statement .orphanTimerExpiry :=
  of_none rfl rfl
theorem soakTimerExpiry : Statement .soakTimerExpiry :=
  of_none rfl rfl
theorem graceTimerExpiry : Statement .graceTimerExpiry :=
  of_none rfl rfl
theorem statusTimerExpiry : Statement .statusTimerExpiry :=
  of_none rfl rfl
theorem jamAssertion : Statement .jamAssertion :=
  of_none rfl rfl
theorem jamRelease : Statement .jamRelease :=
  of_none rfl rfl
theorem csAssert : Statement .csAssert :=
  of_none rfl rfl
theorem unknownTransaction (t : Transaction) : Statement (.unknownTransaction t) :=
  of_none rfl rfl
theorem nop : Statement .nop :=
  of_command rfl rfl fun _ => by decide
theorem readStatus (part : Nat) : Statement (.readStatus part) :=
  of_command rfl rfl fun _ => Nat.le_of_ble_eq_true rfl
theorem readDiagnostics : Statement .readDiagnostics :=
  of_command rfl rfl fun _ => by decide
theorem readEvent : Statement .readEvent :=
  of_command rfl rfl fun _ => by decide
theorem readPeer (station : Nat) (part : Nat) : Statement (.readPeer station part) :=
  of_command rfl rfl fun _ => Nat.le_of_ble_eq_true rfl
theorem readHold (index : Nat) (part : Nat) : Statement (.readHold index part) :=
  of_command rfl rfl fun _ => Nat.le_of_ble_eq_true rfl
theorem placeHold (scope : Scope) (key : Nat) (trigger : Nat) : Statement (.placeHold scope key trigger) :=
  of_command rfl rfl fun _ => Nat.le_of_ble_eq_true rfl
theorem disposition (scope : Scope) (key : Nat) (generation : Nat) (action : Disposition) : Statement (.disposition scope key generation action) :=
  of_command rfl rfl fun _ => Nat.le_of_ble_eq_true rfl
theorem armWatch (slot : Nat) (scope : Scope) (key : Nat) : Statement (.armWatch slot scope key) :=
  of_command rfl rfl fun _ => Nat.le_of_ble_eq_true rfl
theorem disarmWatch (slot : Nat) : Statement (.disarmWatch slot) :=
  of_command rfl rfl fun _ => Nat.le_of_ble_eq_true rfl
theorem restart : Statement .restart :=
  of_command rfl rfl fun _ => by decide
theorem lotArrived (lot : LotRecord) : Statement (.lotArrived lot) :=
  of_command rfl rfl fun _ => Nat.le_of_ble_eq_true rfl
theorem lotIssued (lotId : Nat) (index : Nat) (cell : Nat) : Statement (.lotIssued lotId index cell) :=
  of_command rfl rfl fun _ => Nat.le_of_ble_eq_true rfl
theorem lotReturned (lotId : Nat) (index : Nat) : Statement (.lotReturned lotId index) :=
  of_command rfl rfl fun _ => Nat.le_of_ble_eq_true rfl
theorem lotRemoved (lotId : Nat) (index : Nat) : Statement (.lotRemoved lotId index) :=
  of_command rfl rfl fun _ => Nat.le_of_ble_eq_true rfl
theorem readStage (index : Nat) : Statement (.readStage index) :=
  of_command rfl rfl fun _ => Nat.le_of_ble_eq_true rfl
theorem dock (handler : Nat) : Statement (.dock handler) :=
  of_command rfl rfl fun _ => Nat.le_of_ble_eq_true rfl
theorem undock : Statement .undock :=
  of_command rfl rfl fun _ => by decide
theorem requestHandler (kit : Nat) (temp : Int) : Statement (.requestHandler kit temp) :=
  of_command rfl rfl fun _ => Nat.le_of_ble_eq_true rfl
theorem unqueue (lotId : Nat) (index : Nat) : Statement (.unqueue lotId index) :=
  of_command rfl rfl fun _ => Nat.le_of_ble_eq_true rfl
theorem lotLoaded (lotId : Nat) (index : Nat) : Statement (.lotLoaded lotId index) :=
  of_command rfl rfl fun _ => Nat.le_of_ble_eq_true rfl
theorem binReport (mask : SiteMask) (bins : List Nat) : Statement (.binReport mask bins) :=
  of_command rfl rfl fun hw => by
    simp only [Instr.wf, PortCommand.wf, Bool.and_eq_true, beq_iff_eq] at hw
    have len := length_pieces be1 1 (fun _ => rfl) bins
    simp [commandFields, be1, hw.1] at len ⊢
theorem endPass : Statement .endPass :=
  of_command rfl rfl fun _ => by decide
theorem lotUnloaded : Statement .lotUnloaded :=
  of_command rfl rfl fun _ => by decide
theorem limitSetA (a : LimitPartA) : Statement (.limitSetA a) :=
  of_command rfl rfl fun _ => Nat.le_of_ble_eq_true rfl
theorem limitSetB (product : Nat) (pairs : List (Nat × Nat)) (jamLimit : Nat) : Statement (.limitSetB product pairs jamLimit) :=
  of_command rfl rfl fun hw => by
    simp only [Instr.wf, PortCommand.wf, Bool.and_eq_true, beq_iff_eq] at hw
    have len := length_pieces (fun x : Nat × Nat => be1 x.1 ++ be2 x.2) 3 (fun _ => rfl) pairs
    simp [commandFields, be1, be2, hw.1.1.2] at len ⊢
theorem limitClear (product : Nat) : Statement (.limitClear product) :=
  of_command rfl rfl fun _ => Nat.le_of_ble_eq_true rfl
theorem readLot (part : Nat) : Statement (.readLot part) :=
  of_command rfl rfl fun _ => Nat.le_of_ble_eq_true rfl
theorem readQueue (index : Nat) (part : Nat) : Statement (.readQueue index part) :=
  of_command rfl rfl fun _ => Nat.le_of_ble_eq_true rfl
theorem readSighting (index : Nat) : Statement (.readSighting index) :=
  of_command rfl rfl fun _ => Nat.le_of_ble_eq_true rfl
theorem readSite (site : Nat) : Statement (.readSite site) :=
  of_command rfl rfl fun _ => Nat.le_of_ble_eq_true rfl
theorem readOutbox (index : Nat) (part : Nat) : Statement (.readOutbox index part) :=
  of_command rfl rfl fun _ => Nat.le_of_ble_eq_true rfl
theorem tempReached (temp : Int) : Statement (.tempReached temp) :=
  of_command rfl rfl fun _ => Nat.le_of_ble_eq_true rfl
theorem tempLost : Statement .tempLost :=
  of_command rfl rfl fun _ => by decide
theorem unitIndexed (mask : SiteMask) : Statement (.unitIndexed mask) :=
  of_command rfl rfl fun _ => Nat.le_of_ble_eq_true rfl
theorem kitChanged (kit : Nat) : Statement (.kitChanged kit) :=
  of_command rfl rfl fun _ => Nat.le_of_ble_eq_true rfl
theorem contactorReplaced (site : Nat) : Statement (.contactorReplaced site) :=
  of_command rfl rfl fun _ => Nat.le_of_ble_eq_true rfl
theorem contactorCount (site : Nat) (value : Nat) : Statement (.contactorCount site value) :=
  of_command rfl rfl fun _ => Nat.le_of_ble_eq_true rfl
theorem siteRestore (site : Nat) : Statement (.siteRestore site) :=
  of_command rfl rfl fun _ => Nat.le_of_ble_eq_true rfl
theorem reArm : Statement .reArm :=
  of_command rfl rfl fun _ => by decide
theorem readHandler (part : Nat) : Statement (.readHandler part) :=
  of_command rfl rfl fun _ => Nat.le_of_ble_eq_true rfl
theorem packDone (lotId : Nat) (count : Nat) : Statement (.packDone lotId count) :=
  of_command rfl rfl fun _ => Nat.le_of_ble_eq_true rfl
theorem readPack (index : Nat) (part : Nat) : Statement (.readPack index part) :=
  of_command rfl rfl fun _ => Nat.le_of_ble_eq_true rfl
theorem readRelease (lotId : Nat) (part : Nat) : Statement (.readRelease lotId part) :=
  of_command rfl rfl fun _ => Nat.le_of_ble_eq_true rfl

end Sys2Proof.Laws.F
end

