-- ==== Sys2Proof/Laws/Wire.lean ====
section
/-! SUPPORT. Laws/Wire.lean: bytes sent on the segment are the bytes the receiver collects (R1):
`received_lineLevels`. -/
namespace Sys2Proof.Machine

/-- A bit read back from the state of the line it is sent as. -/
@[simp] theorem bitOfLevel_levelOfBit (b : Bool) : bitOfLevel (levelOfBit b) = b := by cases b <;> rfl

/-- No byte sent is silent for ten bit times: its start bit is dominant (R1). -/
theorem untilSilence_byteLevels (b : Byte) (rest : List Level) (run : Nat) :
    ∃ k, untilSilence run (byteLevels b ++ rest) = byteLevels b ++ untilSilence k rest := by
  have low (c : Bool) (n : Nat) (ls : List Level) (h : n < 9) :
      ∃ m ≤ n + 1, untilSilence n (levelOfBit c :: ls) = levelOfBit c :: untilSilence m ls := by
    cases c
    · exact ⟨0, by omega, rfl⟩
    · exact ⟨n + 1, by omega, by simp [levelOfBit, untilSilence, show n ≠ 9 by omega]⟩
  simp only [byteLevels, List.map_cons, List.map_nil, List.cons_append, List.nil_append, untilSilence]
  obtain ⟨a, ha, ea⟩ := low (b.getLsbD 7) 0 _ (by omega)
  rw [ea]
  obtain ⟨a1, ha1, e1⟩ := low (b.getLsbD 6) a _ (by omega)
  rw [e1]
  obtain ⟨a2, ha2, e2⟩ := low (b.getLsbD 5) a1 _ (by omega)
  rw [e2]
  obtain ⟨a3, ha3, e3⟩ := low (b.getLsbD 4) a2 _ (by omega)
  rw [e3]
  obtain ⟨a4, ha4, e4⟩ := low (b.getLsbD 3) a3 _ (by omega)
  rw [e4]
  obtain ⟨a5, ha5, e5⟩ := low (b.getLsbD 2) a4 _ (by omega)
  rw [e5]
  obtain ⟨a6, ha6, e6⟩ := low (b.getLsbD 1) a5 _ (by omega)
  rw [e6]
  obtain ⟨a7, ha7, e7⟩ := low (b.getLsbD 0) a6 _ (by omega)
  rw [e7]
  exact ⟨a7 + 1, by simp [untilSilence, show a7 ≠ 9 by omega]⟩

/-- The receiver collects a byte sent and goes on after it. -/
theorem collect_byteLevels (b : Byte) (rest : List Level) :
    collect none (byteLevels b ++ rest) =
      { collect none rest with bytes := b :: (collect none rest).bytes } := by
  have whole : byteOfBits [b.getLsbD 7, b.getLsbD 6, b.getLsbD 5, b.getLsbD 4, b.getLsbD 3, b.getLsbD 2,
      b.getLsbD 1, b.getLsbD 0] = b := by revert b; decide +kernel
  simp [byteLevels, collect]
  exact whole

/-- Bytes sent back to back do not end the transmission, and are collected as they were sent (R1). -/
theorem received_lineLevels (bs : List Byte) :
    received { levels := lineLevels bs } = { bytes := bs, stopFault := false } := by
  have go : ∀ run, collect none (untilSilence run (lineLevels bs)) =
      { bytes := bs, stopFault := false } := by
    induction bs with
    | nil => intro run; rfl
    | cons b bs ih =>
      intro run
      obtain ⟨k, hk⟩ := untilSilence_byteLevels b (lineLevels bs) run
      rw [show lineLevels (b :: bs) = byteLevels b ++ lineLevels bs from rfl, hk, collect_byteLevels, ih]
  exact go 0

end Sys2Proof.Machine
end

