-- ==== Sys2Proof/Laws/Yield.lean ====
section
/-! SUPPORT. Laws/Yield.lean: the fractions of R122: that they lie in 0 to 4096, and when BIN_LIMIT
triggers. -/
namespace Sys2Proof.Machine

/-- A fraction whose numerator is part of its denominator lies in 0–4096 (R122). -/
theorem q12_le {n d : Nat} (h : n ≤ d) : q12 n d ≤ 4096 :=
  Nat.div_le_of_le_mul (Nat.mul_comm d 4096 ▸ Nat.mul_le_mul_left 4096 h)

/-- Under a limit of 0 the first unit of the bin is over it (R122). -/
@[simp] theorem overBinLimit_zero (count tested : Nat) :
    overBinLimit count tested 0 = true ↔ 0 < count := by simp [overBinLimit]

/-- Under any other limit a bin's fraction above it is over it (R126). -/
theorem overBinLimit_of_pos {limit : Nat} (count tested : Nat) (h : limit ≠ 0) :
    overBinLimit count tested limit = true ↔ limit < q12 count tested := by simp [overBinLimit, h]

/-- A bin whose fraction is above its limit, whatever the limit, is over it (R126). -/
theorem overBinLimit_of_q12 {count tested limit : Nat} (h : limit < q12 count tested) :
    overBinLimit count tested limit = true := by
  by_cases zero : limit = 0
  · subst zero
    refine (overBinLimit_zero _ _).2 (Nat.pos_of_ne_zero fun none => ?_)
    simp [q12, none] at h
  · exact (overBinLimit_of_pos _ _ zero).2 h

/-- BIN_LIMIT triggers from the sample floor on, and names the bin of a pair whose bin is over its limit
(R126). -/
theorem checkBinLimit_eq_some {a : ActiveLot} {t : Trigger} (h : checkBinLimit a = some t) :
    a.limits.nMin ≤ a.tested ∧ ∃ p ∈ a.limits.binLimits, t = (.binLimit, p.1) ∧
      overBinLimit (nth1 0 a.bins p.1) a.tested p.2 = true := by
  unfold checkBinLimit at h
  split at h
  · cases h
  · next enough =>
    obtain ⟨p, found, rfl⟩ := Option.map_eq_some_iff.1 h
    exact ⟨Nat.le_of_not_lt enough, p, List.mem_of_find?_eq_some found, rfl,
      List.find?_some (p := fun q : Nat × Nat => overBinLimit (nth1 0 a.bins q.1) a.tested q.2) found⟩

end Sys2Proof.Machine
end

