-- ==== Sys2Proof/Tests/Slice0.lean ====
section
/-! SUPPORT. Tests/Slice0.lean: the smoke test of WellFormed, the worked figures of the manual, one step of
some commands, and for every statement with hypotheses a state and operands that meet them, clause by
clause. -/
namespace Sys2Proof.Tests
open Sys2Proof.Machine
set_option Elab.async false

/-! ## Small states -/

/-- A peer entry that is PRESENT. -/
def peer : PeerEntry :=
  { presence := .present, lostLatch := false, fresh := false, lastHeard := some 0, beacon := none,
    beaconSince := false, lossTimer := some 6000 }

/-- An ACTIVE station a second after its reset, with every peer PRESENT. -/
def station (n : Nat) (r : Role) : State :=
  let s := State.fullReset n r false false []
  { s with
    start := { s.start with station := .active }, now := 1000,
    link := { s.link with tx := .empty, line := .counting 0 },
    peers := { table := List.replicate 40 peer, beaconTimer := some 2000 } }

/-- A frame to one station. -/
def frm (src dst : Nat) : Header :=
  { addr := { type := .toStation, value := dst }, source := src, fresh := false }

/-- A frame to all stations. -/
def toAll (src : Nat) : Header :=
  { addr := { type := .toAll, value := 0 }, source := src, fresh := false }

/-- The state a command leaves. -/
def after (c : Instr) (s : State) : State :=
  match exec c s with
  | .next t => t
  | _ => s

/-- A lot record, its priority, and a hold record under a key. -/
def lot : LotRecord :=
  { lotId := 70412, index := 1, count := 2, product := 5, program := 9, kit := 12, temp := 25,
    quantity := 1000, group := 0, priority := 5, packStation := 2 }

def holdOf (key generation : Nat) (st : HoldState) : HoldRec :=
  { scope := .lot, key := key, generation := generation, state := st, origin := 3,
    reason := .operator, detail := 0, trigger := 0 }

def stored (key generation : Nat) (st : HoldState) : StoredHold :=
  { hold := holdOf key generation st, timeCleared := if st = .cleared then some 0 else none }

/-- A station with a hold list. -/
def withHolds (rs : List StoredHold) (s : State) : State :=
  { s with holds := { s.holds with records := rs, digest := digestOf rs } }

/-- Twenty-four records in force: a full list. -/
def fullList : List StoredHold := (List.range 24).map fun i => stored (i + 100) 1 .inForce

/-- A station in LEARNING. -/
def learning (s : State) : State :=
  { s with start := { s.start with station := .learning, learning := some 6000 } }

/-- A station whose peer 3 showed another hold list in a BEACON heard since it was last LOST. -/
def showing (s : State) : State :=
  s.setPeers { s.peers with table := s.peers.table.set 2 { peer with
    beacon := some { state := .active, zones := 0, holdCount := 1, digest := 9, block := .pack 0 },
    beaconSince := true } }

/-- A qualified frame that the station's role takes arrives, no watch slot armed. -/
def arriving (h : Header) (p : Payload) (s : State) : Bool := decide (Arrives h p s)

/-! ## WellFormed: a command that each check refuses -/

theorem test_wf_header : Instr.wf (.reserve { frm 1 64 with source := 1 }) = false := by decide
theorem test_wf_source : Instr.wf (.reserve (frm 256 3)) = false := by decide
theorem test_wf_lot_record : Instr.wf (.offer (frm 1 3) { lot with index := 16 }) = false := by decide
theorem test_wf_temperature : Instr.wf (.tempReached 32768) = false := by decide
theorem test_wf_hold_record :
    Instr.wf (.hold (toAll 1) { holdOf 1 1 .inForce with generation := 65536 }) = false := by decide
theorem test_wf_lot_field : Instr.wf (.claim (frm 1 3) 4294967296 1 0 false) = false := by decide
theorem test_wf_index_byte : Instr.wf (.doneTaken (frm 1 3) 1 256) = false := by decide
theorem test_wf_hold_list_empty : Instr.wf (.holdList (frm 1 3) 1 0 0 []) = false := by decide
theorem test_wf_hold_list_long :
    Instr.wf (.holdList (frm 1 3) 4 0 4 (List.replicate 4 (holdOf 1 1 .inForce))) = false := by decide
theorem test_wf_handler_fit :
    Instr.wf (.handlerAvailable (frm 1 3) { kit := 256, tempMin := 0, tempMax := 0, sites := 1 } 0) =
      false := by decide
theorem test_wf_beacon :
    Instr.wf (.beacon (toAll 1)
      { state := .active, zones := 0, holdCount := 0, digest := 65536, block := .pack 0 }) = false := by
  decide
theorem test_wf_block :
    Instr.wf (.beacon (toAll 1)
      { state := .active, zones := 0, holdCount := 0, digest := 0, block := .pack 256 }) = false := by
  decide
theorem test_wf_permit : Instr.wf (.permit (frm 1 3) { Permit.idle with kit := 256 }) = false := by decide
theorem test_wf_status_sites :
    Instr.wf (.handlerStatus (frm 1 3)
      { ready := false, reachedValid := false, jam := false, soak := .unset, reached := 0, mask := 0,
        sites := List.replicate 7 .up, jamCount := 0 }) = false := by decide
theorem test_wf_bins : Instr.wf (.binReport 1 [1, 0, 0, 0, 0, 0, 0]) = false := by decide
theorem test_wf_bin_byte : Instr.wf (.binReport 1 [256, 0, 0, 0, 0, 0, 0, 0]) = false := by decide
theorem test_wf_pairs : Instr.wf (.limitSetB 5 [(7, 205)] 0) = false := by decide
theorem test_wf_part_a :
    Instr.wf (.limitSetA
      { product := 65536, lya := 0, lyf := 0, nMin := 1, nSite := 1, sdl := 0, cf := 0, good := 1,
        retestable := 0, passes := 0 }) = false := by decide
theorem test_wf_counter : Instr.wf (.contactorCount 1 4294967296) = false := by decide
theorem test_wf_peer : Instr.wf (.lossTimerExpiry 41) = false := by decide
theorem test_wf_edges : Instr.wf (.unknownTransaction { bytes := [], extraEdges := 8 }) = false := by
  decide
theorem test_wf_image :
    Instr.wf (.startEnd
      { ackWrite := true, ackByte := true, ackRead := true, data := List.replicate 193 0 }) = false := by
  decide +kernel
theorem test_wf_completion :
    Instr.wf (.lotDone (toAll 1)
      { lotId := 1, index := 1, count := 1, product := 1, program := 1, quantity := 1, packStation := 2,
        cell := 3, tested := 16777216, good := 0, unretested := 0, excess := 0, passes := 1,
        result := .passed, reasons := 0 }) = false := by decide
theorem test_wf_reasons : fitsReasons 0x1000#16 = false := by decide
theorem test_wf_release :
    Instr.wf (.release (toAll 1)
      { lotId := 1, product := 1, count := 1, sumTested := 0, sumGood := 0, yield := 65536,
        gateWaived := false, hasAccepted := false, sequence := 1, code := 0 }) = false := by decide

/-! ## The floor link -/

/-- R3: the check of the nine bytes "123456789" under the polynomial x^16 + x^15 + x^2 + 1 from 0, not
reflected, worked by hand, is FEE8. -/
theorem test_crc16 :
    crc16 [0x31#8, 0x32#8, 0x33#8, 0x34#8, 0x35#8, 0x36#8, 0x37#8, 0x38#8, 0x39#8] = 0xFEE8#16 := by
  decide +kernel

/-- R8: with last sender 37 station 2 has position 5, and the last sender has position 40. -/
theorem test_position : position 2 37 = 5 ∧ position 37 37 = 40 ∧ position 9 0 = 9 := by decide +kernel

/-- R2, R3: the bytes of a RESERVE from station 14 to station 31: start byte, kind 12, address, source,
flags, length 0, and the check. -/
theorem test_reserve_bytes :
    (frameBytes (frm 14 31) .reserve).take 6 = [0xA5#8, 0x12#8, 31#8, 14#8, 0#8, 0#8] ∧
      (frameBytes (frm 14 31) .reserve).length = 8 := by decide +kernel

/-- A transmission that spells a RESERVE is the RESERVE row (R14). -/
theorem test_reserve_received :
    after (.transmissionEnd { levels := lineLevels (frameBytes (frm 14 31) .reserve) })
        (station 31 .handler) = after (.reserve (frm 14 31)) (station 31 .handler) := by decide +kernel

/-- R14: one bit changed on the wire fails the CHECK test. -/
theorem test_check_latch :
    (after (.transmissionEnd
        { levels := lineLevels ([0xA5#8, 0x12#8, 31#8, 15#8] ++
            (frameBytes (frm 14 31) .reserve).drop 4) }) (station 31 .handler)).link.latches.check =
      true := by decide +kernel

theorem test_line_join :
    (after .lineJoin { station 5 .pack with link := { Link.reset with tx := .empty, line := .joining } }
      ).link.line = .counting 0 := by decide +kernel

/-- R1: the bits of A5, most significant first and dominant for 0, between a dominant start bit and a
recessive stop bit. -/
theorem test_byte_on_the_line :
    let d : Level := .dominant
    let r : Level := .recessive
    byteLevels 0xA5#8 = [d, r, d, r, d, d, r, d, r, r] := by decide

/-- R1, R14: a dominant stop bit in the source byte of a good frame fails FRAMING. -/
theorem test_stop_fault :
    (after (.transmissionEnd
        { levels := (lineLevels (frameBytes (frm 14 31) .reserve)).set 39 .dominant })
      (station 31 .handler)).link.latches.framing = true := by decide +kernel

/-- R13: a station still joining hears no frame; from the joining step it does, with L = 0. -/
theorem test_joining_hears_nothing :
    let s := station 31 .handler
    let joining : State := s.setLink { s.link with line := .joining }
    (after (.reserve (frm 14 31)) joining).handler.rel = .free ∧
      (after (.reserve (frm 14 31)) joining).link.last = 0 ∧
      (after .lineJoin joining).link.last = 0 ∧
      (after (.reserve (frm 14 31)) (after .lineJoin joining)).handler.rel = .reserved := by
  decide +kernel

/-- R9, R11: a frame posted is sent, collides, and is in backoff with an attempt count of 1. -/
def sending (attempts : Nat) (tx : TxState) : State :=
  { station 5 .pack with
    link := { Link.reset with
      tx := tx, line := if tx = .sending ∨ tx = .disturbing then .busy else .counting 0,
      attempts := attempts,
      queue := [{ addr := { type := .toStation, value := 7 }, payload := .reserve },
                { addr := { type := .toStation, value := 8 }, payload := .reserve }] } }

theorem test_frame_sent :
    (after .frameSent (sending 0 .sending)).link.last = 5 ∧
      (after .frameSent (sending 0 .sending)).link.queue.length = 1 := by decide +kernel
theorem test_collision_backs_off :
    (after .disturbanceEnd (after .collision (sending 0 .sending))).link.tx = .backoff ∧
      (after .disturbanceEnd (after .collision (sending 0 .sending))).link.attempts = 1 := by decide +kernel
theorem test_eighth_collision :
    (after .disturbanceEnd (sending 7 .disturbing)).link.latches.txAbandon = true ∧
      (after .disturbanceEnd (sending 7 .disturbing)).link.queue.length = 1 := by decide +kernel
theorem test_round_over : (after .backoffRoundOver (sending 1 .backoff)).link.tx = .waiting := by decide +kernel
theorem test_guard_carrier :
    (after (.carrierDetect .guard) (sending 1 .backoff)).link.tx = .backoff ∧
      (after (.carrierDetect .round) (sending 1 .backoff)).link.tx = .waiting := by decide +kernel

/-! ## Start and peers -/

def noImage : ImageRead := { ackWrite := false, ackByte := false, ackRead := false, data := [] }

/-- R18, R22, R27: HANDLER 31 starts on its defaults: LEARNING for 6 s, its first BEACON at 775 ms. -/
theorem test_start :
    (after (.startEnd noImage) (after (.resetRelease 31 1) State.reset)).start.learning = some 6000 ∧
      (after (.startEnd noImage) (after (.resetRelease 31 1) State.reset)).peers.beaconTimer = some 775 := by
  decide +kernel
theorem test_bad_number :
    (after (.startEnd noImage) (after (.resetRelease 0 1) State.reset)).start.cause = .badNumber := by
  decide +kernel
theorem test_learning_ends :
    (after .learningTimerExpiry
      (after (.startEnd noImage) (after (.resetRelease 31 1) State.reset))).start.station = .active := by
  decide +kernel
theorem test_peer_lost :
    (peerAt (after (.lossTimerExpiry 40) (station 5 .pack)).peers 40).lostLatch = true := by decide +kernel

/-! ## Holds -/

/-- R139: 3 is newer than 65533, and 65535 is followed by 1. -/
theorem test_generation : genNewer 3 65533 = true ∧ genNewer 65533 3 = false ∧ genSucc 65535 = 1 := by
  decide +kernel

/-- Spec/08, "A clear that overtakes its hold": the tombstone makes the later HOLD of the same generation
find a CLEARED record, which stays. -/
theorem test_clear_overtakes :
    ((after (.hold (toAll 3) (holdOf 500 1 .inForce))
      (after (.clear (toAll 3) .lot 500 1 .resume 3) (station 5 .pack))).holds.records.map
        (·.hold.state)) = [.cleared] := by decide +kernel

theorem test_place_hold :
    ((after (.placeHold .lot 500 0) (station 5 .pack)).holds.records.map (·.hold.generation)) = [1] ∧
      (after (.placeHold .lot 500 0) (station 5 .pack)).link.queue.length = 1 := by decide +kernel

/-! ## The yield guard -/

/-- The entry of the first worked case of spec/07. -/
def caseLimits : LimitEntry :=
  { lya := 3686, lyf := 3900, nMin := 200, nSite := 100, sdl := 410, cf := 0, good := 1,
    retestable := 0x000C, passes := 1, binLimits := [(7, 205)], jamLimit := 0 }

def tally (tested good : Nat) : SiteTally := { tested := tested, good := good, run := 0 }

/-- An active lot in pass 1 with nothing counted. -/
def lotUnder (l : LimitEntry) : ActiveLot :=
  { lot := lot, stage := 4, phase := .inPass, readySeen := true, lastPermit := none, waiting := none,
    source := .product, limits := l, pass := 1, allowance := l.passes, tested := 0,
    bins := List.replicate 16 0, pool := 0, unretested := 0, excess := 0,
    sites := List.replicate 8 (tally 0 0), reasons := 0, suppressed := 0, jamArmed := true }

/-- CELL 14 bound to HANDLER 31, ready, with a lot and a site mask. -/
def cellWith (a : Option ActiveLot) (mask : SiteMask) : State :=
  let s := station 14 .cell
  { s with cell := { s.cell with
      active := a, ready := true, mask := mask,
      binding := { BindingPart.none with state := .bound, handler := 31, mask := mask } } }

/-- The first worked case of spec/07 at the end of pass 1. -/
def caseLot : ActiveLot :=
  { lotUnder caseLimits with
    tested := 1000, bins := [943, 0, 30, 12, 0, 0, 15] ++ List.replicate 9 0,
    sites := [tally 500 480, tally 500 463] ++ List.replicate 6 (tally 0 0) }

theorem test_retest_pass :
    (after .endPass (cellWith (some caseLot) 3)).cell.active.map
        (fun a => (a.pass, a.pool, binSum a.bins)) = some (2, 42, 958) := by decide +kernel

/-- Its last two retest reports spend the pool, and the automatic pass end finishes the lot PASSED
(R133). -/
theorem test_auto_pass_end :
    (after (.binReport 3 [7, 7, 0, 0, 0, 0, 0, 0])
      (cellWith (some { caseLot with
        pass := 2, pool := 2, bins := [973, 0, 8, 0, 0, 0, 17] ++ List.replicate 9 0 }) 3)
      ).cell.outbox.map (fun r => (r.record.good, r.record.passes, r.record.result)) =
      [(973, 2, .passed)] := by decide +kernel

/-- The worked case of a split site and a stray entry: SITE_DELTA and YIELD_ALARM trigger, and the hold
placed carries SITE_DELTA with detail 2. -/
def splitLot : ActiveLot :=
  { lotUnder { caseLimits with cf := 8 } with
    tested := 1257, bins := [1075, 0, 0, 0, 122, 0, 60] ++ List.replicate 9 0,
    sites := [tally 399 379, tally 400 300, tally 59 19, tally 399 377] ++
      List.replicate 4 (tally 0 0) }

theorem test_split_site :
    ((binReport 15 [1, 5, 1, 1, 0, 0, 0, 0] (cellWith (some splitLot) 13)).1.holds.records.map
        fun r => (r.hold.reason, r.hold.detail)) = [(.siteDelta, 2)] := by decide +kernel
theorem test_split_site_reasons :
    ((binReport 15 [1, 5, 1, 1, 0, 0, 0, 0] (cellWith (some splitLot) 13)).1.cell.active.map
        fun a => (a.tested, a.reasons)) =
      some (1260, reasonBit .siteDelta ||| reasonBit .yieldAlarm) := by decide +kernel

/-! ## The handler -/

/-- HANDLER 31 bound to CELL 14, READY at 85 °C with kit 12. -/
def bound31 : State :=
  let s := station 31 .handler
  { s with handler := { s.handler with
      rel := .bound, cell := 14, kit := 12, soak := .ready, target := some 85 } }

def hotPermit : Permit := { run := true, lotId := 70412, index := 1, kit := 12, temp := 125 }

theorem test_hot_permit :
    (after (.permit (frm 14 31) hotPermit) bound31).handler.soak = .settling ∧
      (after (.permit (frm 14 31) hotPermit) bound31).handler.target = some 125 := by decide +kernel

/-- HANDLER 31 under that permit, in a soak state. -/
def hot (st : SoakState) : State :=
  { bound31 with handler := { bound31.handler with
      permit := hotPermit, soak := st, target := some 125, soakTimer := some 181000 } }

theorem test_hot_soak : (after (.tempReached 125) (hot .settling)).handler.soakTimer = some 181000 := by
  decide +kernel
theorem test_index_enable : (after .soakTimerExpiry (hot .soaking)).pins.indexEn = true := by
  decide +kernel

/-- INDEX-ENABLE high: every condition of R109 holds. -/
theorem wit_OutputPinsFollowTheState :
    let s := after .soakTimerExpiry (hot .soaking)
    PinsRight s ∧ HoldsRight s ∧ s.pins.indexEn = true ∧ (siteAt s.handler 4).status = .up := by
  refine ⟨?_, ?_, ?_, ?_⟩
  · unfold PinsRight; decide +kernel
  · unfold HoldsRight; decide +kernel
  · decide +kernel
  · decide +kernel

theorem test_wrong_setpoint :
    (after (.tempReached 85) (hot .settling)).port.previous.answer = .refused .wrongSetpoint := by
  decide +kernel

/-- The worn contactor of spec/06: F = 500 with the granularity flag is a limit of 513,023. -/
def worn : State :=
  let s := bound31
  { s with
    start := { s.start with
      config := { s.start.config with contactorField := 500, granularity := true } },
    handler := { s.handler with
      sites := (List.replicate 8 { status := .up, counter := 0 }).set 2
        { status := .up, counter := 513022 } } }

theorem test_contact_life :
    (siteAt (after (.unitIndexed 15) worn).handler 3).status = .contactLife ∧
      siteMask (after (.unitIndexed 15) worn) = 11#8 := by decide +kernel

/-! ## The other blocks -/

def waitingEntry : StageEntry :=
  { lot := lot, arrived := 0, state := .waiting, claims := [], excluded := [], returnPending := false,
    window := none, accept := none }

/-- STAGE 3 with entries. -/
def stageWith (es : List StageEntry) : State :=
  let s := station 3 .stage
  { s with stage := { s.stage with entries := es } }

theorem test_contest_opens :
    (after (.claim (frm 14 3) 70412 1 224 false) (stageWith [waitingEntry])).stage.entries.map
      (·.window) = [some 1200] := by decide +kernel
theorem test_grant_best :
    (after (.contestWindowExpiry 70412 1) (stageWith [{ waitingEntry with
      state := .contest, window := some 1200,
      claims := [{ cell := 15, score := 200, owned := false },
                 { cell := 14, score := 200, owned := false }] }])).stage.entries.map (·.state) =
      [.granted 14 200] := by decide +kernel

/-- A completion record of the lot. -/
def done (index cell : Nat) : Completion :=
  { lotId := 70412, index := index, count := 2, product := 5, program := 9, quantity := 1000,
    packStation := 2, cell := cell, tested := 1000, good := 973, unretested := 0, excess := 0,
    passes := 2, result := .passed, reasons := 0 }

def packEntry (slots : List (Option Completion)) (st : PackState) : PackEntry :=
  { lotId := 70412, product := 5, program := 9, count := 2, slots := slots, state := st,
    conflict := false, waiting := .none, gateWaived := false, countWaived := false,
    timeClosed := none, release := none }

def packWith (es : List PackEntry) : State :=
  let s := station 2 .pack
  { s with pack := { s.pack with entries := es } }

/-- R122, R126: with 5000 units tested, one unit of bin 7 triggers BIN_LIMIT under a limit of 0 and not
under one of 1, two units (1 of 4096) do not either, three do (2 of 4096); no unit triggers under 0, nor
does one below the sample floor. -/
theorem test_bin_limit_of_zero :
    let a (count limit nMin : Nat) : ActiveLot := { caseLot with
      tested := 5000, bins := (List.replicate 16 0).set 6 count,
      limits := { caseLimits with nMin := nMin, binLimits := [(7, limit)] } }
    [checkBinLimit (a 1 0 5000), checkBinLimit (a 1 1 200), checkBinLimit (a 2 1 200),
      checkBinLimit (a 3 1 200), checkBinLimit (a 0 0 200), checkBinLimit (a 1 0 5001)] =
      [some (.binLimit, 7), none, none, some (.binLimit, 7), none, none] := by decide +kernel

theorem test_pack_complete :
    (after (.lotDone (toAll 20) (done 2 20)) (packWith [packEntry
      [some (done 1 14), none, none, none] .collecting])).pack.entries.map (·.state) = [.complete] := by
  decide +kernel
theorem test_pack_released :
    (after (.packDone 70412 1946) (packWith [packEntry
      [some (done 1 14), some (done 2 20), none, none] .complete])).pack.entries.map (·.state) =
      [.released] := by decide +kernel

/-- The worked exchange of spec/10: a corrupted byte gives ERROR(CHECK) and its latch. -/
theorem test_port_check :
    (after (.unknownTransaction
        { bytes := [0x20#8, 1#8] ++ (commandBytes (.lotArrived lot)).drop 2, extraEdges := 0 })
      (stageWith [])).port.previous = { answer := .error .check, echo := 0x20 } := by decide +kernel
theorem test_port_bytes :
    after (.unknownTransaction { bytes := commandBytes (.lotArrived lot), extraEdges := 0 })
      (stageWith []) = after (.lotArrived lot) (stageWith []) := by decide +kernel
theorem test_short_transaction :
    (after (.unknownTransaction { bytes := [0x04#8] ++ List.replicate 11 0#8, extraEdges := 4 })
      (station 3 .stage)).port.previous = { answer := .error .length, echo := 4 } := by decide +kernel

/-- Spec/04, from offer to delivery: a lot at the bound handler's kit and temperature with an idle cell is
claimed at 128 + 64 + 32. -/
theorem test_claim_score :
    let s := cellWith none 15
    let c : State := s.setCell { s.cell with
      reached := some 25,
      binding := { s.cell.binding with fit := { kit := 12, tempMin := 15, tempMax := 35, sites := 4 } } }
    (after (.offer (toAll 4) lot) c).link.queue.map (·.payload) = [.claim 70412 1 224 false] := by
  decide +kernel

/-- CELL 14 with a cell's data changed. -/
def cell14 (f : Cell → Cell) : State :=
  let s := station 14 .cell
  s.setCell (f s.cell)

def sighting (st : SightState) (marked : Bool) : Sighting :=
  { lot := lot, stage := 4, firstHeard := 0, lastOffered := 500, state := st, marked := marked,
    result := .noHandler }

def outboxRec (index : Nat) : OutboxRecord := { record := done index 14, sent := 255, mark := false }

def fit31 : HandlerFit := { kit := 12, tempMin := -55, tempMax := 150, sites := 4 }

def cand (n : Nat) : Candidate := { handler := n, fit := fit31, idle := 10 }

/-- CELL 14 with a reservation part. -/
def reserving (r : Reservation) : State := cell14 fun c => { c with reservation := r }

/-- CELL 14 with a binding part. -/
def binding (st : BindState) (first : Bool) : State := cell14 fun c =>
  { c with
    binding := { BindingPart.none with state := st, handler := 31, timer := some 2000, first := first },
    permitTimer := some 3000, active := some caseLot }

/-- R169: a full reset abandons a transaction in progress: what RELEASE brings runs nothing. -/
theorem test_reset_abandons :
    let s := after (.resetRelease 5 3) (after .resetAssert (after .csAssert (station 5 .pack)))
    s.port.abandoned = true ∧
      (after (.readStatus 0) s).port.previous = { answer := .start, echo := 0 } ∧
      (after (.readStatus 0) s).port.abandoned = false := by decide +kernel

/-- R157: an index at or above the number of entries reports the count and no entry, in every part. -/
theorem test_read_pack_beyond :
    [0, 1, 4].map (fun p => (after (.readPack 1 p) (packWith [packEntry
      [some (done 1 14), none, none, none] .collecting])).port.previous.answer) =
      List.replicate 3 (.done [1#8]) := by decide +kernel

/-! ## What the statements suppose: the whole machine -/

/-- A CELL with a lot in its second worked report, a hold list, and a command waiting. -/
def busy : State :=
  { withHolds [stored 500 1 .inForce, stored 501 2 .cleared] (cellWith (some caseLot) 3) with
    pending := [.nop] }

theorem wit_StepRunsFrontCommand : busy.pending = .nop :: [] := rfl

theorem wit_IdleStepQueuesTheEarliestExpiry :
    (State.reset.pending = [] ∧ State.reset.pins.inReset = true) ∧
      ((station 5 .pack).pending = [] ∧ (station 5 .pack).pins.inReset = false) := by decide +kernel

theorem wit_NothingHappensInReset :
    State.reset.pins.inReset = true ∧ (∀ n r, Instr.nop ≠ .resetRelease n r) ∧
      Instr.nop ≠ .resetAssert := ⟨rfl, nofun, nofun⟩

/-- The promises hold of a state in the midst of a run, which steps: the premise of every invariant. -/
theorem wit_Safe : Safe busy := by
  refine ⟨?_, ?_, ?_, ?_, ?_, ?_, ?_, ?_, ?_, ?_, ?_⟩
  · unfold PinsRight; decide +kernel
  · unfold HoldsRight; decide +kernel
  · unfold QueuesRight; decide +kernel
  · unfold LinkRight; decide +kernel
  · intro a h; cases h; decide +kernel
  · unfold RelationRight; decide +kernel
  · unfold TablesRight; decide +kernel
  · rfl
  · exact ⟨by decide +kernel, rfl, rfl, rfl, fun a h => by cases h; decide +kernel, by decide +kernel⟩
  · exact ⟨by decide +kernel, by decide +kernel, by decide +kernel, fun a h => by cases h; decide +kernel⟩
  · unfold ListsRight; decide +kernel

theorem wit_invariants : ∃ t, step busy = .next t := ⟨_, rfl⟩

/-- A station silenced by a duplicate number. -/
def silent (cause : SilentCause) (n : Nat) (r : Role) : State :=
  let s := station n r
  { s with
    start := { s.start with station := .silent, cause := cause },
    link := { s.link with tx := .off } }

theorem wit_SilentIsLeftOnlyByReset :
    (silent .dupId 5 .pack).start.station = .silent ∧
      (∃ t, exec .nop (silent .dupId 5 .pack) = .next t) ∧ (∀ n r, Instr.nop ≠ .resetRelease n r) ∧
      Instr.nop ≠ .resetAssert ∧ (∃ t, exec .restart (silent .dupId 5 .pack) = .next t) ∧
      (∀ n r, Instr.restart ≠ .resetRelease n r) ∧ Instr.restart ≠ .resetAssert :=
  ⟨rfl, ⟨_, rfl⟩, nofun, nofun, ⟨_, rfl⟩, nofun, nofun⟩

/-! ## The end of an event -/

/-- CELL 14 bound to a ready handler of the lot's kit and temperature, with sightings. -/
def eager (xs : List Sighting) : State :=
  let s := cellWith none 15
  s.setCell { s.cell with
    reached := some 25, sightings := xs,
    binding := { s.cell.binding with fit := { kit := 12, tempMin := 15, tempMax := 35, sites := 4 } } }

def seenLot (id priority : Nat) : Sighting :=
  { lot := { lot with lotId := id, priority := priority }, stage := 4, firstHeard := 0,
    lastOffered := 500, state := .seen, marked := false, result := .notActive }

/-- Five sightings, one of a higher priority, for four places. -/
def five : List Sighting := [seenLot 11 5, seenLot 12 5, seenLot 13 9, seenLot 14 5, seenLot 15 5]

/-- R60: the highest priority first, then the lot ids in order, and the fifth finds the queue full. -/
theorem test_claims_in_order :
    (settle (eager five) (eager five)).link.queue.map (·.payload) =
        [.claim 13 1 224 false, .claim 11 1 224 false, .claim 12 1 224 false, .claim 14 1 224 false] ∧
      (settle (eager five) (eager five)).cell.sightings.map (·.result) =
        [.eligible, .eligible, .eligible, .eligible, .queueFull] := by decide +kernel

/-- R58: the first check that fails gives the reason; R59: the terms of a bound and of a reserved handler. -/
theorem test_eligibility_and_score :
    let s := eager []
    let on (f : Cell → Cell) : State := s.setCell (f s.cell)
    let full : List OutboxRecord := (List.range 8).map fun i => { record := done (i + 1) 14, sent := 0, mark := false }
    let f : HandlerFit := { kit := 12, tempMin := 15, tempMax := 35, sites := 4 }
    let booked : State := on fun c =>
      { c with binding := BindingPart.none, reservation := .reserved 31 f (some 9000) }
    [eligibility s lot, eligibility s { lot with kit := 13, temp := 99 }, eligibility s { lot with temp := 36 },
      eligibility (on fun c => { c with outbox := full }) lot,
      eligibility (on fun c => { c with binding := BindingPart.none, outbox := full }) lot,
      eligibility booked lot,
      eligibility (withHolds [stored 70412 1 .inForce] s) lot] =
        [.eligible, .kit, .temperature, .outboxFull, .noHandler, .eligible, .held] ∧
    [score s.cell lot, score s.cell { lot with temp := 28 }, score booked.cell lot,
      score (on fun c => { c with queue := [{ lot := lot, stage := 4, accepted := 0 }] }).cell lot] =
        [224, 192, 160, 200] := by
  refine ⟨?_, ?_⟩ <;> decide +kernel

theorem wit_EveryEligibleSightingIsClaimed :
    (busy.isActive = true ∧ busy.start.role = .cell ∧
      ∃ x ∈ (settle busy { busy with cell := { busy.cell with
          sightings := [{ lot := lot, stage := 4, firstHeard := 0, lastOffered := 0, state := .seen,
                          marked := false, result := .notActive }] } }).cell.sightings,
        isSeen x = true) ∧
    ((eager five).isActive = true ∧ (eager five).start.role = .cell ∧
      (∀ x ∈ (eager five).cell.sightings, isSeen x = true ∧ eligibility (eager five) x.lot = .eligible) ∧
      (eager five).link.tx ≠ .off ∧ (eager five).link.queue.length + 4 ≤ 16) ∧
    (let s := withHolds [stored 1 1 .inForce] (showing (eager five))
     s.isActive = true ∧ s.start.role = .cell ∧
      ¬(s.holds.digest = (showing (eager five)).holds.digest ∧
        s.holds.records.length = (showing (eager five)).holds.records.length) ∧
      s.link.tx ≠ .off ∧ s.link.queue.length + 1 + 4 ≤ 16) := by
  refine ⟨?_, ?_, ?_⟩ <;> decide +kernel

/-- R60, R94, R150: an event that changes the hold list posts the resync request before the CLAIMs and before
the HANDLER-STATUS. -/
theorem test_request_first :
    let sent (before s : State) : List Payload :=
      (settle before (withHolds [stored 1 1 .inForce, stored 2 1 .inForce] s)).link.queue.map (·.payload)
    let due := showing { bound31 with handler := { bound31.handler with jamLatch := true } }
    sent (eager five) (showing (eager five)) =
      [.holdListReq 0, .claim 13 1 224 false, .claim 11 1 224 false, .claim 12 1 224 false,
        .claim 14 1 224 false] ∧
    sent bound31 due = [.holdListReq 0, .handlerStatus (statusNow due)] := by
  refine ⟨?_, ?_⟩ <;> decide +kernel

theorem queue_eager : CellQueueRight (eager five) :=
  ⟨by decide +kernel, by decide +kernel, by decide +kernel, (fun a h => nomatch h)⟩

/-- The states of the active lot, a permit that is due on entering BOUND and at a change, and none due: the
permit as it stood, a binding that is not BOUND, no lot, and a station that is not ACTIVE. -/
theorem wit_EventEndChangesOnly :
    let s := cellWith (some caseLot) 3
    let lotIn (p : Phase) : ActiveLot := { caseLot with phase := p }
    let part (r : Bool) : State := s.setCell { s.cell with ready := r }
    let held := withHolds [stored 70412 1 .inForce] s
    ((lotIn .finished).phase = .finished ∧ (lotIn .awaiting).phase = .awaiting ∧
      (∃ x ∈ held.holds.records, x.hold.state = .inForce ∧ x.hold.scope = .lot ∧
        x.hold.key = caseLot.lot.lotId)) ∧
    (caseLot.phase = .inPass ∧ s.holds.overflow = false ∧ s.holds.records = [] ∧
      (binding .orphaned false).cell.binding.state ≠ .bound ∧ s.cell.binding.state = .bound ∧
      (part true).cell.ready = true ∧ (part false).cell.ready = false ∧ caseLot.readySeen = true) ∧
    ((station 14 .cell).cell.active = none ∧ s.cell.active = some caseLot) ∧
    (s.isActive = true ∧ s.start.role = .cell ∧ s.link.tx ≠ .off ∧ s.link.queue.length ≤ 6 ∧
      (binding .binding false).cell.binding.state ≠ .bound ∧ permitNow s ≠ permitNow held) ∧
    ((binding .orphaned false).isActive = true ∧ permitNow s = permitNow s ∧
      (learning s).isActive = false) := by
  refine ⟨?_, ?_, ?_, ?_, ?_⟩ <;> decide +kernel

/-- R67, R68: the derived state of the lot; a hold that comes stops the bound handler with one PERMIT, as
BOUND entered sends one and an event that changes nothing none; and none is sent in LEARNING. -/
theorem test_permits :
    let s := cellWith (some caseLot) 3
    let held := withHolds [stored 70412 1 .inForce] s
    let fresh : ActiveLot := { caseLot with readySeen := false }
    let sent (before s : State) : List (Nat × Bool × Nat) :=
      (settle before s).link.queue.filterMap fun f =>
        match f.payload with | .permit p => some (f.addr.value, p.run, p.lotId) | _ => none
    ([lotState s caseLot, lotState (s.setCell { s.cell with ready := false }) caseLot,
        lotState (s.setCell { s.cell with ready := false }) fresh,
        lotState (binding .orphaned false) caseLot, lotState held caseLot,
        lotState held { caseLot with phase := .finished }] =
      [.running, .paused, .setup, .paused, .held, .finished]) ∧
    (sent s held = [(31, false, 70412)] ∧ sent held s = [(31, true, 70412)] ∧ sent s s = [] ∧
      sent (binding .binding false) s = [(31, true, 70412)] ∧ sent s (cellWith none 3) = [(31, false, 0)] ∧
      sent s (binding .orphaned false) = [] ∧ sent (learning s) (learning held) = []) ∧
    ((settle s held).cell.active.map (·.lastPermit) = some (some (permitNow held))) := by
  refine ⟨?_, ?_, ?_⟩ <;> decide +kernel

/-- The clauses of HANDLER-STATUS: one due, none due, and a handler out of BOUND. -/
theorem wit_HandlerStatusIsSentOnceAnEvent :
    let due := { bound31 with handler := { bound31.handler with jamLatch := true } }
    (due.start.role = .handler ∧ due.holds.digest = bound31.holds.digest ∧
      due.holds.records.length = bound31.holds.records.length ∧ due.isActive = true ∧
      due.handler.rel = .bound ∧ statusDue bound31 due = true ∧ due.link.queue.length < 16 ∧
      due.link.tx ≠ .off) ∧
    (bound31.isActive = true ∧ bound31.handler.rel = .bound ∧ statusDue bound31 bound31 = false) ∧
    (station 31 .handler).handler.rel ≠ .bound ∧
    ((statusNow bound31).reachedValid = true ∧ bound31.handler.target = some 85 ∧
      4 ≤ bound31.start.config.siteCount ∧ bound31.start.config.siteCount < 5 ∧
      (statusNow (station 31 .handler)).reachedValid = false) ∧
    (let s := withHolds [stored 1 1 .inForce, stored 2 1 .inForce] (showing due)
     let still := withHolds [stored 1 1 .inForce, stored 2 1 .inForce] (showing bound31)
     s.start.role = .handler ∧ s.isActive = true ∧ s.handler.rel = .bound ∧
      s.holds.records.length ≠ bound31.holds.records.length ∧ statusDue bound31 s = true ∧
      s.link.queue.length + 1 < 16 ∧ s.link.tx ≠ .off ∧
      still.isActive = true ∧ still.handler.rel = .bound ∧ statusDue bound31 still = false) := by
  decide +kernel

/-! ## The floor link -/

theorem wit_AccessPositionsAreDistinct :
    (1 ≤ 1 ∧ 1 ≤ 40 ∧ 0 ≤ 40) ∧ (1 ≤ 40 ∧ 40 ≤ 40) ∧ position 40 40 = position 40 40 := by decide

theorem wit_FramesReadBack :
    (toAll 3).wf = true ∧ (Payload.hold (holdOf 500 65535 .cleared)).wf = true ∧
      ∀ k bs, Payload.hold (holdOf 500 65535 .cleared) ≠ .raw k bs :=
  ⟨by decide +kernel, by decide +kernel, nofun⟩

theorem wit_TransactionsReadBack :
    (PortCommand.contactorCount 8 4294967295).wf = true ∧ (PortCommand.lotArrived lot).wf = true := by
  decide +kernel

theorem wit_LineAccessAndSending :
    ({ station 5 .pack with link := { Link.reset with line := .joining } } : State).link.line = .joining ∧
      (station 5 .pack).pins.inReset = false ∧
      ((sending 1 .backoff).link.line = .counting 0 ∧ (sending 1 .backoff).pins.inReset = false) ∧
      ((sending 0 .waiting).link.tx = .waiting ∧ (sending 0 .waiting).link.line = .counting 0 ∧
        ∃ f q, (sending 0 .waiting).link.queue = f :: q) ∧
      ((sending 0 .sending).link.tx = .sending ∧ (∃ f q, (sending 0 .sending).link.queue = f :: q) ∧
        (sending 0 .sending).port.watches = [none, none, none, none]) ∧
      ((sending 6 .disturbing).link.tx = .disturbing ∧ (sending 6 .disturbing).link.attempts < 7) ∧
      ((sending 7 .disturbing).link.tx = .disturbing ∧ 7 ≤ (sending 7 .disturbing).link.attempts) :=
  ⟨rfl, rfl, ⟨rfl, rfl⟩, ⟨rfl, rfl, _, _, rfl⟩, ⟨rfl, ⟨_, _, rfl⟩, rfl⟩, ⟨rfl, by decide⟩,
    ⟨rfl, by decide⟩⟩

/-- A transmission for each of the three checks, and one that passes; and a station still joining. -/
theorem wit_TransmissionsAreChecked :
    let rx (bs : List Byte) : Reception := received { levels := lineLevels bs }
    let good := frameBytes (frm 14 31) .reserve
    let far := frameBytes (frm 14 41) .reserve
    let joining : State := { station 5 .pack with link := { Link.reset with line := .joining } }
    joining.link.line = .joining ∧
    (station 31 .handler).pins.inReset = false ∧ receiving (station 31 .handler) = true ∧
      framingOk (rx (good.take 7)) = false ∧
      (framingOk (rx (good.take 7 ++ [0])) = true ∧ checkOk (rx (good.take 7 ++ [0])).bytes = false) ∧
      (framingOk (rx far) = true ∧ checkOk (rx far).bytes = true ∧
        addressOk (readHeader (rx far).bytes) (readFramePayload (rx far).bytes) = false) ∧
      (framingOk (rx good) = true ∧ checkOk (rx good).bytes = true) ∧
      6 ≤ (rx (good.take 7)).bytes.length := by decide +kernel

/-- R14: FRAMING by the byte count, a length byte of 49, the start byte and a stop fault; CHECK by one bit;
ADDRESS by type 3, a station above 40, a source of 0 and a type the kind may not use (R5). -/
theorem test_frame_checks :
    let good := frameBytes (frm 14 31) .reserve
    let ok (bs : List Byte) : Bool := framingOk { bytes := bs, stopFault := false }
    let all (p : Payload) : Bool := addressOk (toAll 14) p
    let long (n : Nat) : List Byte := good.take 5 ++ be1 n ++ List.replicate (n + 2) 0
    [ok good, ok (good ++ [0]), ok (good.take 5), ok (0xA4#8 :: good.drop 1), ok (long 48), ok (long 49),
      framingOk { bytes := good, stopFault := true }] = [true, false, false, false, true, false, false] ∧
    checkOk good = true ∧ checkOk (good.take 4 ++ (good.getD 4 0 ^^^ 1#8) :: good.drop 5) = false ∧
    [addressOk { frm 14 31 with addr := { type := .type3, value := 31 } } .reserve,
      addressOk (frm 14 41) .reserve, addressOk (frm 0 31) .reserve, addressOk (frm 41 31) .reserve,
      all .reserve, all (.offer lot), addressOk (frm 14 31) (.offer lot), all (.handlerWanted 12 25)] =
      [false, false, false, false, false, true, false, false] := by
  refine ⟨?_, ?_, ?_, ?_⟩ <;> decide +kernel

theorem wit_QualifiedFramesAreHandedOn :
    let s := station 31 .handler
    let u (h : Header) (p : Payload) : State := offerWatches p
      (hear h.source h.fresh (s.setLink (s.link.afterTransmission h.source)))
    let odd : Payload := .raw 0x1B []
    let wrong : Payload := .raw 0x12 [0]
    (receiving s = true ∧ addressOk (frm 14 30) .reserve = true ∧ (frm 14 30).source ≠ s.start.number ∧
      forThisStation (u (frm 14 30) .reserve) (frm 14 30) = false) ∧
    (addressOk (frm 14 31) odd = true ∧ forThisStation (u (frm 14 31) odd) (frm 14 31) = true ∧
      kindKnown (kindCode odd) = false) ∧
    (addressOk (frm 14 31) (.doneTaken 1 1) = true ∧ kindKnown (kindCode (.doneTaken 1 1)) = true ∧
      takenBy (kindCode (.doneTaken 1 1)) (u (frm 14 31) (.doneTaken 1 1)).start.role = false) ∧
    (addressOk (frm 14 31) wrong = true ∧ forThisStation (u (frm 14 31) wrong) (frm 14 31) = true ∧
      takenBy (kindCode wrong) (u (frm 14 31) wrong).start.role = true ∧
      contentOk (u (frm 14 31) wrong) 14 wrong = false) ∧
    (addressOk (frm 14 31) .reserve = true ∧
      forThisStation (u (frm 14 31) .reserve) (frm 14 31) = true ∧
      takenBy (kindCode .reserve) (u (frm 14 31) .reserve).start.role = true ∧
      contentOk (u (frm 14 31) .reserve) 14 .reserve = true) := by decide +kernel

theorem wit_DuplicateNumberSilences :
    let cell (r : Reservation) : State := cell14 fun c => { c with reservation := r }
    (receiving (station 5 .pack) = true ∧ addressOk (toAll 5) (.hold (holdOf 1 1 .inForce)) = true ∧
      (toAll 5).source = (station 5 .pack).start.number ∧ (station 5 .pack).isLive = true) ∧
    (receiving (silent .dupId 5 .pack) = true ∧ (silent .dupId 5 .pack).isLive = false) ∧
    (receiving (cell .none) = true ∧ (toAll 14).source = (cell .none).start.number ∧
      (cell .none).isLive = true ∧ addressOk (toAll 14) (.hold (holdOf 1 1 .inForce)) = true) ∧
    ((cell (.collecting 12 25 [] (some 1200))).isLive = true ∧
      (cell (.reserving 12 25 31 [] (some 1200))).isLive = true ∧
      (cell (.reserved 31 HandlerFit.none (some 9000))).isLive = true) := by
  refine ⟨?_, ?_, ?_, ?_⟩ <;> decide +kernel

/-- R25: a station that goes SILENT keeps its lot, and of its timers the peers' loss timers alone. -/
theorem test_silent_freezes :
    (after (.lotDone (toAll 14) (done 1 14)) (cell14 fun c => { c with
        outbox := [outboxRec 1], deliveryTimer := some 3000, permitTimer := some 3000,
        active := some caseLot })).cell.deliveryTimer = none ∧
      (after (.lotDone (toAll 14) (done 1 14)) (cell14 fun c => { c with
        outbox := [outboxRec 1], deliveryTimer := some 3000, permitTimer := some 3000,
        active := some caseLot })).cell.active = some caseLot := by decide +kernel

def beaconFrame : QFrame :=
  { addr := { type := .toAll, value := 0 }, payload := .beacon (beaconNow (station 5 .pack)) }

theorem wit_BeaconsArePostedAndReplaced :
    ((station 5 .pack).pins.inReset = false ∧ (station 5 .pack).peers.beaconTimer = some 2000) ∧
    ([] ++ beaconFrame :: [] = [beaconFrame] ∧ isBeacon beaconFrame.payload = true ∧
      (station 5 .pack).link.attempts = 0 ∧ (station 5 .pack).link.tx ≠ .sending ∧
      (station 5 .pack).link.tx ≠ .disturbing) ∧
    (∀ f ∈ (station 5 .pack).link.queue, isBeacon f.payload = false) ∧
    (let s := sending 1 .waiting
     let t : State := s.setLink { s.link with queue := s.link.queue ++ [beaconFrame, beaconFrame] }
     (s.link.queue.head?.isSome ∧ s.link.attempts ≠ 0 ∧
       ∀ f ∈ s.link.queue.drop 1, isBeacon f.payload = false) ∧
     t.link.attempts ≠ 0 ∧
      t.link.queue.drop 1 = s.link.queue.drop 1 ++ beaconFrame :: [beaconFrame]) ∧
    ((∀ b ∈ [BindState.none, .binding, .bound, .orphaned],
        (binding b false).start.role = .cell ∧ (binding b false).cell.binding.state = b) ∧
      (reserving (.reserved 31 fit31 none)).cell.reservation = .reserved 31 fit31 none ∧
      (∀ n f d, (reserving .none).cell.reservation ≠ .reserved n f d) ∧
      bound31.start.role = .handler ∧ (stageWith []).start.role = .stage ∧
      (packWith []).start.role = .pack) := by
  refine ⟨?_, ?_, ?_, ?_, ?_, ?_, nofun, ?_, ?_, ?_⟩ <;> decide +kernel

/-- R28: the role block of each role. -/
theorem test_beacon_blocks :
    let block (s : State) : BeaconBlock := (beaconNow s).block
    let held := withHolds [stored 70412 1 .inForce]
    block (cellWith (some caseLot) 3) = .cell 31 0 1 ∧
    block (reserving (.reserved 32 fit31 (some 9000))) = .cell 0 32 0 ∧
    block (stageWith [waitingEntry]) = .stage 1 0 ∧
    block (held (stageWith [waitingEntry])) = .stage 0 0 ∧
    (beaconNow (held (stageWith [waitingEntry]))).holdCount = 1 ∧
    block (packWith [packEntry [] .collecting, packEntry [] .released]) = .pack 31 := by
  refine ⟨?_, ?_, ?_, ?_, ?_, ?_⟩ <;> decide +kernel

/-- R13: a BEACON behind a head being sent goes to the tail when that head is the one BEACON, and takes the
place of a second one that waits. -/
theorem test_beacon_behind_the_head :
    let s (q : List QFrame) : State := (sending 0 .sending).setLink { (sending 0 .sending).link with queue := q }
    let b := beaconNow (station 9 .pack)
    let new : QFrame := { beaconFrame with payload := .beacon b }
    (postBeacon b (s [beaconFrame])).link.queue = [beaconFrame, new] ∧
      (postBeacon b (s [beaconFrame, beaconFrame])).link.queue = [beaconFrame, new] := by decide +kernel

def releaseRec : ReleaseRec :=
  { lotId := 70412, product := 5, count := 2, sumTested := 2000, sumGood := 1946, yield := 3985,
    gateWaived := false, hasAccepted := false, sequence := 1, code := 0 }

/-- A station with its first watch slots armed. -/
def watching (ws : List (Option (Scope × Nat))) (s : State) : State :=
  s.setPort { s.port with watches := ws ++ List.replicate (4 - ws.length) none }

theorem sizes_watching : SizesRight (watching [some (.lot, 70412)] (station 3 .stage)) :=
  ⟨by decide +kernel, rfl, by decide +kernel, by decide +kernel, (fun a h => nomatch h),
    by decide +kernel⟩

/-- STAGE 3 hears a RELEASE with slot 3 armed for its lot, slot 0 for its product, and none armed; the
frames of the table of R180 name their keys; a frame of each that is not for the station, one whose content
fails, and one delivered; and the station's own HOLD at its clean end. -/
theorem wit_FramesHitTheWatches :
    let s := station 3 .stage
    let armed (n : Nat) (w : Scope × Nat) : State :=
      s.setPort { s.port with watches := [none, none, none, none].set n (some w) }
    let own : State := (armed 2 (.lot, 500)).setLink { s.link with
      tx := .sending, line := .busy,
      queue := [{ addr := { type := .toAll, value := 0 }, payload := .hold (holdOf 500 1 .inForce) }] }
    let apart : State := s.setStart { s.start with config := { s.start.config with zoneMask := 1 } }
    let zone5 : Header := { addr := { type := .toZone, value := 5 }, source := 4, fresh := false }
    let hears (h : Header) (p : Payload) (u : State) : Prop :=
      u.pins.inReset = false ∧ receiving u = true ∧ addressOk h p = true ∧ h.source ≠ u.start.number ∧
      (peerAt u.peers h.source).presence = .present ∧ h.fresh = false
    (s.pins.inReset = false ∧ receiving s = true ∧ addressOk (toAll 2) (.release releaseRec) = true ∧
      (toAll 2).source ≠ s.start.number ∧ (peerAt s.peers 2).presence = .present ∧
      s.port.watches = [none, none, none, none]) ∧
    ((armed 3 (.lot, 70412)).port.watches = [none, none, none, none].set 3 (some (.lot, releaseRec.lotId)) ∧
      (armed 3 (.lot, 70412)).port.events.length < 32 ∧ receiving (armed 3 (.lot, 70412)) = true) ∧
    ((armed 0 (.product, 5)).port.watches =
        [none, none, none, none].set 0 (some (.product, releaseRec.product)) ∧
      (armed 0 (.product, 5)).port.events.length < 32) ∧
    ((.program, 9) ∈ watchKeys (.offer lot) ∧ (.product, 5) ∈ watchKeys (.lotDone (done 1 14)) ∧
      (.lot, 501) ∈ watchKeys (.holdList 2 0 2 [holdOf 500 1 .inForce, holdOf 501 1 .cleared])) ∧
    (hears (toAll 4) (.offer lot) s ∧ takenBy (kindCode (.offer lot)) s.start.role = false ∧
      hears zone5 (.offer lot) apart ∧ forThisStation apart zone5 = false) ∧
    (let bad : Payload := .hold { holdOf 500 1 .inForce with origin := 0 }
     hears (toAll 4) bad s ∧ forThisStation s (toAll 4) = true ∧
      takenBy (kindCode bad) s.start.role = true ∧ contentOk (offerWatches bad (heard (toAll 4) s)) 4 bad = false) ∧
    (let p : Payload := .holdList 3 0 1 [holdOf 500 1 .inForce]
     hears (frm 4 3) p s ∧ forThisStation s (frm 4 3) = true ∧
      takenBy (kindCode p) s.start.role = true ∧ contentOk (offerWatches p (heard (frm 4 3) s)) 4 p = true) ∧
    (own.pins.inReset = false ∧ own.link.tx = .sending ∧
      own.port.watches = [none, none, none, none].set 2 (some (.lot, 500)) ∧
      own.port.events.length < 32 ∧
      own.link.queue.map (fun f => watchKeys f.payload) = [[(.lot, 500)]]) := by
  refine ⟨?_, ?_, ?_, ?_, ?_, ?_, ?_, ?_⟩ <;> decide +kernel

/-- R180: the slots hit in their order; a station's own HOLD hits its watch at its clean end. -/
theorem test_watch_hits :
    (offerWatches (.offer lot) (watching [some (.program, 9), some (.lot, 1), some (.lot, 70412)]
      (station 3 .stage))).port.events.map (·.event) =
      [.watchHit 0 0x02 .program 9, .watchHit 2 0x02 .lot 70412] ∧
    (let s := watching [some (.lot, 500)] (sending 0 .sending)
     let held : QFrame :=
       { addr := { type := .toAll, value := 0 }, payload := .hold (holdOf 500 1 .inForce) }
     (after .frameSent (s.setLink { s.link with queue := [held] })).port.events.length = 1) := by
  decide +kernel

/-! ## Station start and the peer directory -/

/-- A part in START with the straps of a number. -/
def starting (n : Nat) : State := State.fullReset n .handler false false []

/-- An image with the signature and a check that fails: the memory drives two bytes. -/
def badImage : ImageRead :=
  { ackWrite := true, ackByte := true, ackRead := true, data := [0x4A#8, 0x16#8] }

/-- The check of the body of that image, piece by piece. -/
theorem badImage_check : (crc16 (imageBody badImage)).toNat = 0x974C := by
  have whole : imageBody badImage = [0x4A#8, 0x16#8] ++ List.replicate 45 0xFF#8 ++
      List.replicate 45 0xFF#8 ++ List.replicate 45 0xFF#8 ++ List.replicate 25 0xFF#8 ++
      List.replicate 28 0xFF#8 := by
    decide +kernel
  let roll (r : BitVec 16) (bs : List Byte) : BitVec 16 :=
    bs.foldl (fun r b => (byteBits b).foldl crc16Bit r) r
  have a : roll 0 ([0x4A#8, 0x16#8] ++ List.replicate 45 0xFF#8) = 0xEFE5#16 := by decide +kernel
  have b : roll 0xEFE5#16 (List.replicate 45 0xFF#8) = 0x3599#16 := by decide +kernel
  have c : roll 0x3599#16 (List.replicate 45 0xFF#8) = 0xCAF0#16 := by decide +kernel
  have d : roll 0xCAF0#16 (List.replicate 25 0xFF#8) = 0x7D3A#16 := by decide +kernel
  have e : roll 0x7D3A#16 (List.replicate 28 0xFF#8) = 0x974C#16 := by decide +kernel
  show (roll 0 (imageBody badImage)).toNat = _
  rw [whole]
  simp only [roll, List.foldl_append] at a b c d e ⊢
  rw [a, b, c, d, e]
  rfl

theorem badImage_outcome : imageOutcome badImage = .badCrc := by
  have ack : (badImage.ackWrite && badImage.ackByte && badImage.ackRead) = true := rfl
  have sig : imageWord badImage 0 = 0x4A16 := by decide +kernel
  have last : imageWord badImage 95 = 0xFFFF := by decide +kernel
  simp [imageOutcome, ack, sig, last, badImage_check]

/-- An image of the signature, the load-control word that takes every group, zeros in every other word,
and its check BF96. -/
def zeroImage : ImageRead :=
  { ackWrite := true, ackByte := true, ackRead := true,
    data := [0x4A#8, 0x16#8, 0x15#8, 0x55#8] ++ List.replicate 186 0#8 ++ [0xBF#8, 0x96#8] }

theorem zeroImage_check : (crc16 (imageBody zeroImage)).toNat = 0xBF96 := by
  have whole : imageBody zeroImage = [0x4A#8, 0x16#8, 0x15#8, 0x55#8] ++ List.replicate 41 0#8 ++
      List.replicate 45 0#8 ++ List.replicate 45 0#8 ++ List.replicate 25 0#8 ++
      List.replicate 30 0#8 := by
    decide +kernel
  let roll (r : BitVec 16) (bs : List Byte) : BitVec 16 :=
    bs.foldl (fun r b => (byteBits b).foldl crc16Bit r) r
  have a : roll 0 ([0x4A#8, 0x16#8, 0x15#8, 0x55#8] ++ List.replicate 41 0#8) = 28788#16 := by decide +kernel
  have b : roll 28788#16 (List.replicate 45 0#8) = 6828#16 := by decide +kernel
  have c : roll 6828#16 (List.replicate 45 0#8) = 218#16 := by decide +kernel
  have d : roll 218#16 (List.replicate 25 0#8) = 16362#16 := by decide +kernel
  have e : roll 16362#16 (List.replicate 30 0#8) = 0xBF96#16 := by decide +kernel
  show (roll 0 (imageBody zeroImage)).toNat = _
  rw [whole]
  simp only [roll, List.foldl_append] at a b c d e ⊢
  rw [a, b, c, d, e]
  rfl

/-- A LOADED image whose every value outside its range is taken at the range's end. -/
theorem zeroImage_outcome : imageOutcome zeroImage = .loaded := by
  have ack : (zeroImage.ackWrite && zeroImage.ackByte && zeroImage.ackRead) = true := rfl
  have sig : imageWord zeroImage 0 = 0x4A16 := by decide +kernel
  have last : imageWord zeroImage 95 = 0xBF96 := by decide +kernel
  simp [imageOutcome, ack, sig, last, zeroImage_check]

theorem wit_StartEndsByTheImageAndTheNumber :
    ((starting 31).pins.inReset = false ∧ (starting 31).start.station = .start ∧
      (starting 31).numberValid = true ∧ imageOutcome noImage ≠ .badCrc) ∧
    imageOutcome badImage = .badCrc ∧ imageOutcome zeroImage = .loaded ∧
    ((starting 41).start.station = .start ∧ (starting 41).numberValid = false) :=
  ⟨by decide +kernel, badImage_outcome, zeroImage_outcome, by decide +kernel⟩

theorem wit_LearningEndsInActive :
    let s := station 3 .stage
    let t : State := { s with start := { s.start with station := .learning, learning := some 6000 } }
    t.pins.inReset = false ∧ t.start.station = .learning ∧ t.start.learning = some 6000 ∧
      t.start.role = .stage := by decide +kernel

/-- HANDLER 31 with its JAM input active. -/
def jamming (s : State) : State := s.setPins { s.pins with jamIn := true }

theorem wit_RestartIsASoftRestart :
    ((station 5 .pack).pins.inReset = false ∧ (station 5 .pack).isLive = true) ∧
    ((silent .dupId 5 .pack).start.station = .silent ∧ (silent .dupId 5 .pack).start.cause = .dupId) ∧
    (starting 31).start.station = .start ∧
    ((silent .imageBad 5 .pack).start.station = .silent ∧
      (silent .imageBad 5 .pack).start.cause ≠ .dupId) ∧
    (let s := jamming (station 31 .handler)
     s.pins.inReset = false ∧ s.port.abandoned = false ∧ s.isLive = true ∧ s.start.role = .handler ∧
      s.pins.jamIn = true) := by
  refine ⟨?_, ?_, ?_, ?_, ?_⟩ <;> decide +kernel

theorem wit_HearingAPeer :
    let s := station 5 .pack
    let lost (f : Bool) : State := s.setPeers { s.peers with
      table := s.peers.table.set 39 { peer with presence := .lost, fresh := f } }
    (1 ≤ 40 ∧ 40 ≤ s.peers.table.length) ∧
    (peerAt (starting 31).peers 40).presence = .unknown ∧
    ((peerAt s.peers 40).presence = .present ∧ (peerAt s.peers 40).fresh = false) ∧
    (peerAt s.peers 40).presence ≠ .unknown ∧
    ((peerAt (lost true).peers 40).presence = .lost ∧ (peerAt (lost true).peers 40).fresh = true) := by
  decide +kernel

/-- The BEACON of HANDLER 31 in a state, for a cell. -/
def handlerBeacon (st : RelState) (c : Nat) : BeaconBody :=
  { state := .active, zones := 0, holdCount := 0, digest := 0,
    block := .handler st c 12 (-55) 150 4 15 }

theorem wit_BeaconsAreRecorded :
    let reserved : State := cell14 fun c => { c with reservation := .reserved 31 HandlerFit.none (some 9000) }
    Arrives (toAll 40) (.beacon (beaconNow (station 5 .pack))) (station 14 .cell) ∧
    (Arrives (toAll 40) (.beacon (handlerBeacon .free 0)) (binding .bound false) ∧
      (binding .bound false).cell.binding.handler ≠ 40) ∧
    (Arrives (toAll 31) (.beacon (handlerBeacon .bound 14)) (binding .binding true) ∧
      (binding .binding true).isActive = true ∧ (binding .binding true).start.role = .cell ∧
      (binding .binding true).cell.binding.handler = 31 ∧
      (binding .binding true).cell.binding.state = .binding ∧
      (binding .binding true).link.tx ≠ .off ∧ (binding .binding true).link.queue.length ≤ 14) ∧
    (Arrives (toAll 31) (.beacon (handlerBeacon .orphaned 14)) (binding .bound false) ∧
      (binding .bound false).cell.binding.state = .bound ∧
      (14 : Nat) = (binding .bound false).start.number ∧
      Arrives (toAll 31) (.beacon (handlerBeacon .free 0)) (binding .bound false) ∧
      Arrives (toAll 31) (.beacon (handlerBeacon .bound 15)) (binding .bound false)) ∧
    (Arrives (toAll 31) (.beacon (handlerBeacon .bound 14)) (binding .orphaned false) ∧
      (binding .orphaned false).cell.binding.state = .orphaned) ∧
    (Arrives (toAll 31) (.beacon (handlerBeacon .reserved 14)) reserved ∧
      reserved.cell.reservation = .reserved (toAll 31).source HandlerFit.none (some 9000)) := by
  refine ⟨?_, ?_, ?_, ?_, ?_, ?_⟩ <;> decide +kernel

theorem sizes_binding : SizesRight (binding .orphaned false) :=
  ⟨by decide +kernel, rfl, by decide +kernel, by decide +kernel, fun a h => by cases h; decide +kernel,
    by decide +kernel⟩

/-- R93: a bound handler heard FREE is bound again, with BIND-REQ of expected kit 0. -/
theorem test_rebind :
    ((after (.beacon (toAll 31) (handlerBeacon .free 0)) (binding .bound false)).cell.binding.state = .binding ∧
      (after (.beacon (toAll 31) (handlerBeacon .free 0)) (binding .bound false)).cell.binding.prev = .bound) ∧
    (after (.beacon (toAll 31) (handlerBeacon .free 0)) (binding .bound false)).link.queue.map
      (·.payload) = [.bindReq 0] := by decide +kernel

/-- A WAITING request to the peer that is lost; and a CELL whose search for a handler it concerns. -/
theorem wit_SilentPeersAreLost :
    let s := station 5 .pack
    let t : State := s.setHolds { s.holds with resync := { s.holds.resync with
      waiting := some { peer := 40, next := 0, total := none, timer := 9000 } } }
    let cell (r : Reservation) : Prop :=
      let u := reserving r
      u.pins.inReset = false ∧ u.isLive = true ∧ u.start.role = .cell ∧
      (u.cell.binding.state = .bound → u.cell.binding.handler ≠ 31) ∧
      (peerAt u.peers 31).presence = .present ∧ (peerAt u.peers 31).lossTimer = some 6000 ∧
      u.cell.reservation = r
    (t.pins.inReset = false ∧ (peerAt t.peers 40).presence = .present ∧
      (peerAt t.peers 40).lossTimer = some 6000 ∧ t.start.role = .pack ∧
      t.port.events.length < 32 ∧ (t.holds.resync.waiting.map ResyncWait.peer) = some 40) ∧
    (silent .dupId 5 .stage).isLive = false ∧
    cell .none ∧ cell (.collecting 12 125 [cand 31] (some 1200)) ∧
    cell (.reserving 12 125 32 [cand 31, cand 32] (some 2000)) ∧ 32 ≠ 31 ∧
    (cell (.reserving 12 125 31 [cand 31] (some 2000)) ∧ ∀ c ∈ [cand 31], c.handler = 31) ∧
    (cell (.reserving 12 125 31 [cand 31, cand 33] (some 2000)) ∧
      ([cand 31, cand 33].filter fun x => x.handler != 31) = cand 33 :: []) ∧
    cell (.reserved 31 fit31 (some 9000)) := by
  refine ⟨?_, ?_, ?_, ?_, ?_, ?_, ?_, ?_, ?_⟩ <;> decide +kernel

/-! ## Holds -/

theorem wit_GenerationsAreOrderedWithWrap :
    ((3 : Nat) < 65536 ∧ (65533 : Nat) < 65536) ∧
      ((32769 : Nat) < 65536 ∧ (1 : Nat) < 65536 ∧ ((32769 : Nat) - (1 : Nat) : Int) % 65536 = 32768) ∧
      (65534 : Nat) < 65535 ∧ (1 ≤ 65535 ∧ 65535 ≤ 65535) := by decide

theorem holdsRight_busy : HoldsRight busy := wit_Safe.2.1

/-- A merge, a clear and a placement under a key that has a record. -/
theorem wit_GenerationsNeverGoBack :
    (∀ x ∈ busy.holds.records, x.hold.generation < 65536) ∧
      findHold busy.holds .lot 500 = some (stored 500 1 .inForce) ∧
      (findHold (mergeHold (holdOf 500 2 .inForce) busy).1.holds .lot 500).isSome = true ∧
      (findHold (applyClear .lot 500 65535 .resume 3 busy).1.holds .lot 500).isSome = true ∧
      (findHold (placeCore .lot 501 .operator 0 0 busy).1.holds .lot 501).isSome = true := by
  decide +kernel

/-- A full list with two CLEARED records, the one of key 101 cleared first. -/
def clearedList : List StoredHold :=
  (fullList.set 0 { stored 100 1 .cleared with timeCleared := some 900 }).set 1
    { stored 101 1 .cleared with timeCleared := some 500 }

/-- In overflow with a list, and with 21 records in force. -/
def overflowing (rs : List StoredHold) : State :=
  let s := withHolds rs (station 5 .pack)
  s.setHolds { s.holds with overflow := true }

def flooded : State := overflowing (fullList.take 21)

/-- The record of the key cleared earliest. -/
def earliest : StoredHold := { stored 101 1 .cleared with timeCleared := some 500 }

/-- R144, R145: the record cleared first makes room, and overflow ends at 20 in force. -/
theorem test_eviction :
    ((mergeHold (holdOf 900 1 .inForce) (withHolds clearedList (station 5 .pack))).1.holds.records.map
      (·.hold.key)).contains 101 = false ∧
    (mergeHold (holdOf 100 1 .cleared) flooded).1.holds.overflow = false ∧
    (applyClear .lot 100 1 .resume 3 flooded).1.port.events.map (·.event) =
      [.holdCleared .lot 100 1 .resume, .holdOverflow false 20] := by
  refine ⟨?_, ?_, ?_⟩ <;> decide +kernel

/-- R143, R144: a tombstone takes the place of the record cleared first, and in a list of records in force
it enters overflow. -/
theorem test_tombstone_in_a_full_list :
    let s := station 5 .pack
    let t := (applyClear .lot 900 1 .resume 3 (withHolds clearedList s)).1
    ((findHold t.holds .lot 900).isSome ∧ findHold t.holds .lot 101 = none ∧
      t.holds.records.length = 24) ∧
    (applyClear .lot 900 1 .resume 3 (withHolds fullList s)).1.port.events.map (·.event) =
      [.holdOverflow true 24] := by
  refine ⟨?_, ?_⟩ <;> decide +kernel

theorem wit_HoldRecordsAreMerged :
    busy.port.events.length < 31 ∧
    (findHold busy.holds .lot 502 = none ∧ busy.holds.records.length < 24) ∧
    (let full := withHolds fullList busy
     findHold full.holds .lot 1 = none ∧ 24 ≤ full.holds.records.length ∧
      (∀ x ∈ full.holds.records, x.hold.state = .inForce) ∧ full.holds.overflow = false) ∧
    (findHold busy.holds .lot 500 = some (stored 500 1 .inForce) ∧ genNewer 2 1 = true) ∧
    (findHold busy.holds .lot 501 = some (stored 501 2 .cleared) ∧ genNewer 3 2 = true) ∧
    (genNewer 1 1 = false ∧
      ¬((1 : Nat) = 1 ∧ HoldState.inForce = .inForce ∧ (HoldState.inForce = .cleared ∨ 3 < 3))) ∧
    (let s := withHolds clearedList (station 5 .pack)
     let v := earliest
     v ∈ s.holds.records ∧ findHold s.holds .lot 900 = none ∧ 24 ≤ s.holds.records.length ∧
      v.hold.state = .cleared ∧
      ∀ x ∈ s.holds.records, x.hold.state = .cleared →
        s.age (x.timeCleared.getD 0) < s.age (v.timeCleared.getD 0) ∨
          s.age (x.timeCleared.getD 0) = s.age (v.timeCleared.getD 0) ∧
            (x = v ∨ keyBefore v x = true)) ∧
    (flooded.port.events.length < 31 ∧ flooded.holds.overflow = true ∧
      findHold flooded.holds .lot 100 = some (stored 100 1 .inForce) ∧
      inForceCount (mergeHold (holdOf 100 1 .cleared) flooded).1.holds.records = 20) := by
  refine ⟨?_, ?_, ?_, ?_, ?_, ?_, ?_, ?_⟩ <;> decide +kernel

theorem digest_withHolds (rs : List StoredHold) (s : State) :
    (withHolds rs s).holds.digest = digestOf (withHolds rs s).holds.records := rfl

theorem digest_overflowing (rs : List StoredHold) :
    (overflowing rs).holds.digest = digestOf (overflowing rs).holds.records := rfl

theorem holdsRight_cleared : HoldsRight (withHolds clearedList (station 5 .pack)) :=
  ⟨by decide +kernel, by decide +kernel, digest_withHolds _ _⟩

theorem holdsRight_flooded : HoldsRight flooded :=
  ⟨by decide +kernel, by decide +kernel, digest_overflowing _⟩

theorem wit_ClearsHaveFourOutcomes :
    (findHold busy.holds .lot 502 = none ∧ busy.holds.records.length < 24) ∧
    (findHold busy.holds .lot 500 = some (stored 500 1 .inForce) ∧ genNewer 1 1 = false ∧
      busy.port.events.length < 31) ∧
    (findHold flooded.holds .lot 120 = some (stored 120 1 .inForce) ∧ flooded.holds.overflow = true ∧
      flooded.port.events.length < 31) ∧
    (findHold busy.holds .lot 501 = some (stored 501 2 .cleared) ∧ (2 : Nat) ≠ 3 ∧
      genNewer 2 3 = false) ∧
    (genNewer 2 1 = true ∧ (stored 501 2 .cleared).hold.generation = 2) ∧
    (let s := withHolds clearedList (station 5 .pack)
     earliest ∈ s.holds.records ∧ findHold s.holds .lot 900 = none ∧ 24 ≤ s.holds.records.length ∧
      earliest.hold.state = .cleared ∧
      ∀ x ∈ s.holds.records, x.hold.state = .cleared →
        s.age (x.timeCleared.getD 0) < s.age (earliest.timeCleared.getD 0) ∨
          s.age (x.timeCleared.getD 0) = s.age (earliest.timeCleared.getD 0) ∧
            (x = earliest ∨ keyBefore earliest x = true)) ∧
    (∀ s ∈ [withHolds fullList busy, overflowing fullList],
      findHold s.holds .lot 1 = none ∧ 24 ≤ s.holds.records.length ∧
      (∀ x ∈ s.holds.records, x.hold.state = .inForce) ∧ s.port.events.length < 32) ∧
    ((withHolds fullList busy).holds.overflow = false ∧ (overflowing fullList).holds.overflow = true) := by
  refine ⟨?_, ?_, ?_, ?_, ?_, ?_, ?_, ?_⟩ <;> decide +kernel

theorem wit_HoldAndClearFramesAreTaken :
    Arrives (toAll 3) (.hold (holdOf 502 1 .inForce)) busy ∧
    (Arrives (toAll 3) (.clear .lot 500 1 .retest 3) busy ∧
      clearOutcome busy.holds .lot 500 1 = .applied) ∧
    (Arrives (toAll 3) (.clear .lot 501 2 .resume 3) busy ∧
      clearOutcome busy.holds .lot 501 2 = .stale) ∧
    (Arrives (toAll 3) (.clear .lot 70412 1 .scrap 3) busy ∧
      clearOutcome busy.holds .lot 70412 1 = .tombstone ∧
      Arrives (toAll 3) (.clear .lot 1 1 .resume 3) (withHolds fullList busy) ∧
      clearOutcome (withHolds fullList busy).holds .lot 1 1 = .tombstone) ∧
    (Arrives (toAll 3) (.clear .lot 501 3 .resume 3) busy ∧
      clearOutcome busy.holds .lot 501 3 = .advanced) := by
  refine ⟨?_, ?_, ?_, ?_, ?_⟩ <;> decide +kernel

theorem wit_HoldListRequestsAreAnswered :
    (let s := withHolds [stored 500 1 .inForce] (silent .dupId 14 .cell)
     Arrives (frm 3 14) (.holdListReq 0) s ∧ s.start.station = .silent) ∧
    (Arrives (frm 3 14) (.holdListReq 2) busy ∧ busy.isLive = true ∧ busy.holds.records.length ≤ 24 ∧
      busy.holds.records.length ≤ 2) ∧
    (Arrives (frm 3 14) (.holdListReq 23) (withHolds fullList busy) ∧
      (withHolds fullList busy).isLive = true ∧ 23 < (withHolds fullList busy).holds.records.length ∧
      (withHolds fullList busy).holds.records.length ≤ 24) := by decide +kernel

/-- A station WAITING for an answer of peer 3. -/
def asking : State :=
  busy.setHolds { busy.holds with resync :=
    { waiting := some { peer := 3, next := 0, total := some 3, timer := 2500 }, continuation := none,
      lastRequest := some 500, spacing := none } }

/-- A station whose peers 3 and 7 show another list in a BEACON heard since they were last LOST. -/
def mismatched (r : Resync) : State :=
  let odd : PeerEntry := { peer with
    beacon := some { state := .active, zones := 0, holdCount := 1, digest := 9, block := .pack 0 },
    beaconSince := true }
  let s := station 5 .pack
  (s.setPeers { s.peers with table := (s.peers.table.set 2 odd).set 6 odd }).setHolds
    { s.holds with resync := r }

/-- R150, R153: the request goes to the continuation while its peer mismatches, else to the lowest; none
goes to a peer that is back and whose BEACON has not been heard since. -/
theorem test_resync_target :
    let idle : Resync := { waiting := none, continuation := none, lastRequest := none, spacing := none }
    let s := mismatched { idle with continuation := some (7, 6) }
    let back : State := (mismatched idle).setPeers
      { (mismatched idle).peers with
        table := (mismatched idle).peers.table.map (fun e => { e with beaconSince := false }) }
    (resyncTest s).link.queue.map (fun f => (f.addr.value, f.payload)) = [(7, .holdListReq 6)] ∧
    (resyncTest (mismatched idle)).link.queue.map (fun f => (f.addr.value, f.payload)) =
      [(3, .holdListReq 0)] ∧
    (resyncTest back).link.queue = [] := by decide +kernel

theorem wit_HoldListsAreMergedAndResyncMoves :
    Arrives (frm 3 14) (.holdList 3 0 1 [holdOf 502 1 .inForce]) busy ∧
    ((asking.holds.resync.waiting.map ResyncWait.peer) = some 3 ∧ 3 ≤ 0 + 3 ∧ 0 + 1 < 3) ∧
    (∀ w, busy.holds.resync.waiting = some w → w.peer ≠ 3) ∧
    (Arrives (frm 3 14) (.holdListNone 0 0) asking ∧
      (asking.holds.resync.waiting.map ResyncWait.peer) = some (frm 3 14).source) ∧
    asking.pins.inReset = false ∧
    (let t : State := busy.setHolds { busy.holds with
        resync := { busy.holds.resync with spacing := some 3000 } }
     t.pins.inReset = false ∧ t.holds.resync.spacing = some 3000) ∧
    (let idle : Resync := { waiting := none, continuation := none, lastRequest := none, spacing := none }
     let bad (s : State) (n : Nat) : Bool := (peerAt s.peers n).presence == .present &&
      (peerAt s.peers n).beaconSince && ((peerAt s.peers n).beacon.map fun b => b.holdCount) == some 1 &&
      s.holds.records.length == 0
     let s := mismatched { idle with lastRequest := some 0 }
     s.isLive = true ∧ s.holds.resync.waiting = none ∧ ¬s.start.config.beaconInterval * 1000 ≤ s.age 0 ∧
      (mismatched idle).holds.resync.lastRequest = none ∧ bad (mismatched idle) 3 = true ∧
      (∀ m, m < 3 → bad (mismatched idle) m = false) ∧
      (mismatched { idle with continuation := some (7, 6) }).holds.resync.continuation = some (7, 6) ∧
      bad (mismatched { idle with continuation := some (7, 6) }) 7 = true ∧
      bad (mismatched { idle with continuation := some (8, 6) }) 8 = false) ∧
    (let idle : Resync := { waiting := none, continuation := none, lastRequest := none, spacing := none }
     let late := mismatched { idle with lastRequest := some 500 }
     let past : State := late.setNow 9000
     (silent .badNumber 5 .pack).isLive = false ∧ asking.holds.resync.waiting ≠ none ∧
      late.isLive = true ∧ late.holds.resync.waiting = none ∧
      (peerAt late.peers 3).presence = .present ∧ (peerAt late.peers 3).beaconSince = true ∧
      ((peerAt late.peers 3).beacon.map fun b => b.holdCount) = some 1 ∧
      late.holds.records.length = 0 ∧ late.holds.resync.lastRequest = some 500 ∧
      late.age 500 < late.start.config.beaconInterval * 1000 ∧
      past.start.config.beaconInterval * 1000 ≤ past.age 500) := by
  refine ⟨by decide +kernel, by decide +kernel, nofun, by decide +kernel, rfl, ⟨rfl, rfl⟩,
    by decide +kernel, by decide +kernel⟩

/-- R150: an event that ends with a mismatching peer and the spacing not passed starts the spacing timer at
what is left of it; one with no mismatching peer, or an answer awaited, ends it. -/
theorem test_spacing :
    let idle : Resync := { waiting := none, continuation := none, lastRequest := some 500, spacing := none }
    let timer (s : State) : Option Nat := (settle s s).holds.resync.spacing
    let counting (s : State) : State :=
      s.setHolds { s.holds with resync := { s.holds.resync with spacing := some 2500 } }
    [timer (mismatched idle), timer (counting (station 5 .pack)), timer (counting asking),
      timer (mismatched { idle with lastRequest := none })] = [some 2500, none, none, none] := by
  decide +kernel

/-- A station still in LEARNING. -/
theorem wit_PlaceHoldPlacesOrFindsAHold :
    (PortTakes (.placeHold .group 31 4294967295) busy ∧ findHold busy.holds .group 31 = none ∧
      busy.holds.records.length < 24 ∧ busy.port.events.length < 32 ∧ busy.isActive = true ∧
      busy.link.tx ≠ .off ∧ busy.link.queue.length < 16) ∧
    (PortTakes (.placeHold .lot 501 0) busy ∧
      findHold busy.holds .lot 501 = some (stored 501 2 .cleared)) ∧
    (PortTakes (.placeHold .lot 500 0) busy ∧
      findHold busy.holds .lot 500 = some (stored 500 1 .inForce)) ∧
    (let full := withHolds fullList busy
     PortTakes (.placeHold .lot 1 0) full ∧ findHold full.holds .lot 1 = none ∧
      24 ≤ full.holds.records.length ∧ (∀ x ∈ full.holds.records, x.hold.state = .inForce) ∧
      full.port.events.length < 31 ∧ full.isActive = true ∧ full.link.tx ≠ .off ∧
      full.link.queue.length < 16 ∧ full.holds.overflow = false) ∧
    (let s := withHolds clearedList (station 5 .pack)
     PortTakes (.placeHold .lot 900 0) s ∧ findHold s.holds .lot 900 = none ∧
      24 ≤ s.holds.records.length ∧ earliest ∈ s.holds.records ∧ earliest.hold.state = .cleared ∧
      ∀ x ∈ s.holds.records, x.hold.state = .cleared →
        s.age (x.timeCleared.getD 0) < s.age (earliest.timeCleared.getD 0) ∨
          s.age (x.timeCleared.getD 0) = s.age (earliest.timeCleared.getD 0) ∧
            (x = earliest ∨ keyBefore earliest x = true)) ∧
    (PortTakes (.placeHold .lot 500 0) (silent .badNumber 5 .pack) ∧
      findHold (silent .badNumber 5 .pack).holds .lot 500 = none ∧
      PortTakes (.placeHold .lot 500 0) (learning (station 5 .pack)) ∧
      (learning (station 5 .pack)).start.station = .learning) ∧
    (let s := withHolds [stored 70412 1 .inForce] busy
     PortTakes (.placeHold .lot 70412 0) s ∧
      findHold s.holds .lot 70412 = some (stored 70412 1 .inForce) ∧ s.isLive = true ∧
      s.start.role = .cell ∧ (s.cell.active.map fun a => (a.lot.lotId, a.phase)) =
        some (70412, .inPass)) ∧
    (busy.cell.active.map (·.lot.lotId)) = some 70412 := by
  refine ⟨?_, ?_, ?_, ?_, ?_, ?_, ?_, ?_⟩ <;> decide +kernel

/-- R140, R141: a key already in force is answered ALREADY with no event, no frame and no change of the list,
and gives the matching active lot the reason OPERATOR. -/
theorem test_already :
    let s := withHolds [stored 70412 7 .inForce] busy
    let t := after (.placeHold .lot 70412 0) s
    t.port.previous.answer = .already 7 ∧ t.port.events = s.port.events ∧ t.holds.records = s.holds.records ∧
      (t.cell.active.map fun a => a.reasons &&& reasonBit .operator) = some (reasonBit .operator) ∧
      ∀ f ∈ t.link.queue, kindCode f.payload ≠ 0x0B := by
  refine ⟨?_, ?_, ?_, ?_, ?_⟩ <;> decide +kernel

/-- R140: a hold placed in LEARNING or SILENT is stored and sent to nobody. -/
theorem test_quiet_placement :
    ∀ s ∈ [learning (station 5 .pack), silent .badNumber 5 .pack],
      (findHold (after (.placeHold .lot 500 0) s).holds .lot 500).isSome ∧
      (after (.placeHold .lot 500 0) s).link.queue = [] := by decide +kernel

/-- R140, log entry 25: the events of a placement that a full list cannot store, and its HOLD. -/
theorem test_full_list :
    let s := station 5 .pack
    let t := after (.placeHold .lot 1 0) (s.setHolds { s.holds with records := fullList })
    t.port.events.map (·.event) = [.holdPlaced .lot 1 1 5, .holdOverflow true 24] ∧
      t.link.queue.map (·.payload) = [.hold { holdOf 1 1 .inForce with origin := 5 }] := by
  decide +kernel

theorem wit_DispositionsClearHolds :
    (PortTakes (.disposition .lot 502 1 .resume) busy ∧ findHold busy.holds .lot 502 = none) ∧
    (PortTakes (.disposition .lot 500 2 .resume) busy ∧
      findHold busy.holds .lot 500 = some (stored 500 1 .inForce) ∧ (1 : Nat) ≠ 2) ∧
    (let s := withHolds [{ hold := { holdOf 5 1 .inForce with scope := .product }, timeCleared := none }]
        busy
     PortTakes (.disposition .product 5 1 .scrap) s ∧
      (findHold s.holds .product 5).map (·.hold.generation) = some 1) ∧
    (let s := withHolds [stored 500 1 .inForce] (station 3 .stage)
     PortTakes (.disposition .lot 500 1 .retest) s ∧ s.start.role ≠ .cell) ∧
    (PortTakes (.disposition .lot 500 1 .retest) busy ∧
      (busy.cell.active.map (·.lot.lotId)) = some 70412 ∧
      (let s := withHolds [stored 500 1 .inForce] (station 14 .cell)
       PortTakes (.disposition .lot 500 1 .retest) s ∧ s.cell.active = none)) ∧
    (PortTakes (.disposition .lot 500 1 .scrap) busy ∧ busy.start.role ≠ .pack ∧
      busy.link.tx ≠ .off ∧ busy.link.queue.length < 16) ∧
    (let s := withHolds [stored 70412 1 .inForce] busy
     PortTakes (.disposition .lot 70412 1 .retest) s ∧ s.start.role = .cell ∧
      (s.cell.active.map (·.lot.lotId)) = some 70412) ∧
    (let s := withHolds [stored 500 1 .inForce] (packWith [])
     PortTakes (.disposition .lot 500 1 .resume) s ∧ s.start.role = .pack ∧ s.pack.entries = []) ∧
    (let active (p : Phase) : State := cellWith (some { caseLot with phase := p }) 3
     (active .inPass).isLive = true ∧ (active .inPass).start.role = .cell ∧
      (active .finished).cell.active = some { caseLot with phase := .finished } ∧
      (active .awaiting).cell.active = some { caseLot with phase := .awaiting } ∧
      (active .inPass).cell.active = some caseLot ∧ caseLot.lot.lotId = 70412 ∧
      keyMatches (queryOf caseLot.lot) .lot 70412 = true ∧
      lotMatched (active .inPass).holds (queryOf caseLot.lot) = false ∧
      keyMatches (queryOf caseLot.lot) .lot 70413 = false) := by
  refine ⟨?_, ?_, ?_, ?_, ?_, ?_, ?_, ?_, ?_⟩ <;> decide +kernel

/-- R135 (log entry 49): a RESUME of the lot's own key that removes no record suppresses no check in IN_PASS,
and a RETEST gives the pass allowance alone. -/
theorem test_handoff_without_a_record :
    let s := cellWith (some { caseLot with reasons := reasonBit .siteDelta }) 3
    let cleared (d : Disposition) : Option (Mask16 × Nat) :=
      (after (.clear (toAll 2) .lot 70412 1 d 2) s).cell.active.map fun a => (a.suppressed, a.allowance)
    [cleared .resume, cleared .retest] =
      [some (caseLot.suppressed, caseLot.allowance), some (caseLot.suppressed, caseLot.allowance + 1)] := by
  decide +kernel

/-- R134, R135: the dispositions of a lot in AWAITING_DISPOSITION, and a RESUME in a pass. -/
theorem test_dispositions :
    let active (p : Phase) : State :=
      cellWith (some { caseLot with phase := p, reasons := reasonBit .siteDelta ||| reasonBit .operator }) 3
    (handoff .lot 70412 .resume true (active .awaiting)).cell.outbox.map (·.record.result) = [.accepted] ∧
    (handoff .lot 70412 .scrap true (active .awaiting)).cell.outbox.map (·.record.result) = [.scrapped] ∧
    (handoff .lot 70412 .retest true (active .awaiting)).cell.active.map (fun a => (a.pass, a.allowance)) =
      some (2, 2) ∧
    (handoff .program 9 .resume true (active .inPass)).cell.active.map (·.suppressed) =
      some (reasonBit .siteDelta) := by
  refine ⟨?_, ?_, ?_, ?_⟩ <;> decide +kernel

theorem sizes_cell : SizesRight (station 14 .cell) :=
  ⟨by decide +kernel, rfl, by decide +kernel, by decide +kernel, (fun a h => nomatch h),
    by decide +kernel⟩

theorem sizes_pack : SizesRight (station 5 .pack) :=
  ⟨by decide +kernel, rfl, by decide +kernel, by decide +kernel, (fun a h => nomatch h),
    by decide +kernel⟩

/-! ## The staging table -/

/-- Sixty-four waiting entries: a full table. -/
def fullStage : State :=
  stageWith ((List.range 64).map fun i => { waitingEntry with lot := { lot with lotId := i + 100 } })

/-- One entry in a state. -/
def entryIn (st : EntryState) : State := stageWith [{ waitingEntry with state := st }]

theorem wit_RackCommandsMoveEntries :
    let s := entryIn .waiting
    (s.pins.inReset = false ∧ s.start.role = .stage ∧ s.isLive = true ∧ lotRecordOk lot = true ∧
      (findEntry s lot.lotId lot.index).isSome = true) ∧
    (fullStage.isLive = true ∧ findEntry fullStage lot.lotId lot.index = none ∧
      64 ≤ fullStage.stage.entries.length) ∧
    (findEntry (stageWith []) lot.lotId lot.index = none ∧ (stageWith []).stage.entries.length < 64) ∧
    (lotOk 70412 1 = true ∧ findEntry (stageWith []) 70412 1 = none) ∧
    ((findEntry (entryIn (.issued 14)) 70412 1).map (·.state) = some (.issued 14)) ∧
    ((findEntry (entryIn .waiting) 70412 1).map (·.state) = some .waiting) ∧
    ((findEntry (entryIn .contest) 70412 1).map (·.state) = some .contest) ∧
    ((findEntry (entryIn (.granted 14 200)) 70412 1).map (·.state) = some (.granted 14 200)) ∧
    ((findEntry (entryIn (.claimed 14)) 70412 1).map (·.state) = some (.claimed 14)) := by
  refine ⟨?_, ?_, ?_, ?_, ?_, ?_, ?_, ?_, ?_⟩ <;> decide +kernel

theorem wit_LotIssuedTakesAClaimedEntry :
    (PortTakes (.lotIssued 70412 1 14) (stageWith []) ∧ findEntry (stageWith []) 70412 1 = none) ∧
    (PortTakes (.lotIssued 70412 1 14) (entryIn (.claimed 14)) ∧
      (findEntry (entryIn (.claimed 14)) 70412 1).map (·.state) = some (.claimed 14)) ∧
    (PortTakes (.lotIssued 70412 1 40) (entryIn (.claimed 14)) ∧ (14 : Nat) ≠ 40) ∧
    (PortTakes (.lotIssued 70412 1 14) (entryIn .waiting) ∧
      (findEntry (entryIn .waiting) 70412 1).map (·.state) = some .waiting) := by
  refine ⟨?_, ?_, ?_, ?_⟩ <;> decide +kernel

/-- A claim, an entry in CONTEST or GRANTED to CELL 14 with claims, and STAGE 3 holding the lot. -/
def claimOf (cell score : Nat) : Claim := { cell := cell, score := score, owned := false }

def contestOf (cs : List Claim) : StageEntry :=
  { waitingEntry with state := .contest, window := some 1200, claims := cs }

def grantedTo (cs : List Claim) : StageEntry :=
  { waitingEntry with state := .granted 14 200, accept := some 1500, claims := cs, excluded := [5, 6, 7, 8] }

def stageHolding (e : StageEntry) : State := withHolds [stored 70412 1 .inForce] (stageWith [e])

/-- The lot's one entry, and its claim from CELL 14. -/
abbrev only (e : StageEntry) : Prop :=
  ((stageWith [e]).stage.entries.filter fun x => isLot x.lot 70412 1) = [e]

def claims (o : Bool) (sc : Nat) (s : State) : Bool :=
  (findEntry s 70412 1).isSome && s.isActive && decide (Arrives (frm 14 3) (.claim 70412 1 sc o) s)

/-- R46, R47, R50: a ninth claim takes the place of the lowest; an owned claim takes a GRANTED entry; a
declined grant goes to the next claim, and a fifth excluded cell takes the place of the first. -/
theorem test_contests :
    (after (.claim (frm 14 3) 70412 1 5 false)
      (stageWith [contestOf ((List.range 8).map fun i => claimOf (i + 20) 1)])).stage.entries.map
        (fun e => e.claims.map (·.cell)) = [[20, 21, 22, 23, 24, 25, 26, 14]] ∧
    (after (.claim (frm 14 3) 70412 1 9 true) (stageWith [grantedTo []])).stage.entries.map (·.state) =
      [.claimed 14] ∧
    (after (.accept (frm 14 3) 70412 1 .decline 200)
      (stageWith [grantedTo [claimOf 16 9, claimOf 15 9]])).stage.entries.map
        (fun e => (e.state, e.excluded)) = [(.granted 15 9, [6, 7, 8, 14])] := by
  refine ⟨?_, ?_, ?_⟩ <;> decide +kernel

theorem wit_StagingFramesMoveEntries :
    let contest := contestOf ((List.range 7).map fun i => claimOf (i + 20) 1)
    let fullContest := contestOf ((List.range 8).map fun i => claimOf (i + 20) 1)
    let shut : StageEntry := { waitingEntry with excluded := [14] }
    (findEntry (entryIn .waiting) 70412 1 = some waitingEntry ∧ claims false 255 (entryIn .waiting) ∧
      waitingEntry.excluded.contains 14 = false ∧ entryHeld (entryIn .waiting) waitingEntry = false) ∧
    (findEntry (stageWith [contest]) 70412 1 = some contest ∧ contest.state = .contest ∧
      contest.claims.length < 8 ∧ (∀ c ∈ contest.claims, c.cell ≠ 14) ∧ only contest ∧
      claims false 0 (stageWith [contest])) ∧
    (only (contestOf [claimOf 14 1]) ∧ (∃ c ∈ (contestOf [claimOf 14 1]).claims, c.cell = 14) ∧
      claims false 3 (stageWith [contestOf [claimOf 14 1]])) ∧
    (only fullContest ∧ 8 ≤ fullContest.claims.length ∧ (∀ c ∈ fullContest.claims, c.cell ≠ 14) ∧
      claimOf 27 1 ∈ fullContest.claims ∧
      ∀ x ∈ fullContest.claims, x = claimOf 27 1 ∨ (claimOf 27 1).score < x.score ∨
        (claimOf 27 1).score = x.score ∧ x.cell < (claimOf 27 1).cell) ∧
    (claims false 1 (stageWith [shut]) ∧ shut.excluded.contains 14 = true ∧
      claims false 1 (stageHolding waitingEntry) ∧
      entryHeld (stageHolding waitingEntry) waitingEntry = true ∧ claims false 1 (entryIn (.granted 15 9)) ∧
      claims false 1 (entryIn (.claimed 14)) ∧ claims false 1 (entryIn (.issued 15))) ∧
    (claims true 255 (stageHolding waitingEntry) ∧ claims true 254 (stageHolding waitingEntry) ∧
      claims true 0 (entryIn .contest) ∧ claims true 255 (entryIn (.granted 14 200)) ∧
      claims true 3 (entryIn (.claimed 14)) ∧ claims true 3 (entryIn (.issued 14)) ∧
      claims true 3 (entryIn (.granted 15 9)) ∧ (15 : Nat) ≠ 14) ∧
    (Arrives (frm 14 3) (.accept 70412 1 .take 200) (entryIn (.granted 14 200)) ∧
      (findEntry (entryIn (.granted 14 200)) 70412 1).map (·.state) = some (.granted 14 200)) ∧
    (Arrives (frm 14 3) (.accept 70412 1 .decline 200) (stageWith [grantedTo []]) ∧
      only (grantedTo []) ∧ (grantedTo []).claims = [] ∧ only (grantedTo [claimOf 16 9, claimOf 15 9]) ∧
      claimOf 15 9 ∈ (grantedTo [claimOf 16 9, claimOf 15 9]).claims ∧
      ∀ x ∈ [claimOf 16 9, claimOf 15 9],
        x = claimOf 15 9 ∨ x.score < 9 ∨ x.score = 9 ∧ 15 < x.cell) ∧
    (Arrives (frm 14 3) (.accept 70412 1 .take 199) (entryIn (.granted 14 200)) ∧ (200 : Nat) ≠ 199 ∧
      Arrives (frm 14 3) (.accept 70412 1 .take 9) (entryIn (.claimed 15)) ∧
      Arrives (frm 14 3) (.accept 70412 1 .take 9) (stageHolding waitingEntry)) ∧
    (Arrives (frm 14 3) (.return_ 70412 1 .held) (entryIn (.claimed 14)) ∧
      (findEntry (entryIn (.claimed 14)) 70412 1).map (·.state) = some (.claimed 14) ∧
      Arrives (frm 14 3) (.return_ 70412 1 .operator) (stageWith [grantedTo []]) ∧
      Arrives (frm 14 3) (.return_ 70412 1 .operator) (entryIn (.issued 14)) ∧
      waitingEntry.returnPending = false ∧
      Arrives (frm 14 3) (.return_ 70412 1 .operator)
        (stageWith [{ waitingEntry with state := .issued 14, returnPending := true }]) ∧
      Arrives (frm 14 3) (.return_ 70412 1 .operator) (entryIn .waiting)) ∧
    (Arrives (toAll 14) (.lotDone (done 1 14)) (entryIn (.issued 14)) ∧
      (done 1 14).lotId = 70412 ∧ (done 1 14).index = 1 ∧ (entryIn (.issued 14)).start.role = .stage ∧
      (findEntry (entryIn (.issued 14)) 70412 1).map (·.state) = some (.issued (done 1 14).cell) ∧
      Arrives (toAll 14) (.lotDone (done 1 14)) (entryIn (.issued 15))) ∧
    (findEntry (stageWith []) 70412 1 = none ∧ (stageWith []).isActive = true ∧
      Arrives (frm 14 3) (.claim 70412 1 1 true) (stageWith []) ∧
      Arrives (frm 14 3) (.accept 70412 1 .take 1) (stageWith []) ∧
      Arrives (frm 14 3) (.return_ 70412 1 .held) (stageWith []) ∧
      Arrives (toAll 14) (.lotDone (done 1 14)) (stageWith [])) ∧
    (let s := learning (entryIn .contest)
     s.isActive = false ∧ Arrives (frm 14 3) (.claim 70412 1 9 false) s ∧
      Arrives (frm 14 3) (.accept 70412 1 .take 9) s ∧ Arrives (frm 14 3) (.return_ 70412 1 .held) s) := by
  refine ⟨?_, ?_, ?_, ?_, ?_, ?_, ?_, ?_, ?_, ?_, ?_, ?_, ?_⟩ <;>
    first
    | decide +kernel
    | refine ⟨by decide +kernel, by decide +kernel, by decide +kernel, ?_⟩; decide +kernel

/-- R41, R54: a hold on a CLAIMED lot revokes it; the cell of a grant that is lost is excluded, and a
claimed lot survives the loss of its cell but not its restart. -/
theorem test_stage_notices :
    (notice [] (stageHolding { waitingEntry with state := .claimed 14 })).stage.entries.map (·.state) =
      [.waiting] ∧
    (roleLost 14 (stageWith [grantedTo []])).stage.entries.map (fun e => (e.state, e.excluded)) =
      [(.waiting, [6, 7, 8, 14])] ∧
    (roleLost 14 (entryIn (.claimed 14))).stage.entries.map (·.state) = [.claimed 14] ∧
    (roleRestart 14 (entryIn (.claimed 14))).stage.entries.map (·.state) = [.waiting] := by
  refine ⟨?_, ?_, ?_, ?_⟩ <;> decide +kernel

/-- R43: the highest priority first, then the earliest arrival, then the earlier place; at most eight. -/
theorem test_offer_order :
    let e (id priority arrived : Nat) : StageEntry :=
      { waitingEntry with lot := { lot with lotId := id, priority := priority }, arrived := arrived }
    (offers (stageWith [e 1 5 300, e 2 9 400, e 3 5 200, e 4 9 400])).map (·.lot.lotId) = [2, 4, 3, 1] ∧
    (offers fullStage).map (·.lot.lotId) = [100, 101, 102, 103, 104, 105, 106, 107] := by
  refine ⟨?_, ?_⟩ <;> decide +kernel

theorem wit_StagingTimersGrantAndOffer :
    let c := claimOf 14 200
    let contest := contestOf [claimOf 15 200, c]
    let empty := contestOf []
    let granted := grantedTo []
    let cascade := grantedTo [claimOf 15 9]
    let offering (z : Nat) : State :=
      let s := (entryIn .waiting).setStage { (entryIn .waiting).stage with offerTimer := some 1075 }
      s.setStart { s.start with config := { s.start.config with offerZone := z } }
    ((stageWith [contest]).pins.inReset = false ∧ only contest ∧
      contest.window = some 1200 ∧ c ∈ contest.claims ∧
      (∀ x ∈ contest.claims, x = c ∨ x.score < c.score ∨ x.score = c.score ∧ c.cell < x.cell)) ∧
    (only granted ∧ granted.accept = some 1500 ∧ granted.claims = []) ∧
    (∀ z ∈ [0, 15], (offering z).pins.inReset = false ∧ (offering z).stage.offerTimer = some 1075 ∧
      (offering z).start.config.offerZone = z ∧ (offering z).link.tx ≠ .off ∧
      (offering z).link.queue.length ≤ 8) ∧
    (let s : State := fullStage.setStage { fullStage.stage with offerTimer := some 1075 }
     s.pins.inReset = false ∧ s.stage.offerTimer = some 1075 ∧ s.link.tx ≠ .off ∧
      s.link.queue.length ≤ 8) ∧
    (only empty ∧ empty.state = .contest ∧ empty.window = some 1200 ∧ empty.claims = []) ∧
    (only cascade ∧ cascade.state = .granted 14 200 ∧ cascade.accept = some 1500 ∧
      claimOf 15 9 ∈ cascade.claims ∧
      ∀ x ∈ cascade.claims, x = claimOf 15 9 ∨ x.score < 9 ∨ x.score = 9 ∧ 15 < x.cell) ∧
    ((stageWith [contest]).start.role = .stage ∧ (stageWith [contest]).isLive = true ∧
      contest.lot.lotId = 70412 ∧ contest.lot.index = 1 ∧
      entryHeld (stageWith [contest]) contest = false ∧ entryHeld (stageHolding contest) contest = true ∧
      entryHeld (stageHolding granted) granted = true ∧
      entryHeld (stageHolding waitingEntry) waitingEntry = true ∧
      (stageHolding granted).stage.entries = [granted]) ∧
    ((entryIn .waiting).start.role = .stage ∧ (entryIn .waiting).isLive = true ∧
      (silent .dupId 3 .stage).isLive = false ∧ Scope.product ≠ .lot) := by
  refine ⟨?_, ?_, ?_, ?_, ?_, ?_, ?_, ?_⟩ <;> decide +kernel

/-- R53: a CLEAR with SCRAP deletes the lot's entries, and the cells of the GRANTED and CLAIMED ones are
revoked. -/
theorem test_scrapped_entries :
    let e (index : Nat) (st : EntryState) : StageEntry :=
      { waitingEntry with lot := { lot with index := index, count := 4 }, state := st }
    let s := stageWith [e 1 (.granted 14 9), e 2 .waiting, e 3 (.claimed 15),
      { waitingEntry with lot := { lot with lotId := 5 } }]
    let t := after (.clear (toAll 2) .lot 70412 1 .scrap 2) s
    t.stage.entries.map (·.lot.lotId) = [5] ∧
    t.link.queue.map (fun f => (f.addr.value, f.payload)) =
      [(14, .revoke 70412 1 .conflict), (15, .revoke 70412 3 .conflict)] ∧
    (after (.clear (toAll 2) .lot 70412 1 .resume 2) s).stage.entries.length = 4 := by
  refine ⟨?_, ?_, ?_⟩ <;> decide +kernel

/-! ## The cell -/

def queued : QueuedLot := { lot := lot, stage := 4, accepted := 900 }

/-- A full sighting table: the eighth sighting is the oldest. -/
def sightings (st : SightState) : List Sighting :=
  (List.range 32).map fun i => { sighting st false with
    lot := { lot with lotId := i + 1 }, lastOffered := if i = 7 then 100 else 500 }

def oldest : Sighting := { sighting .seen false with lot := { lot with lotId := 8 }, lastOffered := 100 }

/-- R56, R57: an OFFER from another STAGE ends the claim; one more sighting takes the place of the oldest
SEEN one, and of none that is pending; and a held lot is dropped. -/
theorem test_sightings :
    let seen (st : SightState) : State := cell14 fun c => { c with sightings := [sighting st true] }
    let heardBy (s : State) (h : Header) : List (Nat × Nat × Bool) :=
      (after (.offer h lot) s).cell.sightings.map fun x => (x.lot.lotId, x.stage, isSeen x)
    heardBy (seen (.pending 224 900)) (toAll 3) = [(70412, 3, true)] ∧
    heardBy (seen (.pending 224 900)) (toAll 4) = [(70412, 4, false)] ∧
    heardBy (withHolds [stored 70412 1 .inForce] (seen .seen)) (toAll 4) = [] ∧
    ((heardBy (cell14 fun c => { c with sightings := sightings .seen }) (toAll 4)).map (·.1)).drop 6 =
      [7] ++ (List.range 24).map (· + 9) ++ [70412] ∧
    (heardBy (cell14 fun c => { c with sightings := sightings (.pending 1 900) }) (toAll 4)).map (·.1) =
      (List.range 32).map (· + 1) := by
  refine ⟨?_, ?_, ?_, ?_, ?_⟩ <;> decide +kernel

/-- R61: a GRANT is taken on checks 1, 2 and 7 of R58 alone: neither the program, the kit nor the temperature
of the lot declines it. -/
theorem test_take_checks :
    let s := eager []
    let full : List OutboxRecord :=
      (List.range 8).map fun i => { record := done (i + 1) 14, sent := 0, mark := false }
    [takeChecks s lot, takeChecks s { lot with kit := 13, temp := 99, program := 65535 },
      takeChecks (withHolds [stored 70412 1 .inForce] s) lot, takeChecks (learning s) lot,
      takeChecks (s.setHolds { s.holds with overflow := true }) lot,
      takeChecks (s.setCell { s.cell with outbox := full }) lot] =
        [true, true, false, false, false, false] := by decide +kernel

theorem wit_SightingsClaimsAndGrants :
    let s := station 14 .cell
    let act : State := cell14 fun c => { c with active := some caseLot }
    let que : State := cell14 fun c => { c with queue := [queued] }
    let pend : State := cell14 fun c => { c with sightings := [sighting (.pending 224 900) true] }
    let seen : State := cell14 fun c => { c with sightings := [sighting .seen false] }
    (s.isActive = true ∧ s.start.role = .cell ∧ Arrives (toAll 4) (.offer lot) s ∧
      isActiveLot s.cell lot.lotId lot.index = false ∧ inQueue s.cell lot.lotId lot.index = false ∧
      lotMatched s.holds (queryOf lot) = false ∧ findSighting s lot.lotId lot.index = none ∧
      s.cell.sightings.length < 32) ∧
    (Arrives (toAll 4) (.offer lot) act ∧ act.holds.overflow = false ∧
      isActiveLot act.cell lot.lotId lot.index = true) ∧
    (Arrives (toAll 4) (.offer lot) que ∧ isActiveLot que.cell lot.lotId lot.index = false ∧
      inQueue que.cell lot.lotId lot.index = true) ∧
    (Arrives (toAll 4) (.grant 70412 1 pend.start.number 224) pend ∧ inQueue pend.cell 70412 1 = false ∧
      isActiveLot pend.cell 70412 1 = false ∧
      findSighting pend 70412 1 = some (sighting (.pending 224 900) true) ∧
      isSeen (sighting (.pending 224 900) true) = false ∧ takeChecks pend lot = true) ∧
    (findSighting seen 70412 1 = some (sighting .seen false) ∧ isSeen (sighting .seen false) = true ∧
      Arrives (toAll 4) (.grant 70412 1 seen.start.number 224) seen) ∧
    (Arrives (frm 4 14) (.revoke 70412 1 .held) que ∧ queued ∈ que.cell.queue ∧
      isLot queued.lot 70412 1 = true ∧ queued.stage = (frm 4 14).source) ∧
    ((sighting .seen false).state = .seen ∧ (sighting (.pending 224 900) true).marked = true ∧
      pend.pins.inReset = false) ∧
    (let wary : State := que.setHolds { que.holds with overflow := true }
     Arrives (toAll 4) (.offer lot) wary ∧ inQueue wary.cell 70412 1 = true ∧
      wary.holds.overflow = true) ∧
    (let held := withHolds [stored 70412 1 .inForce] seen
     Arrives (toAll 4) (.offer lot) held ∧ isActiveLot held.cell 70412 1 = false ∧
      inQueue held.cell 70412 1 = false ∧ lotMatched held.holds (queryOf lot) = true) ∧
    (Arrives (toAll 4) (.offer lot) seen ∧ Arrives (toAll 3) (.offer lot) pend ∧
      lotMatched pend.holds (queryOf lot) = false ∧ (sighting .seen false).stage ≠ (toAll 3).source) ∧
    (let full (st : SightState) : State := cell14 fun c => { c with sightings := sightings st }
     Arrives (toAll 4) (.offer lot) (full (.pending 1 900)) ∧
      findSighting (full (.pending 1 900)) 70412 1 = none ∧
      (∀ x ∈ sightings (.pending 1 900), isSeen x = false) ∧ 32 ≤ (sightings .seen).length ∧
      Arrives (toAll 4) (.offer lot) (full .seen) ∧ findSighting (full .seen) 70412 1 = none ∧
      (full .seen).cell.sightings = (sightings .seen).take 7 ++ oldest :: (sightings .seen).drop 8 ∧
      isSeen oldest = true ∧
      (∀ x ∈ (sightings .seen).take 7 ++ (sightings .seen).drop 8,
        (full .seen).age x.lastOffered < (full .seen).age oldest.lastOffered)) ∧
    (arriving (toAll 4) (.grant 70412 1 14 224) que ∧ arriving (toAll 4) (.grant 70412 1 14 224) act ∧
      isActiveLot act.cell 70412 1 = true ∧ arriving (toAll 4) (.grant 70412 1 14 224) s ∧
      findSighting s 70412 1 = none ∧ arriving (toAll 3) (.grant 70412 1 14 224) pend) ∧
    (arriving (toAll 4) (.grant 70412 1 15 224) seen ∧ (15 : Nat) ≠ seen.start.number ∧
      arriving (toAll 4) (.grant 70412 1 15 224) pend ∧ arriving (toAll 4) (.grant 70412 1 15 224) s ∧
      arriving (toAll 3) (.grant 70412 1 15 224) pend) ∧
    (Arrives (frm 4 14) (.revoke 70412 1 .held) seen ∧ seen.cell.queue = [] ∧
      Arrives (frm 3 14) (.revoke 70412 1 .held) que ∧ queued.stage ≠ (frm 3 14).source) ∧
    (let lapsing : State := cell14 fun c => { c with sightings := [sighting (.pending 224 900) false] }
     let late : State := { lapsing with now := 9000 }
     let stale (u : State) : Prop := 3 * (u.start.config.beaconInterval * 1000) ≤
      (u.setNow (u.now + (2 * (u.start.config.beaconInterval * 1000) - u.age 900))).age 500
     findSighting lapsing 70412 1 = some (sighting (.pending 224 900) false) ∧
      (sighting (.pending 224 900) false).marked = false ∧ ¬stale lapsing ∧ stale late) ∧
    (s.cell.active = none ∧ act.cell.active = some caseLot ∧ caseLot.phase ≠ .finished ∧
      act.isActive = true) ∧
    ((learning que).isActive = false ∧ Arrives (toAll 4) (.offer lot) (learning que) ∧
      Arrives (toAll 4) (.grant 70412 1 14 224) (learning que) ∧
      Arrives (frm 4 14) (.revoke 70412 1 .held) (learning que)) := by
  refine ⟨?_, ?_, ?_, ?_, ?_, ?_, ?_, ?_, ?_, ?_, ?_, ?_, ?_, ?_, ?_, ?_, ?_⟩ <;> decide +kernel

/-- R23: the role blocks of a LEARNING station discard floor work, and answer none of it. -/
theorem test_learning_discards :
    let discards (c : Instr) (s : State) : Bool :=
      (after c (learning s)).link.queue.isEmpty &&
        ((after c (learning s)).stage, (after c (learning s)).cell, (after c (learning s)).handler.rel) ==
          (s.stage, s.cell, s.handler.rel)
    (discards (.offer (toAll 4) lot) (station 14 .cell) &&
      discards (.grant (toAll 4) 70412 1 14 224) (station 14 .cell) &&
      discards (.revoke (frm 4 14) 70412 1 .held) (cell14 fun c => { c with queue := [queued] })) = true ∧
    (discards (.claim (frm 14 3) 70412 1 9 false) (entryIn .waiting) &&
      discards (.accept (frm 14 3) 70412 1 .take 9) (entryIn .waiting) &&
      discards (.return_ (frm 14 3) 70412 1 .held) (entryIn (.claimed 14))) = true ∧
    (discards (.reserve (frm 14 31)) (station 31 .handler) &&
      discards (.bindReq (frm 14 31) 0) (station 31 .handler)) = true := by
  refine ⟨?_, ?_, ?_⟩ <;> decide +kernel

/-- R57, R64, R130: a hold drops the sightings and returns the queued lots that it matches, and its reason
joins the active lot's. -/
theorem test_cell_notice :
    let s := withHolds [stored 70412 1 .inForce] (cell14 fun c => { c with
      queue := [queued, { queued with lot := { lot with lotId := 5 } }],
      sightings := [sighting (.pending 224 900) false, seenLot 11 5], active := some caseLot })
    let t := notice [] s
    (t.cell.queue.map (·.lot.lotId) = [5] ∧ t.cell.sightings.map (·.lot.lotId) = [11] ∧
      t.cell.active.map (·.reasons) = some (reasonBit .operator)) ∧
    t.link.queue.map (fun f => (f.addr.value, f.payload)) = [(4, .return_ 70412 1 .held)] ∧
    t.port.events.map (·.event) = [.lotLost 70412 1 none] := by
  refine ⟨?_, ?_, ?_⟩ <;> decide +kernel

/-- R73: the mark passes round the records after the oldest, and back to the one before a record that
goes. -/
theorem test_delivery_mark :
    let three (m : Nat) : State := cell14 fun c => { c with
      outbox := [1, 2, 3].map fun i => { outboxRec i with mark := i == m }, deliveryTimer := some 3000 }
    (after .deliveryTimerExpiry (three 2)).cell.outbox.map (·.mark) = [false, false, true] ∧
    (after .deliveryTimerExpiry (three 3)).cell.outbox.map (·.mark) = [false, true, false] ∧
    (after (.doneTaken (frm 2 14) 70412 3) (three 3)).cell.outbox.map (·.mark) = [false, true] ∧
    (after (.doneTaken (frm 2 14) 70412 1) (three 1)).cell.outbox.map (·.mark) = [false, false] := by
  refine ⟨?_, ?_, ?_, ?_⟩ <;> decide +kernel

theorem wit_OutboxDeliversAndRetires :
    let box (rs : List OutboxRecord) (a : Option ActiveLot) : State := cell14 fun c =>
      { c with outbox := rs, deliveryTimer := some 3000, active := a }
    let one := box [outboxRec 1] none
    let two := box [outboxRec 1, outboxRec 2] none
    let eight := (List.range 8).map fun i =>
      { outboxRec 1 with record := { done 1 14 with lotId := i + 1 }, mark := i == 7 }
    let stuck : ActiveLot := { caseLot with phase := .finished, waiting := some (done 1 14) }
    (one.start.role = .cell ∧ Arrives (frm 2 14) (.doneTaken 70412 1) one ∧ one.isActive = true ∧
      one.cell.outbox = [outboxRec 1] ∧ isRecordOf (outboxRec 1).record 70412 1 = true ∧
      (outboxRec 1).record.packStation = (frm 2 14).source ∧ one.cell.active = none) ∧
    (one.pins.inReset = false ∧ one.cell.deliveryTimer = some 3000) ∧
    (two.cell.deliveryTimer = some 3000 ∧ two.cell.outbox = [outboxRec 1, outboxRec 2]) ∧
    ((box eight none).cell.deliveryTimer = some 3000 ∧ (box eight none).pins.inReset = false ∧
      eight[7]?.map OutboxRecord.mark = some true ∧
      (eight.take 7).all (fun x => !x.mark) = true ∧ eight[0]?.isSome = true ∧ eight[1]?.isSome = true) ∧
    (∀ x ∈ [outboxRec 1, outboxRec 2, outboxRec 3], x.mark = false) ∧
    (Arrives (frm 2 14) (.doneTaken 8 1) (box eight none) ∧ (box eight none).isActive = true ∧
      eight[7]?.map (fun r => isRecordOf r.record 8 1 && r.record.packStation == 2) = some true ∧
      (eight.take 7).all (fun x => !isRecordOf x.record 8 1) = true) ∧
    (Arrives (frm 2 14) (.doneTaken 8 1) (box eight (some stuck)) ∧
      (box eight (some stuck)).cell.active = some stuck ∧ stuck.waiting = some (done 1 14) ∧
      ∀ x ∈ eight, isRecordOf x.record 70412 1 = false) ∧
    (Arrives (frm 2 14) (.doneTaken 70412 3) two ∧
      (∀ x ∈ two.cell.outbox, isRecordOf x.record 70412 3 = false) ∧
      Arrives (frm 4 14) (.doneTaken 70412 1) two ∧
      ∀ x ∈ two.cell.outbox, x.record.packStation ≠ (frm 4 14).source) := by
  refine ⟨?_, ?_, ?_, ?_, ?_, ?_, ?_, ?_⟩ <;> decide +kernel

/-- R75, R76: HANDLER-WANTED goes to the four lowest of the zones; a fifth reply leaves the last in the
order out; and a sighting that no handler fits calls for one. -/
theorem test_finding :
    let zoned (m : Mask16) : State := (station 14 .cell).setStart
      { (station 14 .cell).start with config := { (station 14 .cell).start.config with zoneMask := m } }
    let four : Reservation := .collecting 12 125 [cand 31, cand 32, cand 33, cand 34] (some 1200)
    let wanting : State := (cell14 fun c => { c with sightings := [seenLot 11 5] })
    (after (.requestHandler 12 125) (zoned 0x8074)).link.queue.map (·.addr.value) = [2, 4, 5, 6] ∧
    (after (.requestHandler 12 125) (zoned 0)).port.events.map (·.event) = [.noHandler 12 125] ∧
    (after (.handlerAvailable (frm 30 14) fit31 9) (reserving four)).cell.reservation = four ∧
    (after (.handlerAvailable (frm 30 14) fit31 10) (reserving four)).cell.reservation =
      .collecting 12 125 [cand 30, cand 31, cand 32, cand 33] (some 1200) ∧
    (settle wanting wanting).cell.reservation = .collecting 12 25 [] (some 1200) := by
  refine ⟨?_, ?_, ?_, ?_, ?_⟩ <;> decide +kernel

theorem wit_FindingAndReservingAHandler :
    let s := station 14 .cell
    let zoned (m : Mask16) : State :=
      s.setStart { s.start with config := { s.start.config with zoneMask := m } }
    let idle : State := cell14 fun c => { c with idleTimer := some 60000, wantedSpacing := some 12000 }
    let trying (cs : List Candidate) : Reservation := .reserving 12 125 31 cs (some 2000)
    let calling : Sighting := { seenLot 11 5 with result := .noHandler }
    let wanting : State := cell14 fun c => { c with sightings := [calling, seenLot 12 5] }
    (s.pins.inReset = false ∧ s.start.role = .cell ∧
      PortTakes (.requestHandler 12 200) (reserving (.reserved 31 fit31 (some 9000)))) ∧
    (PortTakes (.requestHandler 12 (-60)) (zoned 2) ∧ (zoned 2).cell.reservation = .none ∧
      (zoned 2).start.config.zoneMask = 0x0002#16) ∧
    (Arrives (frm 31 14) (.handlerAvailable fit31 10) (reserving (.collecting 12 125 [] (some 1200))) ∧
      (reserving (.collecting 12 125 [] (some 1200))).isLive = true) ∧
    (reserving (.collecting 12 125 [cand 31] (some 1200))).cell.reservation =
      .collecting 12 125 (cand 31 :: []) (some 1200) ∧
    ((cand 31).handler ≠ (cand 32).handler ∧ (∀ x ∈ [cand 33], x.handler ≠ (cand 31).handler) ∧
      (reserving (trying [cand 31, cand 32, cand 33])).cell.reservation =
        .reserving 12 125 (cand 31).handler (cand 31 :: cand 32 :: [cand 33]) (some 2000)) ∧
    (Arrives (frm 31 14) (.reserveReply .ok 30) (reserving (trying [cand 31])) ∧
      (cand 31).handler = (frm 31 14).source) ∧
    (reserving (.reserved 31 fit31 (some 9000))).cell.reservation = .reserved 31 fit31 (some 9000) ∧
    (idle.cell.idleTimer = some 60000 ∧ idle.cell.wantedSpacing = some 12000 ∧
      idle.pins.inReset = false) ∧
    (PortTakes (.requestHandler 12 25) (reserving (.collecting 12 125 [] (some 1200))) ∧
      PortTakes (.requestHandler 12 25) (reserving (trying [cand 31]))) ∧
    (PortTakes (.requestHandler 12 25) (zoned 0) ∧
      ((List.range 16).filter (zoned 0).start.config.zoneMask.getLsbD).take 4 = [] ∧
      PortTakes (.requestHandler 12 25) (zoned 0xFFFF) ∧
      ((List.range 16).filter (zoned 0xFFFF).start.config.zoneMask.getLsbD).take 4 = [0, 1, 2, 3]) ∧
    (let cs := [cand 31, cand 32, cand 33, cand 34]
     Arrives (frm 30 14) (.handlerAvailable fit31 10) (reserving (.collecting 12 125 cs (some 1200))) ∧
      cs.Pairwise (fun a b => b.idle < a.idle ∨ a.idle = b.idle ∧ a.handler < b.handler) ∧
      cs.length ≤ 4 ∧ Arrives (frm 30 14) (.handlerAvailable fit31 10) s ∧
      s.cell.reservation = .none) ∧
    (Arrives (frm 31 14) (.reserveReply .busy 0) (reserving (trying [cand 31])) ∧
      ([cand 31].filter fun x => x.handler != (frm 31 14).source) = [] ∧
      Arrives (frm 31 14) (.reserveReply .lapsed 0) (reserving (trying [cand 31, cand 32])) ∧
      ([cand 31, cand 32].filter fun x => x.handler != (frm 31 14).source) = cand 32 :: []) ∧
    ((reserving (trying [cand 31])).cell.reservation = .reserving 12 125 31 [cand 31] (some 2000) ∧
      ∀ x ∈ [cand 31], x.handler = 31) ∧
    (Arrives (frm 31 14) (.reserveReply .lapsed 0) (reserving (.reserved 31 fit31 (some 9000))) ∧
      Arrives (frm 32 14) (.reserveReply .lapsed 0) (reserving (.reserved 31 fit31 (some 9000))) ∧
      Arrives (frm 32 14) (.reserveReply .ok 1) (reserving (trying [cand 31])) ∧
      (31 : Nat) ≠ (frm 32 14).source) ∧
    (wanting.isActive = true ∧ calling ∈ wanting.cell.sightings ∧ calling.result = .noHandler ∧
      wanting.cell.reservation = .none ∧ wanting.cell.wantedSpacing = none ∧
      wanting.cell.binding.state = .none ∧ (seenLot 12 5).result = .notActive ∧
      0 < wanting.start.config.beaconInterval ∧ (cell14 id).cell.sightings = []) ∧
    (let off : State := s.setStart
        { s.start with config := { s.start.config with idleThreshold := 0 } }
     s.isActive = true ∧ (learning s).isActive = false ∧ busy.isActive = true ∧ busy.cell.active ≠ none ∧
      s.cell.active = none ∧ s.cell.queue = [] ∧ s.cell.idleTimer = none ∧ s.cell.idleElapsed = false ∧
      s.start.config.idleThreshold ≠ 0 ∧ off.start.config.idleThreshold = 0 ∧
      idle.cell.idleTimer ≠ none ∧ idle.cell.active = none ∧ idle.cell.queue = []) := by
  refine ⟨?_, ?_, ?_, ?_, ?_, ?_, ?_, ?_, ?_, ?_, ?_, ?_, ?_, ?_, ?_, ?_⟩ <;> decide +kernel

/-- R75: the idle timer starts at the end of the event that leaves an ACTIVE cell no lot, runs on while it
has none, and is cancelled by a lot; a threshold of 0 starts none. -/
theorem test_idle_timer :
    let s := station 14 .cell
    let timer (u : State) : Option Nat := (settle u u).cell.idleTimer
    let counting (u : State) : State := u.setCell { u.cell with idleTimer := some 60000 }
    let due := some (1000 + s.start.config.idleThreshold * 1000)
    [timer s, timer (counting s), timer (counting busy), timer (learning s),
      timer (s.setStart { s.start with config := { s.start.config with idleThreshold := 0 } })] =
      [due, some 60000, none, none, none] := by decide +kernel

/-- A cell with another reservation part. -/
def with_ (r : Reservation) (s : State) : State := s.setCell { s.cell with reservation := r }

/-- The status of a handler that has no reached temperature. -/
def quiet : StatusBody :=
  { ready := false, reachedValid := false, jam := false, soak := .unset, reached := 0, mask := 15,
    sites := List.replicate 8 .up, jamCount := 0 }

/-- R182, spec/11 section 11.2: a reached temperature with its flag clear fails CONTENT, and so does a down
reason at a site that is up or above S. S is 2 by the binding part's copy of HANDLER 31, 4 by the last
BEACON of HANDLER 30, and not known of HANDLER 29. -/
theorem test_status_content :
    let s := cellWith none 15
    let c : State := updatePeer 30 (fun e => { e with
        beacon := some { state := .active, zones := 1, holdCount := 0, digest := 0xFFFF,
                         block := .handler .bound 14 12 15 35 4 15 } })
      (s.setCell { s.cell with
        binding := { s.cell.binding with fit := { kit := 12, tempMin := 15, tempMax := 35, sites := 2 } } })
    let down (mask : SiteMask) (site : Nat) : StatusBody :=
      { quiet with mask := mask, sites := quiet.sites.set (site - 1) .failRun }
    let ok (n : Nat) (b : StatusBody) : Bool := contentOk c n (.handlerStatus b)
    [ok 31 quiet, ok 31 { quiet with reached := 1 },
      ok 31 { quiet with reached := 1, reachedValid := true }] = [true, false, true] ∧
    [ok 31 (down 3 2), ok 31 (down 1 2), ok 31 (down 3 3), ok 30 (down 3 4), ok 30 (down 3 5),
      ok 30 (down 3 8), ok 29 (down 3 8), ok 29 (down 128 8)] =
      [false, true, false, true, false, false, true, false] := by decide +kernel

/-- R15: such a status from the bound handler sets the CONTENT latch and is not taken; one with a reason at
a site of S is. -/
theorem test_status_above_sites :
    let s := cellWith none 15
    let c : State := s.setCell { s.cell with
      binding := { s.cell.binding with fit := { kit := 12, tempMin := 15, tempMax := 35, sites := 2 } } }
    let told (site : Nat) : State := after (.handlerStatus (frm 31 14)
      { quiet with mask := 1, sites := quiet.sites.set (site - 1) .failRun }) c
    [2, 3].map (fun n => ((told n).link.latches.content, (told n).cell.mask)) =
      [(false, 1), (true, 15)] := by decide +kernel

theorem wit_BindingPartMoves :
    let s := station 14 .cell
    (s.pins.inReset = false ∧ s.start.role = .cell ∧ PortTakes (.dock 40) s ∧ 40 ≠ s.start.number ∧
      s.cell.binding.state = .none ∧ s.cell.reservation = .none) ∧
    (PortTakes (.dock 1) (binding .bound false) ∧ (binding .bound false).cell.binding.state = .bound) ∧
    (Arrives (frm 31 14) (.bindReply .ok fit31 15) (binding .binding true) ∧
      (binding .binding true).isLive = true ∧ (binding .binding true).cell.binding.state = .binding ∧
      (binding .binding true).cell.binding.handler = (frm 31 14).source ∧
      (binding .binding true).cell.reservation = .none) ∧
    ((binding .binding true).cell.binding.timer = some 2000 ∧
      (binding .binding true).cell.binding.first = true) ∧
    (PortTakes .undock (binding .bound false) ∧ (binding .bound false).cell.binding.state ≠ .none) ∧
    (PortTakes .undock s ∧ s.cell.binding.state = .none) ∧
    (Arrives (frm 31 14) (.unbind .undock) (binding .orphaned false) ∧
      (binding .orphaned false).cell.binding.state = .orphaned) ∧
    ((binding .bound false).cell.permitTimer = some 3000 ∧
      (binding .bound false).cell.active = some caseLot) ∧
    ((binding .bound false).isLive = true ∧ (binding .bound false).cell.binding.handler ≠ 0 ∧
      (binding .bound false).cell.reservation = .none ∧
      (binding .binding false).cell.binding.state = .binding ∧
      (binding .binding false).cell.binding.first = false) ∧
    (let t := (binding .binding true).setCell { (binding .binding true).cell with
        reservation := .reserved 31 fit31 (some 9000) }
     t.isLive = true ∧ t.cell.binding.handler = 31 ∧ t.cell.binding.first = true ∧
      t.cell.reservation = .reserved t.cell.binding.handler fit31 (some 9000)) ∧
    ((binding .bound false).cell.binding.handler ≠ 4 ∧ s.isLive = true ∧
      s.cell.binding.handler ≠ 40) ∧
    (PortTakes (.dock 14) s ∧ PortTakes (.dock 32) (binding .binding true) ∧
      PortTakes (.dock 31) (reserving (.reserved 31 fit31 (some 9000))) ∧
      PortTakes (.dock 32) (reserving (.reserved 31 fit31 (some 9000))) ∧
      (reserving (.reserved 31 fit31 (some 9000))).cell.binding.state = .none) ∧
    (∀ r ∈ [Reservation.reserved 31 fit31 (some 9000), .reserved 32 fit31 (some 9000),
        .collecting 12 125 [] (some 1200)],
      Arrives (frm 31 14) (.bindReply .ok fit31 15) (with_ r (binding .binding true)) ∧
      PortTakes .undock (with_ r (binding .bound false))) ∧
    (∀ r ∈ [BindResult.busy, .mismatch],
      arriving (frm 31 14) (.bindReply r fit31 15) (binding .binding true) ∧
      arriving (frm 31 14) (.bindReply r fit31 15) (binding .binding false) ∧
      arriving (frm 32 14) (.bindReply r fit31 15) (binding .binding true) ∧
      arriving (frm 31 14) (.bindReply r fit31 15) (binding .bound false)) ∧
    ((binding .binding false).cell.binding.timer = some 2000 ∧
      (binding .binding false).cell.binding.first = false) ∧
    (∀ r ∈ [UnbindReason.undock, .cancel, .timeout],
      arriving (frm 31 14) (.unbind r) (binding .bound false) ∧
      arriving (frm 31 14) (.unbind r) (binding .orphaned false) ∧
      arriving (frm 31 14) (.unbind r) (binding .binding true) ∧
      arriving (frm 31 14) (.unbind r) (binding .binding false) ∧
      arriving (frm 32 14) (.unbind r) (binding .bound false)) ∧
    (Arrives (frm 32 14) (.handlerStatus quiet) (binding .bound false) ∧
      Arrives (frm 31 14) (.handlerStatus quiet) s ∧
      Arrives (frm 31 14) (.handlerStatus quiet) (binding .orphaned false) ∧ s.isActive = true) ∧
    (let t := with_ (.reserving 12 125 31 [cand 31] (some 2000)) (binding .bound false)
     t.isLive = true ∧ t.cell.binding.handler = 31 ∧ (∀ c ∈ [cand 31], c.handler = 31) ∧
      t.cell.binding.state = .bound) ∧
    (let t := (binding .bound false).setCell { (binding .bound false).cell with active := none }
     t.pins.inReset = false ∧ t.start.role = .cell ∧ t.cell.permitTimer = some 3000 ∧
      t.cell.active = none) ∧
    (∀ r ∈ [Reservation.none, .collecting 12 125 [cand 32, cand 33] (some 1200),
        .reserving 12 125 33 [cand 33, cand 32] (some 2000), .reserving 12 125 32 [cand 32] (some 2000),
        .reserving 12 125 32 [cand 32, cand 33] (some 2000), .reserved 32 fit31 (some 9000),
        .reserved 31 fit31 (some 9000)],
      (with_ r s).isLive = true ∧ (with_ r s).cell.reservation = r ∧
      (with_ r s).cell.binding.state = .none ∧
      (with_ r (binding .bound false)).cell.binding.handler ≠ 32 ∧
      (with_ r (binding .bound false)).cell.binding.state = .bound ∧
      (with_ r (binding .binding true)).cell.binding.first = true ∧
      [cand 32, cand 33].filter (fun c => c.handler != 32) = cand 33 :: []) := by
  refine ⟨?_, ?_, ?_, ?_, ?_, ?_, ?_, ?_, ?_, ?_, ?_, ?_, ?_, ?_, ?_, ?_, ?_, ?_, ?_, ?_⟩ <;>
    decide +kernel

/-- R68, R77: the permit timer's PERMIT with no lot active is the idle one; a reserved handler that restarts
ends the reservation without an event, and a candidate that restarts while it is tried gives way to the
next. -/
theorem test_restart_of_a_candidate :
    let idle := (binding .bound false).setCell { (binding .bound false).cell with active := none }
    let out (r : Reservation) : Reservation × List (Nat × Payload) × List Event :=
      let t := roleRestart 32 (with_ r (binding .bound false))
      (t.cell.reservation, t.link.queue.map (fun f => (f.addr.value, f.payload)),
        t.port.events.map (·.event))
    (after .permitTimerExpiry idle).link.queue.map (·.payload) = [.permit Permit.idle] ∧
    out (.reserved 32 fit31 (some 9000)) = (.none, [], []) ∧
    out (.reserving 12 125 32 [cand 32, cand 33] (some 1500)) =
      (.reserving 12 125 33 [cand 33] (some 2000), [(33, .reserve)], []) ∧
    out (.reserving 12 125 32 [cand 32] (some 1500)) = (.none, [], [.noHandler 12 125]) := by
  refine ⟨?_, ?_, ?_, ?_⟩ <;> decide +kernel

/-- R88 to R90: a cell refused with BUSY fails its bind and with MISMATCH on a rebind ends the binding; a
bind with another handler cancels a reservation; and a stray status is told UNBIND. -/
theorem test_bind_replies :
    let events (c : Instr) (s : State) : List Event := (after c s).port.events.map (·.event)
    let sent (c : Instr) (s : State) : List Payload := (after c s).link.queue.map (·.payload)
    events (.bindReply (frm 31 14) .busy fit31 15) (binding .binding true) = [.cellBindFailed 31 1 12] ∧
    events (.bindReply (frm 31 14) .mismatch fit31 15) (binding .binding false) = [.unbound 31 2] ∧
    sent (.bindReply (frm 31 14) .ok fit31 15)
        (with_ (.reserved 32 fit31 (some 9000)) (binding .binding true)) =
      [.bindConfirm 12 4, .unbind .cancel, .permit (permitNow (binding .bound false))] ∧
    sent (.handlerStatus (frm 32 14) quiet) (binding .bound false) = [.unbind .undock] := by
  refine ⟨?_, ?_, ?_, ?_⟩ <;> decide +kernel

/-- R92: a bound handler lost is ORPHANED, and bound again when it is back. -/
theorem test_orphaned :
    (roleLost 31 (binding .bound false)).cell.binding.state = .orphaned ∧
      (roleBack 31 (binding .orphaned false)).link.queue.map (·.payload) = [.bindReq 0] ∧
      (roleRestart 31 (binding .orphaned false)).port.events.map (·.event) = [.unbound 31 3] := by
  decide +kernel

theorem wit_QueuedLotsAreReturnedOrLoaded :
    let que : State := cell14 fun c => { c with queue := [queued] }
    let act : State := cell14 fun c => { c with queue := [queued], active := some caseLot }
    let lim : State := que.setLimits { que.limits with products := [(5, caseLimits)] }
    (PortTakes (.unqueue 70412 1) (station 14 .cell) ∧
      inQueue (station 14 .cell).cell 70412 1 = false) ∧
    (PortTakes (.unqueue 70412 1) que ∧
      (que.cell.queue.filter fun y => isLot y.lot 70412 1) = [queued] ∧ que.cell.active = none ∧
      ∀ p ∈ que.limits.products, p.1 ≠ queued.lot.product) ∧
    (PortTakes (.unqueue 70412 1) act ∧ act.cell.active = some caseLot) ∧
    (PortTakes (.unqueue 70412 1) lim ∧ (queued.lot.product, caseLimits) ∈ lim.limits.products ∧
      ∀ p ∈ lim.limits.products, p.1 = queued.lot.product → p.2 = caseLimits) := by
  refine ⟨?_, ?_, ?_, ?_⟩ <;> decide +kernel

/-! ## The yield guard -/

theorem wit_PassesEndAndLotsAreUnloaded :
    let cellOf (a : ActiveLot) : State := cellWith (some a) 3
    let boxed (n : Nat) (s : State) : State := s.setCell { s.cell with
      outbox := (List.range n).map fun i =>
        { outboxRec 1 with record := { done 1 14 with lotId := i + 1 } } }
    let zero := lotUnder caseLimits
    let good := lotUnder { caseLimits with lyf := 3862 }
    let ended : ActiveLot := { caseLot with phase := .finished }
    let stuck : ActiveLot := { ended with waiting := some (done 1 14) }
    let setup : State :=
      (cellOf caseLot).setCell { (cellOf { caseLot with readySeen := false }).cell with ready := false }
    let held (s : State) : State := withHolds [stored 70412 1 .inForce] s
    let spent : ActiveLot := { caseLot with pass := 2 }
    let bare : ActiveLot := { caseLot with
      tested := 958, bins := [900, 0, 0, 0, 0, 0, 58] ++ List.replicate 9 0 }
    let low (a : ActiveLot) : Prop := lotState (cellOf a) a = .running ∧ PortTakes .endPass (cellOf a) ∧
      a.tested ≠ 0 ∧ 4096 * goodCount a.bins a.limits.good / a.tested < a.limits.lyf
    (PortTakes .endPass (station 14 .cell) ∧ (station 14 .cell).cell.active = none) ∧
    (lotState (cellOf ended) ended = .finished ∧ PortTakes .endPass (cellOf ended)) ∧
    (setup.cell.active = some { caseLot with readySeen := false } ∧
      lotState setup { caseLot with readySeen := false } = .setup) ∧
    lotState (held (cellOf caseLot)) caseLot = .held ∧
    (low caseLot ∧ caseLot.pass ≤ caseLot.allowance ∧
      0 < caseLot.pool + goodCount caseLot.bins caseLot.limits.retestable ∧ caseLot.pass < 255) ∧
    (let a : ActiveLot := { caseLot with limits := good.limits }
     ∀ n ∈ [7, 8], lotState (boxed n (cellOf a)) a = .running ∧ a.tested ≠ 0 ∧
      PortTakes .endPass (boxed n (cellOf a)) ∧
      a.limits.lyf ≤ 4096 * goodCount a.bins a.limits.good / a.tested ∧
      (boxed n (cellOf a)).cell.outbox.length = n ∧
      outboxHas (boxed n (cellOf a)).cell a.lot.lotId a.lot.index = false) ∧
    (lotState (cellOf zero) zero = .running ∧ zero.tested = 0) ∧
    (low spent ∧ spent.allowance < spent.pass ∧ low bare ∧
      bare.pool + goodCount bare.bins bare.limits.retestable = 0) ∧
    (∀ n ∈ [7, 8], PortTakes .endPass (held (boxed n (cellOf caseLot))) ∧
      lotState (held (boxed n (cellOf caseLot))) caseLot = .held ∧
      (held (boxed n (cellOf caseLot))).cell.outbox.length = n ∧
      outboxHas (held (boxed n (cellOf caseLot))).cell 70412 1 = false) ∧
    (ended.phase = .finished ∧ ended.waiting = none) ∧ stuck.waiting ≠ none ∧
    (let a : ActiveLot := { caseLot with limits := good.limits }
     let again (s : State) : State := s.setCell { s.cell with outbox := [outboxRec 1] }
     (outboxRec 1).record.lotId = a.lot.lotId ∧ (outboxRec 1).record.index = a.lot.index ∧
      lotState (again (cellOf a)) a = .running ∧ a.tested ≠ 0 ∧ PortTakes .endPass (again (cellOf a)) ∧
      a.limits.lyf ≤ 4096 * goodCount a.bins a.limits.good / a.tested ∧
      PortTakes .endPass (held (again (cellOf caseLot))) ∧
      lotState (held (again (cellOf caseLot))) caseLot = .held) := by
  refine ⟨?_, ?_, ?_, ?_, ?_, ?_, ?_, ?_, ?_, ?_, ?_, ?_⟩ <;> decide +kernel

/-- R70, R71: the record of a lot that is finished again takes the place of the one in the outbox, unsent. -/
theorem test_finished_again :
    let s : State := cellWith (some { caseLot with limits := (lotUnder { caseLimits with lyf := 3862 }).limits }) 3
    let again : State := s.setCell { s.cell with outbox := [outboxRec 1, outboxRec 2] }
    (after .endPass again).cell.outbox.map (fun x => (x.record.index, x.sent, x.record.result)) =
      [(1, 0, .passed), (2, 255, (outboxRec 2).record.result)] := by decide +kernel

/-- R119, R121, R133: a site at 1,048,575 units is stray and asked down, one whose fail run reaches CF is
asked down, and so is a marked site in the mask. -/
theorem test_sites_asked_down :
    let report (a : ActiveLot) (mark : SiteStatus) : List Payload :=
      let s := cellWith (some a) 3
      (after (.binReport 2 [0, 7, 0, 0, 0, 0, 0, 0])
        (s.setCell { s.cell with marks := s.cell.marks.set 1 mark })).link.queue.map (·.payload)
    let at2 (t : SiteTally) : ActiveLot := { lotUnder { caseLimits with cf := 8 } with
      sites := (List.replicate 8 (tally 0 0)).set 1 t }
    report (at2 { tested := 1048575, good := 0, run := 0 }) .up = [.siteDown 2 .countLimit] ∧
    report (at2 { tested := 9, good := 0, run := 7 }) .up = [.siteDown 2 .failRun] ∧
    report (at2 { tested := 9, good := 0, run := 6 }) .failRun = [.siteDown 2 .failRun] ∧
    report (at2 { tested := 9, good := 0, run := 6 }) .up = [] := by
  refine ⟨?_, ?_, ?_, ?_⟩ <;> decide +kernel

/-- BIN REPORT at site 8 in pass 1 with the last counted value, stray, and in a retest pass; a status
with a lot in IN_PASS; a report with no lot, with one out of a pass, and one that spends the pool; each
check triggering; and triggers with and without the lot's own hold. -/
theorem wit_UnitsAreCountedAndStatusesTaken :
    let a : ActiveLot := { lotUnder caseLimits with
      tested := 198, bins := 198 :: List.replicate 15 0 }
    let b : ActiveLot := { a with pass := 2, pool := 2, tested := 198, bins := 196 :: List.replicate 15 0 }
    let s := cellWith (some a) 128
    let t := cellWith (some b) 128
    let bins := [0, 0, 0, 0, 0, 0, 0, 16]
    let status : StatusBody :=
      { ready := true, reachedValid := true, jam := false, soak := .ready, reached := 200, mask := 128,
        sites := List.replicate 8 .up, jamCount := 255 }
    let ended : ActiveLot := { a with phase := .awaiting }
    let last : ActiveLot := { caseLot with
      pass := 2, pool := 2, bins := [973, 0, 8, 0, 0, 0, 17] ++ List.replicate 9 0 }
    let r (x : ActiveLot) : Report :=
      { active := x, counted := 0, stray := false, requested := true, excess := some 3 }
    let down : Cell := { (cellWith none 2).cell with marks := List.replicate 8 SiteStatus.failRun }
    let split : ActiveLot := { splitLot with limits := { splitLot.limits with binLimits := [(5, 205)] } }
    (PortTakes (.binReport (BitVec.twoPow 8 (8 - 1)) bins) s ∧ bins.getD (8 - 1) 0 = 16 ∧
      s.cell.active = some a ∧ a.phase = .inPass ∧ a.tested + 1 < a.limits.nMin ∧
      (∀ m ∈ [1, 2, 3, 4, 5, 6, 7, 8], (tallyAt a m).tested + 1 < a.limits.nSite) ∧
      a.limits.cf = 0 ∧ markOf s.cell 8 = .up ∧ maskHas s.cell.mask 8 = true ∧
      (tallyAt a 8).tested < 1048575 ∧ a.pass = 1) ∧
    (PortTakes (.binReport (BitVec.twoPow 8 (1 - 1)) bins) s ∧ bins.getD (1 - 1) 0 = 0 ∧
      markOf s.cell 1 = .up) ∧
    (PortTakes (.binReport (BitVec.twoPow 8 (8 - 1)) bins) t ∧ t.cell.active = some b ∧ b.pass ≠ 1 ∧
      2 ≤ b.pool) ∧
    (Arrives (frm 31 14) (.handlerStatus status) s ∧ s.isActive = true ∧
      s.cell.binding.state = .bound ∧ s.cell.binding.handler = (frm 31 14).source ∧
      status.mask ≠ 0#8 ∧ a.limits.jamLimit = 0) ∧
    (Arrives (frm 31 14) (.handlerStatus status) (binding .binding false) ∧
      (binding .binding false).isActive = true ∧ (binding .binding false).cell.binding.state = .binding ∧
      (binding .binding false).cell.binding.handler = (frm 31 14).source) ∧
    (PortTakes (.binReport 255 bins) (cellWith none 128) ∧ (cellWith none 128).cell.active = none) ∧
    (PortTakes (.binReport 255 bins) (cellWith (some ended) 128) ∧ ended.phase ≠ .inPass ∧
      Arrives (frm 31 14) (.handlerStatus status) (cellWith (some ended) 128)) ∧
    (PortTakes (.binReport 3 [7, 7, 0, 0, 0, 0, 0, 0]) (cellWith (some last) 3) ∧ last.phase = .inPass ∧
      0 < last.pool ∧
      let p := ([1, 2, 3, 4, 5, 6, 7, 8].filter (maskHas (3 : SiteMask))).foldl (takeEntry [7, 7, 0, 0, 0, 0, 0, 0])
        (cellWith (some last) 3,
          { active := last, counted := 0, stray := false, requested := false, excess := none })
      let v := handleTriggers (reportTriggers p.2 (p.1.setCell { p.1.cell with
        active := some p.2.active }).cell) 70412 (p.1.setCell { p.1.cell with active := some p.2.active })
      v.cell.active.map (fun x => (x.pass, x.pool, lotState v x)) = some (2, 0, .running)) ∧
    ((1 ≤ 16 ∧ maskHas s.cell.mask 8 = true ∧ 1048575 ≤ (tallyAt { a with
        sites := List.replicate 8 (tally 1048575 0) } 8).tested) ∧
      maskHas s.cell.mask 1 = false ∧ markOf down 8 ≠ .up) ∧
    (reportTriggers (r split) down).map Prod.fst = [.noSites, .siteDelta, .binLimit, .yieldAlarm, .countExcess] ∧
    (statusTriggers { status with mask := 0 } { a with limits := { a.limits with jamLimit := 254 } }).map
      Prod.fst = [.noSites, .jamRate] ∧
    (keyInForce (withHolds [stored 70412 1 .inForce] s).holds .lot a.lot.lotId = true ∧
      keyInForce s.holds .lot a.lot.lotId = false) := by
  refine ⟨?_, ?_, ?_, ?_, ?_, ?_, ?_, ?_, ?_, ?_, ?_, ?_⟩ <;> decide +kernel

theorem sizes_lot : SizesRight (cellWith (some (lotUnder caseLimits)) 128) :=
  ⟨by decide +kernel, rfl, by decide +kernel, by decide +kernel,
    fun a h => by cases h; decide +kernel, by decide +kernel⟩

def partA (product : Nat) : LimitPartA :=
  { product := product, lya := 3686, lyf := 4096, nMin := 65535, nSite := 1, sdl := 4096, cf := 255,
    good := 1, retestable := 2, passes := 3 }

theorem wit_LimitEntriesAreSetAndCleared :
    let pairs := [(16, 4096), (2, 0), (0, 0), (0, 0)]
    let held (p : Nat) : State := cell14 fun c => { c with partA := some (partA p) }
    let known : State := (held 5).setLimits { (held 5).limits with products := [(5, caseLimits)] }
    let full : State := (held 9).setLimits { (held 9).limits with
      products := (List.range 8).map fun i => (i + 1, caseLimits) }
    PortTakes (.limitSetA (partA 65535)) (station 14 .cell) ∧
    (PortTakes (.limitSetB 6 pairs 255) (held 5) ∧ (held 5).cell.partA = some (partA 5) ∧
      (partA 5).product ≠ 6) ∧
    (PortTakes (.limitSetB 0 pairs 255) (held 0) ∧ (held 0).cell.partA = some (partA 0) ∧
      (partA 0).product = 0) ∧
    (PortTakes (.limitSetB 5 pairs 255) known ∧ known.cell.partA = some (partA 5) ∧
      ∃ x ∈ known.limits.products, x.1 = 5) ∧
    (PortTakes (.limitSetB 5 pairs 255) (held 5) ∧ (¬∃ x ∈ (held 5).limits.products, x.1 = 5) ∧
      (held 5).limits.products.length < 8) ∧
    (PortTakes (.limitSetB 9 pairs 255) full ∧ full.cell.partA = some (partA 9) ∧
      (¬∃ x ∈ full.limits.products, x.1 = 9) ∧ 8 ≤ full.limits.products.length) ∧
    PortTakes (.limitClear 0) (station 14 .cell) ∧
    (PortTakes (.limitClear 5) known ∧ ∃ x ∈ known.limits.products, x.1 = 5) ∧
    (PortTakes (.limitClear 65535) known ∧ ∀ x ∈ known.limits.products, x.1 ≠ 65535) := by
  refine ⟨?_, ?_, ?_, ?_, ?_, ?_, ?_, ?_, ?_⟩ <;> decide +kernel

/-! ## The handler -/

/-- HANDLER 31 with its relation changed. -/
def relation (rel : RelState) : State :=
  let s := station 31 .handler
  s.setHandler { s.handler with
    rel := rel, cell := if rel = .free then 0 else 14, kit := 12, deadline := some 1800000,
    bindTimer := some 2000, orphanTimer := some 600000, statusTimer := some 3000 }

/-- A handler in the handshake that a reservation of CELL 14 led to. -/
def failing (deadline : Nat) : State :=
  let s := relation .binding
  s.setHandler { s.handler with prevReserved := true, deadline := some deadline }

theorem wit_HandlerRelationMoves :
    ((relation .free).pins.inReset = false ∧ (relation .free).start.role = .handler ∧
      (relation .free).isActive = true ∧
      Arrives { addr := { type := .toZone, value := 15 }, source := 14, fresh := false }
        (.handlerWanted 12 35) (relation .free) ∧
      (relation .free).holds.overflow = false ∧ (relation .free).handler.rel = .free ∧
      12 = (relation .free).handler.kit ∧ (relation .free).start.config.tempMin ≤ 15 ∧
      35 ≤ (relation .free).start.config.tempMax) ∧
    Arrives (frm 14 31) .reserve (relation .free) ∧
    (Arrives (frm 15 31) .reserve (relation .orphaned) ∧ (relation .orphaned).handler.rel = .orphaned) ∧
    ((relation .reserved).handler.rel = .reserved ∧
      (relation .reserved).handler.deadline = some 1800000) ∧
    (Arrives (frm 14 31) (.bindReq 0) (relation .free) ∧
      Arrives (frm 14 31) (.bindReq 255) (relation .free) ∧ 255 ≠ (relation .free).handler.kit) ∧
    (Arrives (frm 14 31) (.bindConfirm (relation .binding).handler.kit
        (relation .binding).start.config.siteCount) (relation .binding) ∧
      (relation .binding).handler.rel = .binding ∧
      (relation .binding).handler.cell = (frm 14 31).source) ∧
    ((relation .binding).handler.bindTimer = some 2000 ∧
      (relation .binding).handler.prevReserved = false) ∧
    (Arrives (frm 14 31) (.unbind .undock) (relation .bound) ∧
      Arrives (frm 14 31) (.unbind .timeout) (relation .bound) ∧
      (relation .bound).handler.rel = .bound ∧ (relation .bound).handler.cell = (frm 14 31).source) ∧
    ((relation .orphaned).handler.orphanTimer = some 600000) ∧
    ((relation .orphaned).handler.rel = .orphaned ∧ (relation .orphaned).isActive = true ∧
      (relation .free).handler.rel = .free ∧ (15 : Nat) ≠ (relation .bound).handler.cell) ∧
    (Arrives (frm 14 31) .reserve (relation .reserved) ∧
      Arrives (frm 15 31) .reserve (relation .reserved) ∧ (relation .reserved).handler.cell = 14) ∧
    (∀ r ∈ [RelState.reserved, .binding, .bound, .orphaned],
      (relation r).handler.cell = 14 ∧ (∀ k ∈ [0, 12, 255], arriving (frm 14 31) (.bindReq k) (relation r)) ∧
      arriving (frm 15 31) (.bindReq 0) (relation r) ∧
      ∀ u ∈ [UnbindReason.undock, .cancel, .timeout], arriving (frm 14 31) (.unbind u) (relation r) ∧
        arriving (frm 15 31) (.unbind u) (relation r)) ∧
    Arrives (frm 14 31) (.unbind .undock) (relation .free) ∧
    (∀ s ∈ [relation .binding, failing 1800000, failing 500],
      arriving (frm 14 31) (.bindConfirm 12 8) s ∧ 8 ≠ s.start.config.siteCount ∧
      s.handler.rel = .binding ∧ s.handler.cell = 14 ∧ s.handler.bindTimer = some 2000 ∧
      arriving (frm 14 31) (.unbind .timeout) s) ∧
    ((failing 500).handler.prevReserved = true ∧ (failing 500).handler.deadline = some 500 ∧
      500 ≤ (failing 500).now ∧ (failing 1800000).now < 1800000) ∧
    Arrives (frm 14 31) (.bindConfirm 12 4) (relation .bound) ∧
    (let wanted : Header := { addr := { type := .toZone, value := 15 }, source := 14, fresh := false }
     let s := learning (relation .free)
     s.isActive = false ∧ arriving wanted (.handlerWanted 12 35) s ∧ Arrives (frm 14 31) .reserve s ∧
      Arrives (frm 14 31) (.bindReq 0) s ∧ arriving wanted (.handlerWanted 12 35) (relation .bound) ∧
      arriving wanted (.handlerWanted 13 35) (relation .free) ∧ 13 ≠ (relation .free).handler.kit ∧
      arriving wanted (.handlerWanted 12 36) (relation .free) ∧
      arriving wanted (.handlerWanted 12 14) (relation .free) ∧
      arriving wanted (.handlerWanted 12 35)
        ((relation .free).setHolds { (relation .free).holds with overflow := true })) := by
  refine ⟨?_, ?_, ?_, ?_, ?_, ?_, ?_, ?_, ?_, ?_, ?_, ?_, ?_, ?_, ?_, ?_, ?_⟩ <;> decide +kernel

/-- R84, log entry 44: a handshake that fails goes back to the reservation, and ends with it when the
deadline is past. -/
theorem test_failed_handshake :
    let t (d : Nat) : State := after (.unbind (frm 14 31) .timeout) (failing d)
    ((t 1800000).handler.rel = .reserved ∧ (t 1800000).port.events.map (·.event) = [.handlerBindFailed 14]) ∧
    ((t 500).handler.rel = .free ∧
      (t 500).port.events.map (·.event) = [.handlerBindFailed 14, .reservationLapsed 14]) := by
  decide +kernel

/-- R85: a bound handler whose cell is lost is ORPHANED, with the idle permit; back, it is BOUND; and a
restart ends the relation. -/
theorem test_cell_lost :
    (roleLost 14 (relation .bound)).handler.rel = .orphaned ∧
      (roleBack 14 (relation .orphaned)).handler.rel = .bound ∧
      (roleRestart 14 (relation .reserved)).handler.rel = .free := by decide +kernel

/-- HANDLER 31 in a soak state at 85 °C. -/
def soakAt (st : SoakState) : State :=
  bound31.setHandler { bound31.handler with
    soak := st, target := if st = .unset then none else some 85, soakTimer := some 5000,
    graceTimer := some 9000 }

theorem wit_SoakStatesFollowTheChamber :
    (bound31.pins.inReset = false ∧ bound31.start.role = .handler ∧
      Arrives (frm 14 31) (.permit hotPermit) bound31 ∧ bound31.isActive = true ∧
      bound31.handler.rel = .bound ∧ bound31.handler.cell = (frm 14 31).source ∧ hotPermit.lotId ≠ 0 ∧
      bound31.handler.target ≠ some hotPermit.temp) ∧
    (Arrives (frm 14 31) (.permit { hotPermit with temp := 85 }) bound31 ∧
      bound31.handler.soak ≠ .unset ∧ bound31.handler.target = some 85) ∧
    (PortTakes (.tempReached 14) (soakAt .unset) ∧ PortTakes (.tempReached 15) (soakAt .unset) ∧
      PortTakes (.tempReached 36) (soakAt .unset) ∧ (soakAt .unset).handler.soak = .unset) ∧
    (PortTakes (.tempReached 85) (soakAt .settling) ∧ (soakAt .settling).handler.target = some 85 ∧
      PortTakes (.tempReached 85) (soakAt .excursion) ∧ PortTakes (.tempReached 85) (soakAt .ready) ∧
      PortTakes (.tempReached 200) (soakAt .soaking) ∧
      (soakAt .soaking).handler.target ≠ some 200) ∧
    (PortTakes .tempLost (soakAt .soaking) ∧ PortTakes .tempLost (soakAt .ready) ∧
      (soakAt .ready).start.config.excursionGrace ≠ 0 ∧ PortTakes .tempLost (soakAt .excursion)) ∧
    (let s := soakAt .ready
     let t : State := s.setStart { s.start with config := { s.start.config with excursionGrace := 0 } }
     PortTakes .tempLost t ∧ t.handler.soak = .ready ∧ t.start.config.excursionGrace = 0) ∧
    (commandOk (starting 31) .tempLost = true ∧ (starting 31).start.station = .start) ∧
    ((soakAt .soaking).handler.soak = .soaking ∧ (soakAt .soaking).handler.soakTimer = some 5000) ∧
    ((soakAt .excursion).handler.soak = .excursion ∧
      (soakAt .excursion).handler.graceTimer = some 9000) ∧
    (Arrives (frm 14 31) (.permit Permit.idle) bound31 ∧ Permit.idle.lotId = 0 ∧
      bound31.handler.cell = (frm 14 31).source) ∧
    (Arrives (frm 14 31) (.permit hotPermit) (learning bound31) ∧ (learning bound31).isActive = false ∧
      Arrives (frm 14 31) (.permit hotPermit) (relation .reserved) ∧
      (relation .reserved).handler.rel ≠ .bound ∧
      Arrives (frm 15 31) (.permit hotPermit) bound31 ∧ bound31.handler.cell ≠ (frm 15 31).source) := by
  refine ⟨?_, ?_, ?_, ?_, ?_, ?_, ?_, ?_, ?_, ?_, ?_⟩ <;> decide +kernel

/-- R95, R97: an idle permit is stored and keeps the soak target and the jam lot; another cell's is
ignored. -/
theorem test_idle_permit :
    let s := (hot .ready).setHandler { (hot .ready).handler with jamLot := (70412, 1), jamCount := 2 }
    let t := after (.permit (frm 14 31) Permit.idle) s
    (t.handler.permit, t.handler.target, t.handler.soak, t.handler.jamLot, t.handler.jamCount) =
      (Permit.idle, some 125, .ready, (70412, 1), 2) ∧
    (after (.permit (frm 15 31) Permit.idle) s).handler.permit = hotPermit := by decide +kernel

/-- The worn handler with site 3 in a state, in a relation. -/
def wornSite (st : SiteStatus) (counter : Nat) (rel : RelState) : State :=
  worn.setHandler { worn.handler with
    rel := rel,
    sites := (List.replicate 8 { status := .up, counter := 0 }).set 2
      { status := st, counter := counter } }

theorem wit_SitesAndCounters :
    let up := wornSite .up 513021 .bound
    let spent := wornSite .contactLife 513023 .bound
    (up.pins.inReset = false ∧ up.start.role = .handler ∧ up.isLive = true ∧
      up.start.config.siteCount ≤ 8 ∧ 3 ≤ up.start.config.siteCount ∧
      contactorLimit up.start.config = some 513023 ∧ (siteAt up.handler 3).status = .up ∧
      ¬513023 ≤ min ((siteAt up.handler 3).counter + 1) 4294967295) ∧
    ((siteAt worn.handler 3).status = .up ∧
      513023 ≤ min ((siteAt worn.handler 3).counter + 1) 4294967295) ∧
    ((siteAt spent.handler 3).status = .contactLife ∧ 513023 ≤ (siteAt spent.handler 3).counter) ∧
    ((wornSite .up 0 .free).handler.rel = .free ∧ (wornSite .up 0 .bound).handler.rel = .bound ∧
      4294967295 ≤ 4294967295) ∧
    ((siteAt (wornSite .failRun 0 .bound).handler 3).status ≠ .contactLife) ∧
    (Arrives (frm 14 31) (.siteDown 3 .failRun) up ∧ up.isActive = true ∧ up.handler.rel = .bound ∧
      up.handler.cell = (frm 14 31).source ∧
      Arrives (frm 14 31) (.siteDown 3 .countLimit) (wornSite .failRun 0 .bound)) ∧
    (PortTakes (.unitIndexed 0) up ∧ PortTakes (.unitIndexed 15) spent ∧ maskHas 15#8 4 = true ∧
      (siteAt spent.handler 4).status = .up ∧ (siteAt spent.handler 3).status ≠ .up ∧
      PortTakes (.unitIndexed 13) worn ∧ maskHas 13#8 2 = false) ∧
    (arriving (frm 14 31) (.siteDown 3 .failRun) (learning up) ∧ (learning up).isActive = false ∧
      arriving (frm 14 31) (.siteDown 3 .failRun) (wornSite .up 0 .orphaned) ∧
      arriving (frm 15 31) (.siteDown 3 .failRun) up ∧ up.handler.cell ≠ (frm 15 31).source ∧
      arriving (frm 14 31) (.siteDown 5 .failRun) up ∧ up.start.config.siteCount < 5) := by
  refine ⟨?_, ?_, ?_, ?_, ?_, ?_, ?_, ?_⟩ <;> decide +kernel

/-- R103, R104: the sites of the mask that are up are counted, those worn out raise SITE_DOWN lowest first,
and an empty mask counts none. -/
theorem test_sites_indexed :
    let site (st : SiteStatus) (c : Nat) : Site := { status := st, counter := c }
    let s := worn.setHandler { worn.handler with
      sites := [site .up 513022, site .failRun 7, site .up 513022, site .up 1] ++
        List.replicate 4 (site .up 0) }
    let t := after (.unitIndexed 7) s
    (t.handler.sites.take 4 =
      [site .contactLife 513023, site .failRun 7, site .contactLife 513023, site .up 1] ∧
      t.port.events.map (·.event) = [.siteDown 1 .contactLife, .siteDown 3 .contactLife] ∧
      t.port.previous.answer = .done [5#8, 0#8]) ∧
    ((after (.unitIndexed 0) s).handler.sites = s.handler.sites ∧
      (after (.unitIndexed 0) s).port.previous.answer = .done [0#8, 0#8]) := by
  refine ⟨?_, ?_⟩ <;> decide +kernel

theorem sizes_worn : SizesRight (wornSite .up 513021 .bound) :=
  ⟨by decide +kernel, rfl, by decide +kernel, by decide +kernel, (fun a h => nomatch h),
    by decide +kernel⟩

theorem wit_JamsAreLatchedAndReArmed :
    let jammed : State := bound31.setPins { bound31.pins with jamIn := true }
    (bound31.pins.inReset = false ∧ bound31.start.role = .handler ∧ bound31.isLive = true ∧
      bound31.pins.jamIn = false ∧ bound31.handler.jamLatch = false) ∧
    (bound31.setHandler { bound31.handler with jamLatch := true }).handler.jamLatch = true ∧
    (jammed.pins.inReset = false ∧ jammed.isLive = true ∧ jammed.pins.jamIn = true) ∧
    (relation .bound).handler.statusTimer = some 3000 ∧
    (∀ s ∈ [starting 31, jamming (starting 31), jamming (starting 41)],
      s.pins.inReset = false ∧ s.start.station = .start ∧ s.start.role = .handler ∧
      s.port.events.length < 32) ∧
    ((jamming (starting 31)).numberValid = true ∧ imageOutcome noImage ≠ .badCrc ∧
      (jamming (starting 31)).pins.jamIn = true ∧ (jamming (starting 41)).numberValid = false) ∧
    (∀ s ∈ [jamming bound31, bound31, jamming (silent .dupId 31 .handler)],
      s.pins.inReset = false ∧ s.port.abandoned = false ∧ s.start.role = .handler ∧
      (s.isLive = true ∨ s.start.station = .silent ∧ s.start.cause = .dupId)) ∧
    (∀ s ∈ [starting 31, silent .dupId 31 .handler, station 5 .pack],
      s.pins.inReset = false ∧ s.pins.jamIn = false ∧ (jamming s).pins.jamIn = true ∧
      (s.start.station = .start ∨ s.start.station = .silent ∨ s.start.role ≠ .handler)) := by
  refine ⟨?_, ?_, ?_, ?_, ?_, ?_, ?_, ?_⟩ <;> decide +kernel

/-- R101: a JAM assertion latches nothing in START, in SILENT or at another role. -/
theorem test_jam_unheard :
    ∀ s ∈ [starting 31, silent .dupId 31 .handler, station 5 .pack],
      (after .jamAssertion s).handler.jamLatch = false ∧ (after .jamAssertion s).pins.jamIn = true ∧
      (after .jamAssertion s).port.events = s.port.events := by decide +kernel

/-- R101: a JAM input already active is an assertion when LEARNING begins. -/
theorem test_jam_at_start :
    (after (.startEnd noImage) (jamming (starting 31))).handler.jamLatch = true ∧
      (after .restart (jamming bound31)).port.events.map (·.event) = [.jam 0 0] := by decide +kernel

/-! ## The release controller -/

/-- Thirty-two entries: the first two closed at a time, the rest in COLLECTING. -/
def fullPack (closed : List Nat) : State :=
  packWith ((List.range 32).map fun i =>
    { packEntry [none, none, none, none] .collecting with
      lotId := i + 100,
      state := if i < closed.length then .released else .collecting,
      timeClosed := closed[i]? })

/-- A completion with a result, and an entry of the case with two of them. -/
def doneAs (index : Nat) (r : CompletionResult) (reasons : Mask16) : Completion :=
  { done index 14 with result := r, reasons := reasons }

def pair (a b : Completion) : PackEntry := packEntry [some a, some b, none, none] .collecting

/-- R158, R160, R162: the entry closed earliest makes room; the judgment's first failing step; the entry a
disposition frees is judged again. -/
theorem test_judgment :
    let judged (e : PackEntry) : List (PackState × WaitReason) :=
      (judgeEntry e (packWith [e])).pack.entries.map fun x => (x.state, x.waiting)
    ((after (.lotDone (toAll 14) (done 1 14)) (fullPack [700, 600])).pack.entries.any fun e =>
      e.lotId == 101) = false ∧
    judged (pair (doneAs 1 .held 2) (done 2 20)) = [(.collecting, .sublotHeld)] ∧
    judged (pair (doneAs 1 .scrapped 0) (done 2 20)) = [(.scrapped, .none)] ∧
    judged (pair (doneAs 1 .empty 0) (done 2 20)) = [(.collecting, .noUnits)] ∧
    judged (pair { done 1 14 with quantity := 1003 } (done 2 20)) = [(.collecting, .countMismatch)] ∧
    judged (pair { done 1 14 with quantity := 1002 } (done 2 20)) = [(.complete, .none)] ∧
    judged (pair { done 1 14 with good := 1 } (done 2 20)) = [(.collecting, .releaseYield)] := by
  refine ⟨?_, ?_, ?_, ?_, ?_, ?_, ?_⟩ <;> decide +kernel

/-- R163: an ACCEPTED record of T 0 adds nothing to either sum, whatever its G. -/
theorem test_sums :
    let e := pair { doneAs 1 .accepted 0 with tested := 0, good := 5 } (done 2 20)
    sumTested e = 1000 ∧ sumGood e = 973 ∧ sumQuantity e = 2000 := by decide +kernel

/-- R162: a hold that matches a RELEASED entry raises LATE_HOLD, and one that matches none does not. -/
theorem test_late_hold :
    let s := packWith [packEntry [] .released, { packEntry [] .scrapped with lotId := 5 },
      { packEntry [] .released with lotId := 6 }]
    let heard (h : HoldRec) : List Event := (after (.hold (toAll 3) h) s).port.events.map (·.event)
    heard (holdOf 70412 7 .inForce) = [.holdPlaced .lot 70412 7 3, .lateHold 70412 .lot 70412 7] ∧
    heard { holdOf 5 1 .inForce with scope := .product } =
      [.holdPlaced .product 5 1 3, .lateHold 70412 .product 5 1, .lateHold 6 .product 5 1] ∧
    heard (holdOf 5 1 .inForce) = [.holdPlaced .lot 5 1 3] := by
  refine ⟨?_, ?_, ?_⟩ <;> decide +kernel

theorem wit_LotsArePackedAndReleased :
    let half := packWith [packEntry [some (done 1 14), none, none, none] .collecting]
    let full := packEntry [some (done 1 14), some (done 2 20), none, none] .complete
    let heldPack := withHolds [stored 70412 1 .inForce] (packWith [full])
    let later := packWith [{ full with state := .released }]
    let onlyPack (e : PackEntry) (s : State) : Prop :=
      s.pack.entries.filter (fun x => x.lotId == e.lotId) = [e]
    let single : Completion := { done 1 14 with count := 1 }
    let waits (w : WaitReason) (e : PackEntry) : PackEntry := { e with waiting := w }
    (Arrives (toAll 14) (.lotDone (done 1 14)) (packWith []) ∧ (packWith []).start.role = .pack ∧
      (packWith []).isActive = true ∧ (done 1 14).packStation = (packWith []).start.number ∧
      findPack (packWith []) (done 1 14).lotId = none ∧ (packWith []).pack.entries.length < 32 ∧
      2 ≤ (done 1 14).count) ∧
    (Arrives (toAll 14) (.lotDone (done 1 14)) later ∧
      (findPack later 70412).map packClosed = some true) ∧
    (Arrives (toAll 14) (.lotDone (done 1 14)) half ∧
      (findPack half 70412).map (slotAt · 1) = some (some (done 1 14)) ∧
      (findPack half 70412).map packClosed = some false) ∧
    (Arrives (toAll 15) (.lotDone (done 1 15)) half ∧ done 1 14 ≠ done 1 15) ∧
    (PortTakes (.packDone 4294967295 0) (packWith [full]) ∧
      findPack (packWith [full]) 4294967295 = none) ∧
    (PortTakes (.packDone 70412 1946) half ∧
      (findPack half 70412).map (·.state) = some .collecting) ∧
    (PortTakes (.packDone 70412 1946) heldPack ∧ findPack heldPack 70412 = some full ∧
      full.state = .complete ∧ packHeld heldPack full = true) ∧
    (PortTakes (.packDone 70412 1946) (packWith [full]) ∧ findPack (packWith [full]) 70412 = some full ∧
      packHeld (packWith [full]) full = false ∧ 1946 = sumGood full) ∧
    (PortTakes (.packDone 70412 1945) (packWith [full]) ∧ 1945 ≠ sumGood full) ∧
    (Arrives (toAll 14) (.lotDone { done 1 14 with packStation := 3 }) half ∧
      Arrives (toAll 14) (.lotDone single) (packWith []) ∧ single.count = 1 ∧
      single.packStation = (packWith []).start.number) ∧
    (Arrives (toAll 14) (.lotDone (done 1 14)) (fullPack [700, 600]) ∧
      findPack (fullPack [700, 600]) 70412 = none ∧ 32 ≤ (fullPack [700, 600]).pack.entries.length ∧
      (findPack (fullPack [700, 600]) 101).map (fun v => (packClosed v, v.timeClosed)) =
        some (true, some 600) ∧
      ((fullPack [700, 600]).pack.entries.drop 2).all (fun e => !packClosed e) = true ∧
      (fullPack [700, 600]).age 700 < (fullPack [700, 600]).age 600) ∧
    (Arrives (toAll 14) (.lotDone (done 1 14)) (fullPack []) ∧
      ∀ e ∈ (fullPack []).pack.entries, packClosed e = false) ∧
    (let e := packEntry [some (done 1 14), none, none, none] .collecting
     onlyPack e half ∧ sumTested e ≠ 0 ∧ sumGood e ≤ sumTested e ∧
      Arrives (toAll 20) (.lotDone (done 2 20)) half ∧ slotAt e 2 = none ∧
      packClosed e = false ∧ (done 2 20).count = e.count ∧ (done 2 20).product = e.product ∧
      (done 2 20).program = e.program ∧ e.conflict = false ∧
      Arrives (toAll 20) (.lotDone { done 2 20 with product := 6 }) half ∧
      slotAt { e with count := 3 } 3 = none) ∧
    (let h := pair (doneAs 1 .held 2) (done 2 20)
     onlyPack h (packWith [h]) ∧ packHeld (packWith [h]) h = false ∧
      packHeld (withHolds [stored 70412 1 .inForce] (packWith [h])) h = true ∧
      (doneAs 1 .held 2).reasons &&& reasonBit .binLimit = 0#16) ∧
    (sumTested (pair (doneAs 1 .accepted 0) { doneAs 2 .accepted 0 with tested := 0 }) ≠ 0 ∧
      sumTested (pair { doneAs 1 .accepted 0 with tested := 0 }
        { doneAs 2 .accepted 0 with tested := 0 }) = 0) ∧
    (let w := waits .countMismatch (pair (done 1 14) (done 2 20))
     let before := withHolds [stored 70412 1 .inForce] (packWith [w])
     let s := packWith [w]
     s.isLive = true ∧ s.start.role = .pack ∧ packHeld before w = true ∧ packHeld s w = false ∧
      w.state = .collecting ∧ w.waiting ≠ .none ∧ w.conflict = false ∧
      (waits .packCount full).state = .complete ∧ w.lotId ∈ resumed .lot 70412 .resume s) ∧
    (let h := holdOf 70412 7 .inForce
     Arrives (toAll 3) (.hold h) later ∧ later.start.role = .pack ∧ later.isLive = true ∧
      findHold later.holds .lot 70412 = none ∧ later.holds.records.length < 24 ∧
      (∀ e ∈ later.pack.entries, packClosed e = true) ∧
      later.port.events.length + later.pack.entries.length < 32) ∧
    sumTested (packEntry [] .collecting) = 0 := by
  refine ⟨?_, ?_, ?_, ?_, ?_, ?_, ?_, ?_, ?_, ?_, ?_, ?_, ?_, ?_, ?_, ?_, ?_, ?_⟩ <;> decide +kernel

theorem sizes_packs : SizesRight (packWith [packEntry [some (done 1 14), none, none, none] .collecting]) :=
  ⟨by decide +kernel, rfl, by decide +kernel, by decide +kernel, (fun a h => nomatch h),
    by decide +kernel⟩

/-! ## The station port -/

theorem wit_ReadsChangeNothing :
    let rel := packWith [{ packEntry [] .released with release := some releaseRec }]
    PortTakes .nop (silent .badNumber 5 .pack) ∧ PortTakes (.readStatus 1) (starting 31) ∧
    PortTakes (.readHold 23 1) busy ∧ PortTakes (.readStage 63) (stageWith []) ∧
    PortTakes (.readLot 6) busy ∧ PortTakes (.readQueue 3 1) busy ∧ PortTakes (.readSighting 31) busy ∧
    PortTakes (.readSite 8) busy ∧ PortTakes (.readOutbox 7 1) busy ∧
    PortTakes (.readHandler 10) bound31 ∧ PortTakes (.readPack 31 4) (packWith []) ∧
    (PortTakes (.readRelease 70412 1) rel ∧ (findPack rel 70412).map (·.state) = some .released ∧
      (findPack rel 70412).map (·.release) = some (some releaseRec)) ∧
    (PortTakes (.readRelease 1 0) rel ∧ findPack rel 1 = none) ∧
    (let open_ := packWith [packEntry [] .collecting]
     PortTakes (.readRelease 70412 0) open_ ∧ (findPack open_ 70412).map (·.state) = some .collecting) ∧
    (∀ r ∈ [Reservation.none, .collecting 12 125 [cand 32] (some 1200),
        .reserving 12 125 32 [cand 32] (some 2000), .reserved 32 fit31 (some 9000)],
      (reserving r).start.role = .cell ∧ (reserving r).cell.reservation = r) ∧
    (bound31.start.role = .handler ∧ (stageWith []).start.role = .stage ∧ rel.start.role = .pack) ∧
    (let claims := [claimOf 16 9, claimOf 15 9]
     waitingEntry.claims = [] ∧ (contestOf claims).claims = claims ∧ claimOf 15 9 ∈ claims ∧
      ∀ x ∈ claims, x = claimOf 15 9 ∨ x.score < 9 ∨ x.score = 9 ∧ 15 < x.cell) ∧
    ((sighting .seen false).state = .seen ∧ (sighting (.pending 224 900) false).state = .pending 224 900) ∧
    (caseLot.bins.length = 16 ∧ caseLot.sites[7]? = some (tally 0 0)) ∧
    (4 ≤ bound31.start.config.siteCount ∧ bound31.start.config.siteCount < 5) ∧
    (packEntry [some (done 1 14), none, none, none] .collecting).slots =
      [some (done 1 14), none, none, none] := by
  refine ⟨?_, ?_, ?_, ?_, ?_, ?_, ?_, ?_, ?_, ?_, ?_, ?_, ?_, ?_, ?_, ?_, ?_, ?_, ?_, ?_, ?_⟩ <;>
    decide +kernel

/-- R175, R116, R35, R157: the bytes of four reads, by hand from the fields. -/
theorem test_read_bytes :
    let answer (c : Instr) (s : State) : Answer := (after c s).port.previous.answer
    answer (.readStatus 1) (reserving (.reserved 31 fit31 (some 61001))) =
      .done [0, 0, 0, 0, 0, 0, 0, 0, 0, 3, 31, 2, 0] ∧
    answer (.readLot 1) (cellWith (some caseLot) 3) =
      .done [0, 3, 232, 0, 3, 175, 0, 0, 0, 0, 0, 0, 0, 0, 0] ∧
    answer (.readStage 0) (stageWith [contestOf [claimOf 16 9, claimOf 15 9]]) =
      .done [1, 0, 1, 19, 12, 1, 5, 1, 0, 2, 15, 9, 0, 0, 0] ∧
    answer (.readPack 0 2) (packWith [packEntry [some (done 1 14), none, none, none] .collecting]) =
      .done [] := by
  refine ⟨?_, ?_, ?_, ?_⟩ <;> decide +kernel

theorem wit_EventsLatchesAndWatches :
    let s := station 5 .pack
    let one : State := s.setPort { s.port with events := [{ event := .dupId, time := 7 }] }
    (PortTakes .readEvent one ∧ one.port.events = { event := .dupId, time := 7 } :: []) ∧
    (PortTakes .readEvent s ∧ s.port.events = []) ∧ PortTakes .readDiagnostics (starting 31) ∧
    PortTakes (.readPeer 40 0) s ∧ PortTakes (.readPeer 1 1) s ∧
    PortTakes (.armWatch 3 .group 31) s ∧ PortTakes (.disarmWatch 0) s := by
  refine ⟨?_, ?_, ?_, ?_, ?_, ?_, ?_⟩ <;> decide +kernel

/-- Transactions of a known code whose enumerated field has no code: a scope of 4 in PLACE HOLD, a
disposition of 4 in DISPOSITION, and a scope of 255 in ARM WATCH. -/
def sealed (bs : List Byte) : List Byte :=
  let body := bs ++ List.replicate (19 - bs.length) 0
  body ++ [crc8 body]

def rawPlace : List Byte := sealed [7, 4, 0, 0, 0, 9]
def rawDisposition : List Byte := sealed [8, 0, 0, 0, 1, 244, 0, 1, 4]
def rawWatch : List Byte := sealed [9, 0, 255, 0, 0, 0, 9]

theorem wit_TransactionsAreQualified :
    let s := station 5 .pack
    let bytes := commandBytes (.readPeer 40 1)
    (s.pins.inReset = false ∧ s.port.selected = false) ∧
    8 * bytes.length + 1 ≠ 160 ∧
    (let bad := (0x06#8 : Byte) :: bytes.drop 1
     bad.length = 20 ∧ crc8 (bad.take 19) ≠ bad.getD 19 0) ∧
    (let other := commandBytes .undock
     other.length = 20 ∧ crc8 (other.take 19) = other.getD 19 0 ∧
      codeOk s (other.headD 0).toNat = false) ∧
    (codeOk s (commandCode (.readPeer 41 0)) = true ∧ commandOk s (.readPeer 41 0) = false) ∧
    (codeOk (starting 31) (commandCode (.readPeer 40 0)) = true ∧
      commandOk (starting 31) (.readPeer 40 0) = true ∧
      available (starting 31) (availability (.readPeer 40 0)) = false) ∧
    (let gone : State := s.setPort { s.port with abandoned := true, selected := true }
     gone.pins.inReset = false ∧ gone.port.abandoned = true ∧ gone.port.selected = true) ∧
    (s.pins.inReset = false ∧ s.port.abandoned = false ∧ PortTakes (.readPeer 40 1) s ∧
      s.start.role ≠ .cell ∧ ¬(1 ≤ 41 ∧ 41 ≤ 40)) ∧
    (let young := learning (station 14 .cell)
     young.pins.inReset = false ∧ young.port.abandoned = false ∧ young.start.role = .cell ∧
      (1 ≤ 40 ∧ 40 ≤ 40) ∧ young.start.station ≠ .active ∧ (starting 31).start.station = .start ∧
      PortTakes (.limitClear 5) young ∧ PortTakes .restart (silent .dupId 14 .cell) ∧
      ¬PortTakes .restart (silent .badNumber 14 .cell)) ∧
    (∀ bs ∈ [rawPlace, rawDisposition, rawWatch],
      bs.length = 20 ∧ crc8 (bs.take 19) = bs.getD 19 0 ∧ codeOk s (bs.headD 0).toNat = true) ∧
    ((rawPlace.getD 1 0 = 4 ∧ rawPlace.getD 0 0 = 7) ∧
      (rawDisposition.getD 1 0 = 0 ∧ rawDisposition.getD 8 0 = 4 ∧ rawDisposition.getD 0 0 = 8) ∧
      rawWatch.getD 2 0 = 255 ∧ rawWatch.getD 0 0 = 9) := by
  refine ⟨?_, ?_, ?_, ?_, ?_, ?_, ?_, ?_, ?_, ?_, ?_⟩ <;> decide +kernel

/-- R171, R172, R174: a code of another role, an operand out of its range, a state that does not take the
command, and an enumerated field with no code; and CS_ASSERT of a selected port presents nothing new. -/
theorem test_qualification :
    let answer (c : Instr) (s : State) : Answer := (after c s).port.previous.answer
    let raw (bs : List Byte) : Instr := .unknownTransaction { bytes := bs, extraEdges := 0 }
    let p := station 5 .pack
    [answer .undock p, answer (.readPeer 41 0) p, answer (.dock 40) (learning (station 14 .cell)),
      answer (.limitClear 5) (learning (station 14 .cell)), answer .restart (silent .badNumber 5 .pack),
      answer (raw rawPlace) p, answer (raw rawDisposition) p, answer (raw rawWatch) p] =
      [.error .code, .error .content, .refused .state, .refused .unknown, .refused .state, .error .content,
        .error .content, .error .content] ∧
    (let s := after .csAssert (after .nop p)
     after .csAssert s = s ∧ s.port.shiftOut = [1, 1] ++ List.replicate 17 0 ++ [crc8 ([1, 1] ++
       List.replicate 17 0)]) := by
  refine ⟨?_, ?_⟩ <;> decide +kernel

end Sys2Proof.Tests
end

section
/-! PROOFS. The staging table: LOT ISSUED (R37). One equation for each thing LOT ISSUED can find at the
lot's entry, and the command of the station port that runs it. -/
namespace Sys2Proof.Machine

/-! ## What LOT ISSUED answers (R37) -/

/-- A lot with no entry. -/
theorem lotIssued_of_absent {s : State} {lot ix : Nat} (cell : Nat) (h : findEntry s lot ix = none) :
    lotIssued lot ix cell s = (s, .refused .unknown) := by
  simp [lotIssued, h]

/-- An entry CLAIMED by the cell given. -/
theorem lotIssued_of_claimed {s : State} {lot ix cell : Nat} {e : StageEntry}
    (found : findEntry s lot ix = some e) (claimed : e.state = .claimed cell) :
    lotIssued lot ix cell s =
      (updateEntry lot ix (fun x => { x with state := .issued cell }) s, .done []) := by
  simp [lotIssued, found, claimed]

/-- An entry CLAIMED by another cell than the one given. -/
theorem lotIssued_of_claimed_ne {s : State} {lot ix cell c : Nat} {e : StageEntry}
    (found : findEntry s lot ix = some e) (claimed : e.state = .claimed c) (other : c ≠ cell) :
    lotIssued lot ix cell s = (s, .refused .wrongCell) := by
  simp [lotIssued, found, claimed, other]

/-- An entry in a state other than CLAIMED. -/
theorem lotIssued_of_not_claimed {s : State} {lot ix : Nat} {e : StageEntry} (cell : Nat)
    (found : findEntry s lot ix = some e) (unclaimed : ∀ c, e.state ≠ .claimed c) :
    lotIssued lot ix cell s = (s, .refused .state) := by
  cases state : e.state with
  | claimed c => exact absurd state (unclaimed c)
  | waiting | contest | granted | issued => simp [lotIssued, found, state]

/-! ## The command -/

/-- A LOT ISSUED that is taken runs `lotIssued`, and its answer becomes the previous outcome under code
0x21 (R37, R170). -/
theorem exec_lotIssued_of_takes {lot ix cell : Nat} {s u : State} {a : Answer}
    (takes : PortTakes (.lotIssued lot ix cell) s) (run : lotIssued lot ix cell s = (u, a)) :
    exec (.lotIssued lot ix cell) s = .next (settle s (setOutcome a 0x21 u)) := by
  have runs : runCommand (.lotIssued lot ix cell) s = (u, a) := run
  calc exec (.lotIssued lot ix cell) s
      = .next (event (transact (.lotIssued lot ix cell)) s) := rfl
    _ = .next (settle s (setOutcome a 0x21 u)) := by rw [takes_runs takes, runs]; rfl

/-- Settles O42, by what LOT ISSUED finds: no entry, an entry CLAIMED by the cell given, one CLAIMED by
another cell, or one in any other state. -/
theorem lotIssuedTakesAClaimedEntry : Obligations.LotIssuedTakesAClaimedEntry := by
  intro lot ix cell s takes
  refine ⟨fun absent => ?unknown, fun e found => ⟨fun claimed => ?issued,
    fun c claimed other => ?wrongCell, fun unclaimed => ?state⟩⟩
  case unknown => exact exec_lotIssued_of_takes takes (lotIssued_of_absent cell absent)
  case issued => exact exec_lotIssued_of_takes takes (lotIssued_of_claimed found claimed)
  case wrongCell => exact exec_lotIssued_of_takes takes (lotIssued_of_claimed_ne found claimed other)
  case state => exact exec_lotIssued_of_takes takes (lotIssued_of_not_claimed cell found unclaimed)

end Sys2Proof.Machine
end

section
/-! PROOFS. The hold table: the order of generations and their successor (R139). `genNewer` works on
natural numbers, with 65536 added so that the subtraction does not stop at 0; the first lemma ties that to
R139's (a − b) mod 65536, and the rest goes through it. -/
namespace Sys2Proof.Machine

theorem within_iff {lo hi n : Nat} : within lo hi n = true ↔ lo ≤ n ∧ n ≤ hi := by
  simp [within]

/-! ## The order -/

/-- The distance that `genNewer` computes is R139's residue in 0–65535. -/
theorem genDistance_cast (a b : Nat) :
    (((a + (65536 - b % 65536)) % 65536 : Nat) : Int) = ((a : Int) - b) % 65536 := by
  omega

/-- R139, for generations of any size. -/
theorem genNewer_iff (a b : Nat) :
    genNewer a b = true ↔ 1 ≤ ((a : Int) - b) % 65536 ∧ ((a : Int) - b) % 65536 ≤ 32767 := by
  rw [genNewer, within_iff, ← genDistance_cast]
  omega

/-- Half the circle apart is too far to be newer. -/
theorem genNewer_eq_false_of_half {a b : Nat} (half : ((a : Int) - b) % 65536 = 32768) :
    genNewer a b = false := by
  rw [← Bool.not_eq_true, genNewer_iff]
  omega

/-- Half the circle is as far in the other direction. -/
theorem half_symm {a b : Int} (half : (a - b) % 65536 = 32768) : (b - a) % 65536 = 32768 := by
  omega

/-! ## The successor -/

theorem genSucc_of_lt {g : Nat} (below : g < 65535) : genSucc g = g + 1 :=
  if_neg below.ne

theorem genSucc_last : genSucc 65535 = 1 := if_pos rfl

/-- A successor lies 1 ahead, and 2 ahead where it skips generation 0. -/
theorem genNewer_genSucc {g : Nat} (bounded : g ≤ 65535) : genNewer (genSucc g) g = true := by
  rw [genNewer_iff]
  obtain below | rfl := bounded.lt_or_eq
  · have ahead : ((genSucc g : Nat) - g : Int) % 65536 = 1 := by rw [genSucc_of_lt below]; omega
    omega
  · have ahead : ((genSucc 65535 : Nat) - (65535 : Nat) : Int) % 65536 = 2 := by rw [genSucc_last]; rfl
    omega

/-- Settles O32, from R139's residue: two generations half the circle apart lie as far apart in either
direction, and a successor lies 1 or 2 ahead. -/
theorem generationsAreOrderedWithWrap : Obligations.GenerationsAreOrderedWithWrap :=
  ⟨fun a b _ _ => genNewer_iff a b,
    fun _ _ _ _ half => ⟨genNewer_eq_false_of_half half, genNewer_eq_false_of_half (half_symm half)⟩,
    fun _ below => genSucc_of_lt below, genSucc_last, fun _ _ bounded => genNewer_genSucc bounded⟩

end Sys2Proof.Machine
end

section
/-! PROOFS. What an operation keeps: the promises of Safe that are invariants, block by block, and the
relation `Keeps` between the states before and after an operation. Each operation of the model is shown once to
keep them all; the step invariants are read off at the end. -/
namespace Sys2Proof.Machine

/-! ## The promises, block by block -/

/-- The part of LinkRight that the link alone says. -/
def Link.Sound (l : Link) : Prop :=
  (l.tx = .off → l.queue = []) ∧ (l.tx = .empty → l.queue = []) ∧
    (l.tx = .waiting ∨ l.tx = .sending ∨ l.tx = .disturbing → l.queue ≠ [])

/-- A change of the link that keeps the transmitter true to the station state and the queue. -/
structure LinkKept (l m : Link) : Prop where
  off : m.tx = .off ↔ l.tx = .off
  sound : l.Sound → m.Sound
  size : l.queue.length ≤ Config.queueSize → m.queue.length ≤ Config.queueSize

/-- HoldsRight, of the hold table. -/
def HoldTable.Right (h : HoldTable) : Prop :=
  h.records.Pairwise (fun a b => keyBefore a b = true) ∧ h.records.length ≤ Config.holdSize ∧
    h.digest = digestOf h.records

/-- BalanceRight, of the active lot. -/
def ActiveLot.Balanced (a : ActiveLot) : Prop := a.bins.length = 16 ∧ binSum a.bins + a.pool = a.tested

/-- CellQueueRight, of the cell. -/
def Cell.Apart (c : Cell) : Prop :=
  c.queue.length + claimsPending c ≤ Config.cellQueueSize ∧
    c.queue.Pairwise (fun a b => ¬ sameLot a.lot b.lot) ∧
    c.sightings.Pairwise (fun a b => ¬ sameLot a.lot b.lot) ∧
    ∀ a, c.active = some a → ∀ q ∈ c.queue, ¬ sameLot a.lot q.lot

/-- A change of the cell that keeps what is promised of it. -/
structure CellKept (c d : Cell) : Prop where
  balance : (∀ a, c.active = some a → a.Balanced) → ∀ a, d.active = some a → a.Balanced
  tallies : (∀ a, c.active = some a → a.sites.length = 8) → ∀ a, d.active = some a → a.sites.length = 8
  apart : c.Apart → d.Apart
  sightings : c.sightings.length ≤ Config.sightingSize → d.sightings.length ≤ Config.sightingSize
  outbox : c.outbox.length ≤ Config.outboxSize → d.outbox.length ≤ Config.outboxSize
  marks : c.marks.length = 8 → d.marks.length = 8
  candidates : candidateCount c.reservation ≤ Config.candidateSize →
    candidateCount d.reservation ≤ Config.candidateSize

/-- RelationRight, of the handler. -/
def Handler.Right (h : Handler) : Prop :=
  (h.rel ≠ .bound → h.permit = Permit.idle) ∧ (h.rel = .free → h.cell = 0)

/-- A change of the handler that keeps what is promised of it. -/
structure HandlerKept (h k : Handler) : Prop where
  relation : h.Right → k.Right
  sites : h.sites.length = 8 → k.sites.length = 8

/-- The claim list and the exclusion list of a staging entry are within their sizes. -/
def StageEntry.Small (e : StageEntry) : Prop :=
  e.claims.length ≤ Config.claimSize ∧ e.excluded.length ≤ Config.exclusionSize

/-- A change of the staging table that keeps what is promised of it. -/
structure StageKept (g k : Stage) : Prop where
  size : g.entries.length ≤ Config.stageSize → k.entries.length ≤ Config.stageSize
  small : (∀ e ∈ g.entries, e.Small) → ∀ e ∈ k.entries, e.Small

/-- A change of the pack table that keeps what is promised of it. -/
structure PackKept (p q : Pack) : Prop where
  size : p.entries.length ≤ Config.packSize → q.entries.length ≤ Config.packSize
  slots : (∀ e ∈ p.entries, e.slots.length = 4) → ∀ e ∈ q.entries, e.slots.length = 4

/-- A change of the station port that keeps what is promised of it. -/
structure PortKept (p q : Port) : Prop where
  events : p.events.length ≤ Config.eventSize → q.events.length ≤ Config.eventSize
  watches : p.watches.length = 4 → q.watches.length = 4

/-- The second state is the first after operations that leave the station state and the settings as they
are and keep what is promised of every block. -/
structure Keeps (s t : State) : Prop where
  start : t.start = s.start
  link : LinkKept s.link t.link
  peers : s.peers.table.length = 40 → t.peers.table.length = 40
  holds : s.holds.Right → t.holds.Right
  limits : s.limits.products.length ≤ Config.productSize → t.limits.products.length ≤ Config.productSize
  stage : StageKept s.stage t.stage
  cell : CellKept s.cell t.cell
  handler : HandlerKept s.handler t.handler
  pack : PackKept s.pack t.pack
  port : PortKept s.port t.port

@[refl] theorem LinkKept.refl (l : Link) : LinkKept l l := ⟨.rfl, id, id⟩
@[refl] theorem CellKept.refl (c : Cell) : CellKept c c := ⟨id, id, id, id, id, id, id⟩
@[refl] theorem HandlerKept.refl (h : Handler) : HandlerKept h h := ⟨id, id⟩
@[refl] theorem StageKept.refl (g : Stage) : StageKept g g := ⟨id, id⟩
@[refl] theorem PackKept.refl (p : Pack) : PackKept p p := ⟨id, id⟩
@[refl] theorem PortKept.refl (p : Port) : PortKept p p := ⟨id, id⟩

theorem LinkKept.trans {a b c : Link} (h : LinkKept a b) (k : LinkKept b c) : LinkKept a c :=
  ⟨k.off.trans h.off, k.sound ∘ h.sound, k.size ∘ h.size⟩
theorem CellKept.trans {a b c : Cell} (h : CellKept a b) (k : CellKept b c) : CellKept a c :=
  ⟨k.balance ∘ h.balance, k.tallies ∘ h.tallies, k.apart ∘ h.apart, k.sightings ∘ h.sightings,
    k.outbox ∘ h.outbox, k.marks ∘ h.marks, k.candidates ∘ h.candidates⟩
theorem HandlerKept.trans {a b c : Handler} (h : HandlerKept a b) (k : HandlerKept b c) :
    HandlerKept a c := ⟨k.relation ∘ h.relation, k.sites ∘ h.sites⟩
theorem StageKept.trans {a b c : Stage} (h : StageKept a b) (k : StageKept b c) : StageKept a c :=
  ⟨k.size ∘ h.size, k.small ∘ h.small⟩
theorem PackKept.trans {a b c : Pack} (h : PackKept a b) (k : PackKept b c) : PackKept a c :=
  ⟨k.size ∘ h.size, k.slots ∘ h.slots⟩
theorem PortKept.trans {a b c : Port} (h : PortKept a b) (k : PortKept b c) : PortKept a c :=
  ⟨k.events ∘ h.events, k.watches ∘ h.watches⟩

@[refl] theorem Keeps.refl (s : State) : Keeps s s :=
  ⟨rfl, .refl _, id, id, id, .refl _, .refl _, .refl _, .refl _, .refl _⟩

theorem Keeps.trans {s t u : State} (h : Keeps s t) (k : Keeps t u) : Keeps s u where
  start := k.start.trans h.start
  link := h.link.trans k.link
  peers := k.peers ∘ h.peers
  holds := k.holds ∘ h.holds
  limits := k.limits ∘ h.limits
  stage := h.stage.trans k.stage
  cell := h.cell.trans k.cell
  handler := h.handler.trans k.handler
  pack := h.pack.trans k.pack
  port := h.port.trans k.port

/-! ## One block changed -/

section
variable {s t : State}

theorem keeps_setPins (h : Keeps s t) (p : Pins) : Keeps s (t.setPins p) := { h with }
theorem keeps_setPending (h : Keeps s t) (c : List Instr) : Keeps s (t.setPending c) := { h with }
theorem keeps_setNow (h : Keeps s t) (n : Nat) : Keeps s (t.setNow n) := { h with }
theorem keeps_setLink {l : Link} (h : Keeps s t) (k : LinkKept t.link l) : Keeps s (t.setLink l) :=
  { h with link := h.link.trans k }
theorem keeps_setPeers {p : PeerDir} (h : Keeps s t) (k : p.table.length = t.peers.table.length) :
    Keeps s (t.setPeers p) := { h with peers := fun full => k.trans (h.peers full) }
theorem keeps_setHolds {x : HoldTable} (h : Keeps s t) (k : t.holds.Right → x.Right) :
    Keeps s (t.setHolds x) := { h with holds := k ∘ h.holds }
theorem keeps_setLimits {x : LimitTable} (h : Keeps s t)
    (k : t.limits.products.length ≤ Config.productSize → x.products.length ≤ Config.productSize) :
    Keeps s (t.setLimits x) := { h with limits := k ∘ h.limits }
theorem keeps_setStage {x : Stage} (h : Keeps s t) (k : StageKept t.stage x) : Keeps s (t.setStage x) :=
  { h with stage := h.stage.trans k }
theorem keeps_setCell {x : Cell} (h : Keeps s t) (k : CellKept t.cell x) : Keeps s (t.setCell x) :=
  { h with cell := h.cell.trans k }
theorem keeps_setHandler {x : Handler} (h : Keeps s t) (k : HandlerKept t.handler x) :
    Keeps s (t.setHandler x) := { h with handler := h.handler.trans k }
theorem keeps_setPack {x : Pack} (h : Keeps s t) (k : PackKept t.pack x) : Keeps s (t.setPack x) :=
  { h with pack := h.pack.trans k }
theorem keeps_setPort {x : Port} (h : Keeps s t) (k : PortKept t.port x) : Keeps s (t.setPort x) :=
  { h with port := h.port.trans k }

theorem keeps_foldl {α : Type} {f : State → α → State} (l : List α) (h : Keeps s t)
    (k : ∀ u x, x ∈ l → Keeps s u → Keeps s (f u x)) : Keeps s (l.foldl f t) := by
  induction l generalizing t with
  | nil => exact h
  | cons x xs ih =>
    exact ih (k t x List.mem_cons_self h) fun u y hy => k u y (List.mem_cons_of_mem _ hy)

theorem keeps_ite {c : Prop} [Decidable c] {u v : State} (h : c → Keeps s u) (k : ¬c → Keeps s v) :
    Keeps s (if c then u else v) := by
  split
  · exact h ‹_›
  · exact k ‹_›

/-! ## Events and frames -/

theorem keeps_raise {e : Event} (h : Keeps s t) : Keeps s (raise e t) := by
  rcases raise_cases e t with ⟨room, eq⟩ | ⟨_, eq⟩ <;> rw [eq]
  · exact keeps_setPort h ⟨fun _ => by simpa [Config.eventSize] using room, id⟩
  · exact keeps_setPort h ⟨id, id⟩

/-- Posting never turns the transmitter on or off. -/
theorem TxState.afterPost_off {x : TxState} : x.afterPost = .off ↔ x = .off := by cases x <;> simp [afterPost]

theorem TxState.afterPost_ne_empty (x : TxState) : x.afterPost ≠ .empty := by cases x <;> simp [afterPost]

theorem keeps_post {a : Address} {p : Payload} (h : Keeps s t) : Keeps s (post a p t) := by
  rcases post_cases a p t with ⟨_, eq⟩ | ⟨on, room, eq⟩ | ⟨_, _, eq⟩ <;> rw [eq]
  · exact h
  · refine keeps_setLink h ⟨TxState.afterPost_off, fun _ => ⟨fun off => ?_, fun idle => ?_, by simp⟩, ?_⟩
    · exact absurd (TxState.afterPost_off.1 off) on
    · exact absurd idle (TxState.afterPost_ne_empty _)
    · simp only [List.length_append, List.length_singleton, Config.queueSize]; omega
  · exact keeps_setLink h ⟨.rfl, id, id⟩

theorem keeps_sendTo {n : Nat} {p : Payload} (h : Keeps s t) : Keeps s (sendTo n p t) := keeps_post h
theorem keeps_sendAll {p : Payload} (h : Keeps s t) : Keeps s (sendAll p t) := keeps_post h
theorem keeps_sendZone {z : Nat} {p : Payload} (h : Keeps s t) : Keeps s (sendZone z p t) := keeps_post h

/-- A BEACON replaced in place leaves the number of frames. -/
theorem length_replaceBeacon {f : QFrame} {l m : List QFrame} (h : replaceBeacon f l = some m) :
    m.length = l.length := by
  induction l generalizing m with
  | nil => cases h
  | cons q qs ih =>
    simp only [replaceBeacon] at h
    split at h
    · cases h; rfl
    · obtain ⟨k, hk, rfl⟩ := Option.map_eq_some_iff.1 h
      simp [ih hk]

theorem length_replacedBeacon {l : Link} {f : QFrame} {m : List QFrame} (h : l.replacedBeacon f = some m) :
    m.length = l.queue.length := by
  unfold Link.replacedBeacon at h
  split at h
  · cases h
  · next q qs eq =>
    rw [eq]
    split at h
    · obtain ⟨k, hk, rfl⟩ := Option.map_eq_some_iff.1 h
      simp [length_replaceBeacon hk]
    · exact length_replaceBeacon h

/-- A queue of the same length keeps the link sound. -/
theorem LinkKept.of_length {l : Link} {q : List QFrame} (h : q.length = l.queue.length) :
    LinkKept l { l with queue := q } := by
  have empty : q = [] ↔ l.queue = [] := by rw [← List.length_eq_zero_iff, h, List.length_eq_zero_iff]
  exact ⟨.rfl, fun ⟨off, idle, head⟩ => ⟨empty.2 ∘ off, empty.2 ∘ idle, fun tx => mt empty.1 (head tx)⟩,
    fun size => h ▸ size⟩

theorem keeps_postBeacon {b : BeaconBody} (h : Keeps s t) : Keeps s (postBeacon b t) := by
  unfold postBeacon
  dsimp only
  split
  · exact keeps_setLink h (.of_length (length_replacedBeacon ‹_›))
  · exact keeps_sendAll h

end

end Sys2Proof.Machine
end

section
/-! PROOFS. What the operations of the hold table keep (R138 to R145, R150 to R153): the list stays sorted with
one record for a key, within its size and with its digest. -/
namespace Sys2Proof.Machine

/-! ## The order of the list (R138) -/

theorem keyBefore_iff {a b : StoredHold} : keyBefore a b = true ↔
    scopeCode a.hold.scope < scopeCode b.hold.scope ∨
      (a.hold.scope = b.hold.scope ∧ a.hold.key < b.hold.key) := by
  simp [keyBefore]

theorem scopeCode_injective {a b : Scope} (h : scopeCode a = scopeCode b) : a = b := by
  cases a <;> cases b <;> simp_all [scopeCode]

theorem sameKey_iff {a b : HoldRec} : sameKey a b = true ↔ a.scope = b.scope ∧ a.key = b.key := by
  simp [sameKey]

theorem sameKey_comm (a b : HoldRec) : sameKey a b = sameKey b a := by
  rw [Bool.eq_iff_iff, sameKey_iff, sameKey_iff, eq_comm, @eq_comm _ a.key]

theorem keyBefore_trans {a b c : StoredHold} (h : keyBefore a b = true) (k : keyBefore b c = true) :
    keyBefore a c = true := by
  rw [keyBefore_iff] at *
  rcases h with h | ⟨h1, h2⟩ <;> rcases k with k | ⟨k1, k2⟩
  · exact .inl (h.trans k)
  · exact .inl (k1 ▸ h)
  · exact .inl (h1 ▸ k)
  · exact .inr ⟨h1.trans k1, h2.trans k2⟩

/-- Of two records with different keys one comes before the other. -/
theorem keyBefore_of_not {a b : StoredHold} (other : sameKey a.hold b.hold = false)
    (h : keyBefore a b = false) : keyBefore b a = true := by
  rw [← Bool.not_eq_true] at other h
  rw [keyBefore_iff] at *
  rw [sameKey_iff] at other
  rcases lt_trichotomy (scopeCode a.hold.scope) (scopeCode b.hold.scope) with lt | eq | gt
  · exact absurd (.inl lt) h
  · have scope := scopeCode_injective eq
    have key : a.hold.key ≠ b.hold.key := fun key => other ⟨scope, key⟩
    have notLess : ¬ a.hold.key < b.hold.key := fun lt => h (.inr ⟨scope, lt⟩)
    exact .inr ⟨scope.symm, by omega⟩
  · exact .inl gt

/-- The order reads the scope and the key alone. -/
theorem keyBefore_congr {a b c d : StoredHold} (h : sameKey a.hold c.hold = true)
    (k : sameKey b.hold d.hold = true) : keyBefore a b = keyBefore c d := by
  obtain ⟨hs, hk⟩ := sameKey_iff.1 h
  obtain ⟨ks, kk⟩ := sameKey_iff.1 k
  simp [keyBefore, hs, hk, ks, kk]

/-- A new key inserted into a sorted list. -/
theorem pairwise_insertBy {r : StoredHold} {rs : List StoredHold}
    (sorted : rs.Pairwise (fun a b => keyBefore a b = true))
    (fresh : ∀ x ∈ rs, sameKey x.hold r.hold = false) :
    (insertBy keyBefore r rs).Pairwise (fun a b => keyBefore a b = true) := by
  induction rs with
  | nil => simp [insertBy]
  | cons x xs ih =>
    obtain ⟨first, rest⟩ := List.pairwise_cons.1 sorted
    simp only [insertBy]
    split
    · next before =>
      refine List.pairwise_cons.2 ⟨fun y hy => ?_, sorted⟩
      rcases List.mem_cons.1 hy with rfl | hy
      · exact before
      · exact keyBefore_trans before (first y hy)
    · next notBefore =>
      have fresh' := fresh x List.mem_cons_self
      refine List.pairwise_cons.2 ⟨fun y hy => ?_, ih rest fun y hy => fresh y (List.mem_cons_of_mem _ hy)⟩
      rcases (mem_insertBy _ _ _ _).1 hy with rfl | hy
      · exact keyBefore_of_not (sameKey_comm _ _ ▸ fresh') (by simpa using notBefore)
      · exact first y hy

/-! ## The records of a key -/

theorem findHold_eq_none {h : HoldTable} {sc : Scope} {key : Nat} : findHold h sc key = none ↔
    ∀ x ∈ h.records, ¬ (x.hold.scope = sc ∧ x.hold.key = key) := by
  simp [findHold]

theorem findHold_eq_some {h : HoldTable} {sc : Scope} {key : Nat} {r : StoredHold}
    (found : findHold h sc key = some r) :
    r ∈ h.records ∧ r.hold.scope = sc ∧ r.hold.key = key := by
  have holds := List.find?_some found
  simp only [Bool.and_eq_true, beq_iff_eq] at holds
  exact ⟨List.mem_of_find?_eq_some found, holds⟩

@[simp] theorem length_replaceRecord (r : StoredHold) (rs : List StoredHold) :
    (replaceRecord r rs).length = rs.length := by simp [replaceRecord]

/-- A record in the place of the one of its own key keeps the order. -/
theorem pairwise_replaceRecord {r : StoredHold} {rs : List StoredHold}
    (sorted : rs.Pairwise (fun a b => keyBefore a b = true)) :
    (replaceRecord r rs).Pairwise (fun a b => keyBefore a b = true) := by
  have same (x : StoredHold) :
      sameKey (if sameKey x.hold r.hold = true then r else x).hold x.hold = true := by
    split
    · next h => rw [sameKey_iff] at *; exact ⟨h.1.symm, h.2.symm⟩
    · simp [sameKey]
  refine List.pairwise_map.2 (sorted.imp fun {a b} before => ?_)
  rwa [keyBefore_congr (same a) (same b)]

/-- The record an eviction takes is one of the list. -/
theorem mem_of_evictable {s : State} {v : StoredHold} (h : evictable s = some v) :
    v ∈ s.holds.records ∧ v.hold.state = .cleared := by
  have member := mem_of_bestBy _ h
  simpa using member

/-- A filter that leaves out a member makes the list shorter. -/
theorem length_filter_lt {α : Type} {p : α → Bool} {l : List α} {x : α} (mem : x ∈ l)
    (out : p x = false) : (l.filter p).length < l.length :=
  List.length_filter_lt_length_iff_exists.2 ⟨x, mem, by simp [out]⟩

section
variable {s t : State}

theorem keeps_setRecords {rs : List StoredHold} (h : Keeps s t)
    (k : t.holds.Right → rs.Pairwise (fun a b => keyBefore a b = true) ∧ rs.length ≤ Config.holdSize) :
    Keeps s (setRecords rs t) :=
  keeps_setHolds h fun right => ⟨(k right).1, (k right).2, rfl⟩

theorem keeps_replaceRecord {r : StoredHold} (h : Keeps s t) :
    Keeps s (setRecords (replaceRecord r t.holds.records) t) :=
  keeps_setRecords h fun right =>
    ⟨pairwise_replaceRecord right.1, (length_replaceRecord _ _).le.trans right.2.1⟩

theorem keeps_storeNew {r : StoredHold} {u : State} (h : Keeps s t) (stored : storeNew r t = some u)
    (fresh : findHold t.holds r.hold.scope r.hold.key = none) : Keeps s u := by
  have other : ∀ x ∈ t.holds.records, sameKey x.hold r.hold = false := fun x hx => by
    rw [← Bool.not_eq_true, sameKey_iff]
    exact findHold_eq_none.1 fresh x hx
  unfold storeNew at stored
  split at stored
  · next room =>
    cases stored
    refine keeps_setRecords h fun right => ⟨pairwise_insertBy right.1 other, ?_⟩
    rw [length_insertBy]; omega
  · split at stored
    · next v evicted =>
      cases stored
      refine keeps_setRecords h fun right => ⟨pairwise_insertBy (right.1.filter _) fun x hx =>
        other x (List.mem_filter.1 hx).1, ?_⟩
      have shorter := length_filter_lt (p := fun x => !sameKey x.hold v.hold)
        (mem_of_evictable evicted).1 (by simp [sameKey])
      have full := right.2.1
      rw [length_insertBy]; omega
    · cases stored

theorem keeps_setOverflow {b : Bool} (h : Keeps s t) :
    Keeps s (t.setHolds { t.holds with overflow := b }) := keeps_setHolds h id

theorem keeps_enterOverflow (h : Keeps s t) : Keeps s (enterOverflow t) :=
  keeps_ite (fun _ => h) fun _ => keeps_raise (keeps_setOverflow h)

theorem keeps_leaveOverflow (h : Keeps s t) : Keeps s (leaveOverflow t) :=
  keeps_ite (fun _ => keeps_raise (keeps_setOverflow h)) fun _ => h

theorem keeps_mergeHold {r : HoldRec} (h : Keeps s t) : Keeps s (mergeHold r t).1 := by
  unfold mergeHold
  split
  · next absent =>
    split
    · next u stored =>
      have kept := keeps_storeNew h stored absent
      split
      · exact keeps_raise kept
      · exact kept
    · exact keeps_enterOverflow h
  · split
    · have kept := keeps_replaceRecord (r := stamp r t) h
      dsimp only
      split
      · exact kept
      · exact keeps_leaveOverflow (keeps_raise kept)
      · exact keeps_raise kept
      · exact kept
    · exact h

theorem clearOutcome_tombstone {h : HoldTable} {sc : Scope} {key g : Nat} :
    clearOutcome h sc key g = .tombstone ↔ findHold h sc key = none := by
  unfold clearOutcome
  split
  · simp [*]
  · simp only [*, reduceCtorEq, iff_false]
    repeat' split
    all_goals simp

theorem keeps_applyClear {sc : Scope} {key g : Nat} {d : Disposition} {n : Nat} (h : Keeps s t) :
    Keeps s (applyClear sc key g d n t).1 := by
  unfold applyClear
  split
  · exact keeps_leaveOverflow (keeps_raise (keeps_replaceRecord h))
  · exact keeps_replaceRecord h
  · next outcome =>
    split
    · next stored => exact keeps_storeNew h stored (clearOutcome_tombstone.1 outcome)
    · exact keeps_enterOverflow h
  · exact h

theorem keeps_announce {r : HoldRec} (h : Keeps s t) : Keeps s (announce r t) :=
  keeps_raise (keeps_ite (fun _ => keeps_sendAll h) fun _ => h)

theorem keeps_placeCore {sc : Scope} {key : Nat} {reason : HoldReason} {detail trigger : Nat}
    (h : Keeps s t) : Keeps s (placeCore sc key reason detail trigger t).1 := by
  unfold placeCore
  split
  · split
    · exact h
    · exact keeps_announce (keeps_replaceRecord h)
  · next absent =>
    dsimp only
    split
    · next stored => exact keeps_announce (keeps_storeNew h stored absent)
    · exact keeps_enterOverflow (keeps_announce h)

/-! ## The resync record -/

theorem keeps_setResync {r : Resync} (h : Keeps s t) : Keeps s (setResync r t) := keeps_setHolds h id

theorem keeps_resyncTest (h : Keeps s t) : Keeps s (resyncTest t) := by
  unfold resyncTest
  split
  · split
    · exact h
    · exact keeps_sendTo (keeps_setResync h)
  · exact h

theorem keeps_spacingUpkeep (h : Keeps s t) : Keeps s (spacingUpkeep t) := keeps_setResync h

theorem keeps_endRequest {c : Option (Nat × Nat)} (h : Keeps s t) : Keeps s (endRequest c t) :=
  keeps_resyncTest (keeps_setResync h)

theorem keeps_resyncAdvance {source total start count : Nat} (h : Keeps s t) :
    Keeps s (resyncAdvance source total start count t) := by
  unfold resyncAdvance
  split
  · split
    · exact keeps_ite (fun _ => keeps_endRequest h) fun _ => keeps_setResync h
    · exact h
  · exact h

theorem keeps_resyncNone {source : Nat} (h : Keeps s t) : Keeps s (resyncNone source t) := by
  unfold resyncNone
  split
  · exact keeps_ite (fun _ => keeps_endRequest h) fun _ => h
  · exact h

theorem keeps_resyncExpiry {w : ResyncWait} (h : Keeps s t) : Keeps s (resyncExpiry w t) :=
  keeps_endRequest h

theorem keeps_resyncPeerGone {n : Nat} (h : Keeps s t) : Keeps s (resyncPeerGone n t) := keeps_setResync h

theorem keeps_answerRequest {source i : Nat} (h : Keeps s t) : Keeps s (answerRequest source i t) := by
  unfold answerRequest
  split
  · exact h
  · dsimp only
    split
    · exact keeps_sendTo h
    · exact keeps_foldl _ h fun _ _ _ k => keeps_sendTo k

end

end Sys2Proof.Machine
end

section
/-! PROOFS. What the dispatch controller's operations keep (spec/04, spec/05 section 5.4): the queue with its
pending claims, each lot in one place, and the sizes of the tables. -/
namespace Sys2Proof.Machine

/-! ## Lots and lists -/

theorem isLot_iff {l : LotRecord} {i j : Nat} : isLot l i j = true ↔ l.lotId = i ∧ l.index = j := by
  simp [isLot]

/-- The sightings whose claim is pending. -/
def pendingCount (xs : List Sighting) : Nat := xs.countP fun x => !isSeen x

theorem claimsPending_eq (c : Cell) : claimsPending c = pendingCount c.sightings := by
  rw [claimsPending, pendingCount, List.countP_eq_length_filter]
  congr 2
  funext x
  unfold isSeen
  cases x.state <;> rfl

/-- No two sightings are of one lot. -/
abbrev Distinct (xs : List Sighting) : Prop := xs.Pairwise fun a b => ¬ sameLot a.lot b.lot

/-- A change of some elements of a list makes a property hold of more elements by no more than it changes. -/
theorem countP_map_ite_le {α : Type} (p q : α → Bool) (f : α → α) (xs : List α) :
    (xs.map fun x => if p x then f x else x).countP q ≤ xs.countP q + xs.countP p := by
  induction xs with
  | nil => simp
  | cons x xs ih =>
    simp only [List.map_cons, List.countP_cons]
    cases p x <;> simp only [Bool.false_eq_true, ↓reduceIte] <;> split_ifs <;> omega

/-- At most one sighting of distinct ones is of a lot. -/
theorem countP_isLot_le_one {xs : List Sighting} (h : Distinct xs) (i j : Nat) :
    xs.countP (fun x => isLot x.lot i j) ≤ 1 := by
  induction xs with
  | nil => simp
  | cons x xs ih =>
    obtain ⟨first, rest⟩ := List.pairwise_cons.1 h
    rw [List.countP_cons]
    split
    · next here =>
      have none : xs.countP (fun x => isLot x.lot i j) = 0 := List.countP_eq_zero.2 fun y hy there => by
        rw [isLot_iff] at here there
        exact first y hy ⟨here.1.trans there.1.symm, here.2.trans there.2.symm⟩
      omega
    · have := ih rest; omega

/-- Leaving out a member of which a property holds lowers the count. -/
theorem countP_filter_lt {α : Type} {p q : α → Bool} {xs : List α} {x : α} (mem : x ∈ xs)
    (out : p x = false) (holds : q x = true) : (xs.filter p).countP q < xs.countP q := by
  have shorter : ((xs.filter q).filter p).length < (xs.filter q).length :=
    length_filter_lt (List.mem_filter.2 ⟨mem, holds⟩) out
  rwa [List.countP_eq_length_filter, List.countP_eq_length_filter, List.filter_comm]

/-- Changes that keep every lot keep sightings distinct. -/
theorem distinct_map {xs : List Sighting} {f : Sighting → Sighting} (h : Distinct xs)
    (lot : ∀ x ∈ xs, (f x).lot.lotId = x.lot.lotId ∧ (f x).lot.index = x.lot.index) : Distinct (xs.map f) := by
  refine List.pairwise_map.2 (h.imp_of_mem fun {a b} ha hb apart same => apart ?_)
  obtain ⟨a1, a2⟩ := lot a ha
  obtain ⟨b1, b2⟩ := lot b hb
  exact ⟨a1 ▸ b1 ▸ same.1, a2 ▸ b2 ▸ same.2⟩

/-- Changes that leave SEEN sightings SEEN make no claim pending. -/
theorem pendingCount_map_le {xs : List Sighting} {f : Sighting → Sighting}
    (h : ∀ x ∈ xs, isSeen x = true → isSeen (f x) = true) : pendingCount (xs.map f) ≤ pendingCount xs := by
  rw [pendingCount, List.countP_map]
  refine List.countP_mono_left fun x hx => ?_
  have := h x hx
  revert this
  cases isSeen x <;> simp

theorem pendingCount_filter_le (p : Sighting → Bool) (xs : List Sighting) :
    pendingCount (xs.filter p) ≤ pendingCount xs := List.filter_sublist.countP_le

/-! ## Changes of the cell -/

/-- A change of the active lot that keeps its lot and what is promised of it. -/
structure ActiveKept (a b : ActiveLot) : Prop where
  lot : b.lot = a.lot
  balance : a.Balanced → b.Balanced
  tallies : a.sites.length = 8 → b.sites.length = 8

@[refl] theorem ActiveKept.refl (a : ActiveLot) : ActiveKept a a := ⟨rfl, id, id⟩

theorem ActiveKept.trans {a b c : ActiveLot} (h : ActiveKept a b) (k : ActiveKept b c) : ActiveKept a c :=
  ⟨k.lot.trans h.lot, k.balance ∘ h.balance, k.tallies ∘ h.tallies⟩

section
variable {c d : Cell}

/-- A change of what no promise speaks of. -/
theorem CellKept.rest (h : (d.active, d.queue, d.sightings, d.outbox, d.marks, d.reservation) =
    (c.active, c.queue, c.sightings, c.outbox, c.marks, c.reservation)) : CellKept c d := by
  simp only [Prod.mk.injEq] at h
  obtain ⟨active, queue, sightings, outbox, marks, reservation⟩ := h
  constructor <;> simp [Cell.Apart, claimsPending_eq, *]

/-- A change of the active lot and of what no promise speaks of. -/
theorem CellKept.of_active (h : (d.queue, d.sightings, d.outbox, d.marks, d.reservation) =
    (c.queue, c.sightings, c.outbox, c.marks, c.reservation))
    (active : ∀ b, d.active = some b → ∃ a, c.active = some a ∧ ActiveKept a b) : CellKept c d := by
  cases c
  cases d
  simp only [Prod.mk.injEq] at h
  obtain ⟨rfl, rfl, rfl, rfl, rfl⟩ := h
  refine ⟨fun k b hb => ?_, fun k b hb => ?_, fun ⟨few, once, distinct, out⟩ =>
    ⟨few, once, distinct, fun b hb => ?_⟩, id, id, id, id⟩ <;> obtain ⟨a, ha, kept⟩ := active b hb
  · exact kept.balance (k a ha)
  · exact kept.tallies (k a ha)
  · rw [kept.lot]; exact out a ha

/-- A change of the sightings that makes no claim pending. -/
theorem CellKept.of_sightings {xs : List Sighting} (distinct : Distinct c.sightings → Distinct xs)
    (pending : pendingCount xs ≤ pendingCount c.sightings)
    (size : c.sightings.length ≤ Config.sightingSize → xs.length ≤ Config.sightingSize) :
    CellKept c { c with sightings := xs } := by
  refine ⟨id, id, fun ⟨few, once, apart, out⟩ => ⟨?_, once, distinct apart, out⟩, size, id, id, id⟩
  rw [claimsPending_eq] at *
  dsimp only
  omega

/-- Lots leave the queue. -/
theorem CellKept.of_queue {q : List QueuedLot} (h : q.Sublist c.queue) : CellKept c { c with queue := q } := by
  refine ⟨id, id, fun ⟨few, once, apart, out⟩ => ⟨?_, once.sublist h, apart, fun a ha x hx =>
    out a ha x (h.subset hx)⟩, id, id, id, id⟩
  have := h.length_le
  rw [claimsPending_eq] at *
  dsimp only at *
  omega

theorem CellKept.of_outbox {xs : List OutboxRecord}
    (h : c.outbox.length ≤ Config.outboxSize → xs.length ≤ Config.outboxSize) :
    CellKept c { c with outbox := xs } := ⟨id, id, id, id, h, id, id⟩

theorem CellKept.of_reservation {r : Reservation}
    (h : candidateCount c.reservation ≤ Config.candidateSize → candidateCount r ≤ Config.candidateSize) :
    CellKept c { c with reservation := r } := ⟨id, id, id, id, id, id, h⟩

end

/-! ## Sightings -/

section
variable {s t : State}

theorem keeps_setSightings {xs : List Sighting} (h : Keeps s t)
    (distinct : Distinct t.cell.sightings → Distinct xs)
    (pending : pendingCount xs ≤ pendingCount t.cell.sightings)
    (size : t.cell.sightings.length ≤ Config.sightingSize → xs.length ≤ Config.sightingSize) :
    Keeps s (setSightings xs t) := keeps_setCell h (.of_sightings distinct pending size)

theorem keeps_filterSightings {p : Sighting → Bool} (h : Keeps s t) :
    Keeps s (setSightings (t.cell.sightings.filter p) t) :=
  keeps_setSightings h (·.filter _) (pendingCount_filter_le _ _) (List.length_filter_le _ _).trans

theorem keeps_dropSighting {i j : Nat} (h : Keeps s t) : Keeps s (dropSighting i j t) :=
  keeps_filterSightings h

theorem keeps_mapSightings {f : Sighting → Sighting} (h : Keeps s t)
    (lot : ∀ x, (f x).lot.lotId = x.lot.lotId ∧ (f x).lot.index = x.lot.index)
    (seen : ∀ x, isSeen x = true → isSeen (f x) = true) :
    Keeps s (setSightings (t.cell.sightings.map f) t) :=
  keeps_setSightings h (fun distinct => distinct_map distinct fun x _ => lot x)
    (pendingCount_map_le fun x _ => seen x) (by simp)

/-- A change of one sighting that keeps its lot and makes no claim pending. -/
theorem keeps_updateSighting {i j : Nat} {f : Sighting → Sighting} (h : Keeps s t)
    (lot : ∀ x, isLot x.lot i j = true → isLot (f x).lot i j = true)
    (seen : ∀ x, isSeen x = true → isSeen (f x) = true) : Keeps s (updateSighting i j f t) := by
  refine keeps_mapSightings h (fun x => ?_) fun x hx => ?_
  · split
    · next here =>
      have there := lot x here
      rw [isLot_iff] at here there
      exact ⟨there.1.trans here.1.symm, there.2.trans here.2.symm⟩
    · exact ⟨rfl, rfl⟩
  · split
    · exact seen x hx
    · exact hx

theorem findSighting_eq_none {i j : Nat} : findSighting s i j = none ↔
    ∀ x ∈ s.cell.sightings, isLot x.lot i j = false := by
  simp [findSighting]

theorem findSighting_eq_some {i j : Nat} {x : Sighting} (h : findSighting s i j = some x) :
    x ∈ s.cell.sightings ∧ isLot x.lot i j = true :=
  ⟨List.mem_of_find?_eq_some h,
    List.find?_some (p := fun x : Sighting => isLot x.lot i j) h⟩

theorem mem_of_oldestSeen {x : Sighting} (h : oldestSeen s = some x) :
    x ∈ s.cell.sightings ∧ isSeen x = true := by
  simpa using mem_of_bestBy _ h

/-- A SEEN sighting of a new lot at the end of a table. -/
theorem distinct_append {xs : List Sighting} {x : Sighting} (h : Distinct xs)
    (fresh : ∀ y ∈ xs, isLot y.lot x.lot.lotId x.lot.index = false) : Distinct (xs ++ [x]) := by
  refine List.pairwise_append.2 ⟨h, List.pairwise_singleton _ _, fun y hy z hz same => ?_⟩
  rw [List.mem_singleton.1 hz] at same
  exact absurd (isLot_iff.2 same) (by simp [fresh y hy])

theorem pendingCount_append_seen {xs : List Sighting} {x : Sighting} (h : isSeen x = true) :
    pendingCount (xs ++ [x]) = pendingCount xs := by simp [pendingCount, List.countP_append, h]

theorem keeps_addSighting {x : Sighting} (h : Keeps s t) (seen : isSeen x = true)
    (fresh : findSighting t x.lot.lotId x.lot.index = none) : Keeps s (addSighting x t) := by
  have other := findSighting_eq_none.1 fresh
  unfold addSighting
  split
  · next room =>
    refine keeps_setSightings h (fun distinct => distinct_append distinct other)
      (pendingCount_append_seen seen).le fun _ => ?_
    rw [List.length_append, List.length_singleton]; omega
  · split
    · next o oldest =>
      refine keeps_setSightings h
        (fun distinct => distinct_append (distinct.filter _) fun y hy => other y (List.mem_filter.1 hy).1)
        ((pendingCount_append_seen seen).trans_le (pendingCount_filter_le _ _)) fun full => ?_
      have shorter := length_filter_lt
        (p := fun y : Sighting => !isLot y.lot o.lot.lotId o.lot.index) (mem_of_oldestSeen oldest).1
        (by simp [isLot])
      rw [List.length_append, List.length_singleton]; omega
    · exact h

theorem refreshSighting_seen {source : Nat} {l : LotRecord} {x : Sighting} (h : isSeen x = true) :
    isSeen (refreshSighting source l s x) = true := by
  unfold refreshSighting
  split
  · exact h
  · simp [isSeen, Sighting.toSeen]

theorem keeps_cellOffer {source : Nat} {l : LotRecord} (h : Keeps s t) : Keeps s (cellOffer source l t) := by
  unfold cellOffer
  split
  · exact h
  split
  · exact keeps_ite (fun _ => h) fun _ => keeps_sendTo h
  split
  · exact keeps_ite (fun _ => h) fun _ => keeps_sendTo h
  split
  · exact keeps_dropSighting h
  split
  · exact keeps_updateSighting h (fun x _ => isLot_iff.2 ⟨rfl, rfl⟩) fun x => refreshSighting_seen
  · next absent => exact keeps_addSighting h rfl (by simpa [newSighting] using absent)

/-! ## Claims (R58 to R60) -/

theorem keeps_judgeSightings (h : Keeps s t) : Keeps s (judgeSightings t) := by
  refine keeps_mapSightings h (fun x => ?_) fun x hx => ?_ <;> split
  · exact ⟨rfl, rfl⟩
  · exact ⟨rfl, rfl⟩
  · exact hx
  · exact hx

/-- Only a cell with room in its queue has an eligible sighting (R58). -/
theorem room_of_eligible {l : LotRecord} (h : eligibility s l = .eligible) :
    s.cell.queue.length + claimsPending s.cell < Config.cellQueueSize := by
  unfold eligibility at h
  repeat' split at h
  all_goals first | omega | cases h

theorem claimsPending_judgeSightings (s : State) :
    claimsPending (judgeSightings s).cell = claimsPending s.cell := by
  simp only [claimsPending_eq, judgeSightings, setSightings, pendingCount, State.setCell_cell,
    List.countP_map]
  congr 1
  funext x
  simp only [Function.comp]
  split <;> rfl

/-- A sighting judged ELIGIBLE finds room. -/
theorem room_of_judged {x : Sighting} (mem : x ∈ (judgeSightings s).cell.sightings) (seen : isSeen x = true)
    (eligible : x.result = .eligible) :
    s.cell.queue.length + claimsPending s.cell < Config.cellQueueSize := by
  obtain ⟨y, -, rfl⟩ := List.mem_map.1 mem
  by_cases old : isSeen y = true
  · rw [if_pos old] at eligible
    exact room_of_eligible eligible
  · rw [if_neg old] at seen
    exact absurd seen old

theorem keeps_claimSighting {x : Sighting} (h : Keeps s t)
    (room : t.cell.queue.length + claimsPending t.cell < Config.cellQueueSize) :
    Keeps s (claimSighting x t) := by
  refine keeps_setCell (keeps_sendTo h) ?_
  refine ⟨id, id, fun ⟨few, once, distinct, out⟩ => ⟨?_, once, ?_, out⟩, by simp, id, id, id⟩
  · rw [claimsPending_eq] at *
    have one := countP_isLot_le_one distinct x.lot.lotId x.lot.index
    have grown := countP_map_ite_le (fun y : Sighting => isLot y.lot x.lot.lotId x.lot.index)
      (fun y => !isSeen y)
      (fun y => { y with state := .pending (score t.cell x.lot) (sendTo x.stage
        (.claim x.lot.lotId x.lot.index (score t.cell x.lot) false) t).clock }) t.cell.sightings
    simp only [sendTo_cell, sendTo_clock, pendingCount] at *
    omega
  · refine distinct_map distinct fun y _ => ?_
    split <;> exact ⟨rfl, rfl⟩

theorem keeps_claimLoop {n : Nat} (h : Keeps s t) : Keeps s (claimLoop n t) := by
  induction n generalizing t with
  | zero => exact keeps_judgeSightings h
  | succ n ih =>
    unfold claimLoop
    dsimp only
    split
    · exact keeps_judgeSightings h
    · next x best =>
      have member := mem_of_bestBy _ best
      simp only [List.mem_filter, Bool.and_eq_true, beq_iff_eq] at member
      refine ih (keeps_claimSighting (keeps_judgeSightings h) ?_)
      rw [claimsPending_judgeSightings]
      exact room_of_judged member.1 member.2.1 member.2.2

theorem toSeen_seen (x : Sighting) : isSeen x.toSeen = true := by simp [isSeen, Sighting.toSeen]

theorem keeps_lapseClaim {x : Sighting} (h : Keeps s t) : Keeps s (lapseClaim x t) :=
  keeps_ite (fun _ => keeps_dropSighting h) fun _ =>
    keeps_updateSighting h (fun _ => id) fun x _ => toSeen_seen x

/-! ## Grant and revoke -/

theorem inQueue_eq_false {c : Cell} {i j : Nat} (h : inQueue c i j = false) :
    ∀ q ∈ c.queue, isLot q.lot i j = false := by simpa [inQueue] using h

theorem isActiveLot_eq_false {c : Cell} {i j : Nat} (h : isActiveLot c i j = false) {a : ActiveLot}
    (ha : c.active = some a) : isLot a.lot i j = false := by simpa [isActiveLot, ha] using h

/-- The lot of a pending claim goes into the queue, and its sighting with it. -/
theorem CellKept.of_grant {c : Cell} {x : Sighting} {q : QueuedLot} {i j : Nat} (mem : x ∈ c.sightings)
    (lot : isLot x.lot i j = true) (pending : isSeen x = false) (fresh : inQueue c i j = false)
    (idle : isActiveLot c i j = false) (qlot : q.lot = x.lot) :
    CellKept c { c with sightings := c.sightings.filter fun y => !isLot y.lot i j,
                        queue := c.queue ++ [q] } := by
  refine ⟨id, id, fun ⟨few, once, distinct, out⟩ => ⟨?_, ?_, distinct.filter _, fun a ha y hy => ?_⟩,
    (List.length_filter_le _ _).trans, id, id, id⟩
  · have fewer := countP_filter_lt (p := fun y : Sighting => !isLot y.lot i j)
      (q := fun y => !isSeen y) mem (by simp [lot]) (by simp [pending])
    rw [claimsPending_eq] at *
    simp only [pendingCount, List.length_append, List.length_singleton] at *
    omega
  · refine List.pairwise_append.2 ⟨once, List.pairwise_singleton _ _, fun y hy z hz same => ?_⟩
    rw [List.mem_singleton.1 hz, qlot] at same
    rw [isLot_iff] at lot
    have here : isLot y.lot i j = true := isLot_iff.2 ⟨same.1.trans lot.1, same.2.trans lot.2⟩
    simp [inQueue_eq_false fresh y hy] at here
  · rcases List.mem_append.1 hy with old | new
    · exact out a ha y old
    · intro same
      rw [List.mem_singleton.1 new, qlot] at same
      rw [isLot_iff] at lot
      have here : isLot a.lot i j = true := isLot_iff.2 ⟨same.1.trans lot.1, same.2.trans lot.2⟩
      simp [isActiveLot_eq_false idle ha] at here

theorem keeps_grantHere {source i j sc : Nat} (h : Keeps s t) : Keeps s (grantHere source i j sc t) := by
  unfold grantHere
  split
  · exact keeps_sendTo h
  · next held =>
    rw [Bool.not_eq_true, Bool.or_eq_false_iff] at held
    split
    · next x found =>
      split
      · split
        · exact keeps_dropSighting (keeps_sendTo h)
        · next pending =>
          split
          · show Keeps s (raise _ ((sendAccept source i j .take sc t).setCell _))
            refine keeps_raise (keeps_setCell (keeps_sendTo h) ?_)
            exact .of_grant (x := x) (by simpa [sendAccept] using (findSighting_eq_some found).1)
              (findSighting_eq_some found).2 (by simpa using pending)
              (by simpa [sendAccept] using held.1) (by simpa [sendAccept] using held.2) rfl
          · exact keeps_dropSighting (keeps_sendTo h)
      · exact keeps_sendTo h
    · exact keeps_sendTo h

theorem keeps_grantElsewhere {source i j : Nat} (h : Keeps s t) : Keeps s (grantElsewhere source i j t) := by
  unfold grantElsewhere
  split
  · exact keeps_ite (fun _ => keeps_ite (fun _ => keeps_dropSighting h) fun _ =>
      keeps_updateSighting h (fun _ => id) fun _ => id) fun _ => h
  · exact h

theorem keeps_cellGrant {source i j cell sc : Nat} (h : Keeps s t) :
    Keeps s (cellGrant source i j cell sc t) :=
  keeps_ite (fun _ => h) fun _ => keeps_ite (fun _ => keeps_grantHere h) fun _ => keeps_grantElsewhere h

theorem keeps_filterQueue {p : QueuedLot → Bool} (h : Keeps s t) :
    Keeps s (t.setCell { t.cell with queue := t.cell.queue.filter p }) :=
  keeps_setCell h (.of_queue List.filter_sublist)

theorem keeps_cellRevoke {source i j : Nat} {r : RevokeReason} (h : Keeps s t) :
    Keeps s (cellRevoke source i j r t) := by
  unfold cellRevoke
  split
  · exact h
  · exact keeps_dropSighting (keeps_ite (fun _ => keeps_raise (keeps_filterQueue h)) fun _ => h)

/-! ## The queue and the outbox -/

theorem keeps_cellNoticeLots (h : Keeps s t) : Keeps s (cellNoticeLots t) :=
  keeps_foldl _ (keeps_filterQueue (keeps_filterSightings h)) fun _ _ _ k => keeps_raise (keeps_sendTo k)

theorem keeps_unqueue {i j : Nat} (h : Keeps s t) : Keeps s (unqueue i j t).1 := by
  unfold unqueue
  split
  · exact h
  · exact keeps_filterQueue (keeps_sendTo h)

theorem keeps_setOutbox {xs : List OutboxRecord} (h : Keeps s t)
    (size : t.cell.outbox.length ≤ Config.outboxSize → xs.length ≤ Config.outboxSize) :
    Keeps s (setOutbox xs t) := keeps_setCell h (.of_outbox size)

theorem keeps_setDeliveryTimer {m : Option Nat} (h : Keeps s t) :
    Keeps s (t.setCell { t.cell with deliveryTimer := m }) := keeps_setCell h (.rest rfl)

theorem keeps_enterOutbox {c : Completion} (h : Keeps s t)
    (place : outboxPlace t.cell c.lotId c.index = true) : Keeps s (enterOutbox c t) := by
  unfold enterOutbox
  split
  · exact keeps_setOutbox h (by simp)
  · next absent =>
    have room : t.cell.outbox.length < Config.outboxSize := by simpa [outboxPlace, absent] using place
    have longer (r : OutboxRecord) : (t.cell.outbox ++ [r]).length ≤ Config.outboxSize := by simpa using room
    dsimp only
    split
    · exact keeps_setOutbox (keeps_setDeliveryTimer h) fun _ => longer _
    · exact keeps_setOutbox h fun _ => longer _

@[simp] theorem length_markAt (i : Nat) (xs : List OutboxRecord) : (markAt i xs).length = xs.length := by
  simp [markAt]

theorem keeps_sendLotDone {i : Nat} (h : Keeps s t) : Keeps s (sendLotDone i t) := by
  unfold sendLotDone
  split
  · exact h
  · exact keeps_setOutbox (keeps_sendAll h) (by simp)

theorem keeps_deliveryExpiry (h : Keeps s t) : Keeps s (deliveryExpiry t) :=
  keeps_setDeliveryTimer (keeps_ite
    (fun _ => keeps_setOutbox (keeps_sendLotDone (keeps_sendLotDone h)) (by simp)) fun _ =>
      keeps_sendLotDone h)

theorem length_takeRecord_le (i : Nat) (xs : List OutboxRecord) : (takeRecord i xs).length ≤ xs.length := by
  unfold takeRecord
  split
  · exact le_rfl
  · have shorter := List.length_eraseIdx_le xs i
    dsimp only
    split_ifs
    · exact shorter
    · exact (length_markAt _ _).trans_le shorter
    · exact shorter

/-- A change of the active lot alone. -/
theorem keeps_setActive {x : Option ActiveLot} (h : Keeps s t)
    (active : ∀ b, x = some b → ∃ a, t.cell.active = some a ∧ ActiveKept a b) :
    Keeps s (t.setCell { t.cell with active := x }) := keeps_setCell h (.of_active rfl active)

theorem keeps_updateActive {f : ActiveLot → ActiveLot} (h : Keeps s t) (kept : ∀ a, ActiveKept a (f a)) :
    Keeps s (updateActive f t) := by
  refine keeps_setActive h fun b hb => ?_
  obtain ⟨a, ha, rfl⟩ := Option.map_eq_some_iff.1 hb
  exact ⟨a, ha, kept a⟩

theorem keeps_admitWaiting (h : Keeps s t) : Keeps s (admitWaiting t) := by
  unfold admitWaiting
  split
  · next a active =>
    split
    · refine keeps_ite (fun room => keeps_enterOutbox (keeps_setActive h fun b hb => ?_) ?_) fun _ => h
      · cases hb; exact ⟨a, active, rfl, id, id⟩
      · simp [outboxPlace, room]
    · exact h
  · exact h

theorem keeps_cellDoneTaken {source i j : Nat} (h : Keeps s t) : Keeps s (cellDoneTaken source i j t) := by
  unfold cellDoneTaken
  split
  · exact h
  · split
    · exact h
    · have taken : ∀ k, Keeps s (setOutbox (takeRecord k t.cell.outbox) t) := fun k =>
        keeps_setOutbox h (length_takeRecord_le _ _).trans
      exact keeps_admitWaiting (keeps_ite (fun _ => keeps_setDeliveryTimer (taken _)) fun _ => taken _)

end

end Sys2Proof.Machine
end

section
/-! PROOFS. What the cell's search and binding, the staging controller, the notices, the yield guard and the
release controller keep. -/
namespace Sys2Proof.Machine

variable {s t : State}

/-! ## Finding a handler and the binding part -/

theorem keeps_setReservation {r : Reservation} (h : Keeps s t)
    (size : candidateCount t.cell.reservation ≤ Config.candidateSize →
      candidateCount r ≤ Config.candidateSize) : Keeps s (setReservation r t) :=
  keeps_setCell h (.of_reservation size)

/-- A reservation part without candidates. -/
theorem keeps_noCandidates {r : Reservation} (h : Keeps s t) (none : candidateCount r = 0) :
    Keeps s (setReservation r t) := keeps_setReservation h fun _ => none ▸ Nat.zero_le _

theorem keeps_sendWanted {kit : Nat} {temp : Int} (h : Keeps s t) : Keeps s (sendWanted kit temp t) := by
  have spaced : Keeps s (t.setCell { t.cell with wantedSpacing := t.after (6 * t.beaconMs) }) :=
    keeps_setCell h (.rest rfl)
  unfold sendWanted
  dsimp only
  exact keeps_ite (fun _ => keeps_raise spaced) fun _ =>
    keeps_noCandidates (keeps_foldl _ spaced fun _ _ _ k => keeps_sendZone k) rfl

theorem keeps_wantedTest (h : Keeps s t) : Keeps s (wantedTest t) := by
  unfold wantedTest
  split
  · split
    · exact keeps_sendWanted h
    · exact h
  · exact h

theorem keeps_requestHandler {kit : Nat} {temp : Int} (h : Keeps s t) :
    Keeps s (requestHandler kit temp t).1 := by
  unfold requestHandler
  split
  · exact h
  · exact h
  · exact h
  · exact keeps_sendWanted h

theorem length_joinCandidates_le (c : Candidate) (cs : List Candidate) :
    (joinCandidates c cs).length ≤ Config.candidateSize := List.length_take_le _ _

theorem keeps_cellAvailable {source : Nat} {f : HandlerFit} {idle : Nat} (h : Keeps s t) :
    Keeps s (cellAvailable source f idle t) := by
  unfold cellAvailable
  split
  · exact keeps_setReservation h fun _ => length_joinCandidates_le _ _
  · exact h

theorem keeps_tryCandidates {kit : Nat} {temp : Int} {cs : List Candidate} (h : Keeps s t)
    (size : candidateCount t.cell.reservation ≤ Config.candidateSize → cs.length ≤ Config.candidateSize) :
    Keeps s (tryCandidates kit temp cs t) := by
  unfold tryCandidates
  split
  · exact keeps_raise (keeps_noCandidates h rfl)
  · exact keeps_setReservation (keeps_sendTo h) fun k => size (by simpa using k)

theorem length_dropCandidate_le (n : Nat) (cs : List Candidate) : (dropCandidate n cs).length ≤ cs.length :=
  List.length_filter_le _ _

theorem keeps_candidateOut (h : Keeps s t) : Keeps s (candidateOut t) := by
  unfold candidateOut
  split
  · next eq => exact keeps_tryCandidates h fun k => (length_dropCandidate_le _ _).trans (by simpa [eq, candidateCount] using k)
  · exact h

theorem keeps_cellReserveReply {source : Nat} {r : ReserveResult} {m : Nat} (h : Keeps s t) :
    Keeps s (cellReserveReply source r m t) := by
  unfold cellReserveReply
  split
  · split
    · split
      · exact keeps_raise (keeps_noCandidates h rfl)
      · exact keeps_candidateOut h
    · exact h
  · exact keeps_ite (fun _ => keeps_raise (keeps_noCandidates h rfl)) fun _ => h
  · exact h

theorem keeps_reservationPeerGone {n : Nat} {b : Bool} (h : Keeps s t) :
    Keeps s (reservationPeerGone n b t) := by
  unfold reservationPeerGone
  split
  · next eq =>
    exact keeps_setReservation h fun k => (length_dropCandidate_le _ _).trans (by simpa [eq, candidateCount] using k)
  · next eq =>
    exact keeps_ite (fun _ => keeps_candidateOut h) fun _ =>
      keeps_setReservation h fun k => (length_dropCandidate_le _ _).trans (by simpa [eq, candidateCount] using k)
  · exact keeps_ite (fun _ => keeps_noCandidates h rfl) fun _ => h
  · exact h

theorem keeps_setBinding {b : BindingPart} (h : Keeps s t) : Keeps s (setBinding b t) :=
  keeps_setCell h (.rest rfl)

theorem keeps_dropBinding (h : Keeps s t) : Keeps s (dropBinding t) :=
  keeps_setCell h ⟨id, id, id, id, id, fun _ => rfl, id⟩

theorem keeps_leaveBound {b : BindingPart} (h : Keeps s t) : Keeps s (leaveBound b t) :=
  keeps_setCell h (.rest rfl)

theorem keeps_rebind {p : BindState} (h : Keeps s t) : Keeps s (rebind p t) := keeps_leaveBound (keeps_sendTo h)

theorem keeps_dock {n : Nat} (h : Keeps s t) : Keeps s (dock n t).1 := by
  unfold dock
  split
  · exact h
  · split
    · exact h
    · exact h
    · exact h
    · exact keeps_setBinding (keeps_sendTo h)

theorem keeps_settleReservation {n : Nat} (h : Keeps s t) : Keeps s (settleReservation n t) := by
  unfold settleReservation
  split
  · exact keeps_ite (fun _ => keeps_noCandidates h rfl) fun _ => keeps_noCandidates (keeps_sendTo h) rfl
  · exact h

theorem keeps_bindOk {n : Nat} {f : HandlerFit} {m : SiteMask} (h : Keeps s t) : Keeps s (bindOk n f m t) :=
  keeps_settleReservation (keeps_raise (keeps_setCell (keeps_sendTo h) (.rest rfl)))

theorem keeps_cellBindReply {source : Nat} {r : BindResult} {f : HandlerFit} {m : SiteMask} (h : Keeps s t) :
    Keeps s (cellBindReply source r f m t) := by
  have dropped {e : Event} : Keeps s (raise e (dropBinding t)) := keeps_raise (keeps_dropBinding h)
  unfold cellBindReply
  split
  · split
    · exact keeps_bindOk h
    · exact keeps_ite (fun _ => dropped) fun _ => dropped
    · exact keeps_ite (fun _ => dropped) fun _ => dropped
  · exact h

theorem keeps_cellBindExpiry (h : Keeps s t) : Keeps s (cellBindExpiry t) :=
  keeps_ite (fun _ => keeps_raise (keeps_dropBinding (keeps_sendTo h))) fun _ =>
    keeps_setCell (keeps_sendTo h) (.rest rfl)

theorem keeps_undock (h : Keeps s t) : Keeps s (undock t).1 := by
  have undocked {n : Nat} {p : Payload} {e : Event} : Keeps s (raise e (dropBinding (sendTo n p t))) :=
    keeps_raise (keeps_dropBinding (keeps_sendTo h))
  unfold undock
  split
  · exact h
  all_goals
    dsimp only
    split
    · exact keeps_ite (fun _ => keeps_noCandidates undocked rfl) fun _ => undocked
    · exact undocked

theorem keeps_cellUnbind {source : Nat} {r : UnbindReason} (h : Keeps s t) :
    Keeps s (cellUnbind source r t) := by
  have dropped := keeps_dropBinding h
  unfold cellUnbind
  split
  · split
    · exact keeps_raise dropped
    · exact keeps_raise dropped
    · exact keeps_ite (fun _ => keeps_raise dropped) fun _ => dropped
    · exact h
  · exact h

theorem keeps_bindingPeerRestart {n : Nat} (h : Keeps s t) : Keeps s (bindingPeerRestart n t) := by
  have dropped {e : Event} : Keeps s (raise e (dropBinding t)) := keeps_raise (keeps_dropBinding h)
  unfold bindingPeerRestart
  split
  · split
    · exact keeps_ite (fun _ => dropped) fun _ => dropped
    · exact dropped
    · exact dropped
    · exact h
  · exact h

theorem keeps_bindingPeerLost {n : Nat} (h : Keeps s t) : Keeps s (bindingPeerLost n t) :=
  keeps_ite (fun _ => keeps_leaveBound h) fun _ => h

theorem keeps_bindingPeerBack {n : Nat} (h : Keeps s t) : Keeps s (bindingPeerBack n t) :=
  keeps_ite (fun _ => keeps_rebind h) fun _ => h

theorem keeps_refreshCopies {source : Nat} {b : BeaconBlock} (h : Keeps s t) :
    Keeps s (refreshCopies source b t) := by
  unfold refreshCopies
  split
  · dsimp only
    have refreshed {c : Prop} [Decidable c] {x : BindingPart} :
        Keeps s (if c then setBinding x t else t) := keeps_ite (fun _ => keeps_setBinding h) fun _ => h
    split
    · exact keeps_ite (fun _ => keeps_noCandidates refreshed rfl) fun _ => refreshed
    · exact refreshed
  · exact h

theorem keeps_cellBeacon {source : Nat} {b : BeaconBlock} (h : Keeps s t) :
    Keeps s (cellBeacon source b t) := by
  have refreshed := keeps_refreshCopies (source := source) (b := b) h
  unfold cellBeacon
  dsimp only
  split
  · split
    · exact keeps_ite (fun _ => refreshed) fun _ => keeps_rebind refreshed
    · exact keeps_rebind refreshed
    · exact refreshed
    · exact refreshed
  · exact refreshed

/-! ## The staging controller -/

/-- A change of one entry that keeps its lists within their sizes. -/
theorem keeps_updateEntry {i j : Nat} {f : StageEntry → StageEntry} (h : Keeps s t)
    (small : ∀ e, e.Small → (f e).Small) : Keeps s (updateEntry i j f t) := by
  refine keeps_setStage h ⟨by simp, fun all e he => ?_⟩
  obtain ⟨x, hx, rfl⟩ := List.mem_map.1 he
  split
  · exact small x (all x hx)
  · exact all x hx

theorem keeps_deleteEntry {i j : Nat} (h : Keeps s t) : Keeps s (deleteEntry i j t) :=
  keeps_setStage h ⟨(List.length_filter_le _ _).trans, fun all e he => all e (List.mem_filter.1 he).1⟩

theorem StageEntry.Small.toWaiting {e : StageEntry} (h : e.Small) : e.toWaiting.Small :=
  ⟨Nat.zero_le _, h.2⟩

theorem StageEntry.Small.exclude {e : StageEntry} {n : Nat} (h : e.Small) : (e.exclude n).Small := by
  have size := h.2
  refine ⟨h.1, ?_⟩
  unfold StageEntry.exclude
  dsimp only
  split
  · rw [List.length_append, List.length_singleton]; omega
  · rw [List.length_append, List.length_singleton, List.length_drop]
    simp only [Config.exclusionSize] at *
    omega

theorem keeps_revoke {i j c : Nat} {r : RevokeReason} (h : Keeps s t) : Keeps s (revoke i j c r t) :=
  keeps_raise (keeps_sendTo h)

theorem keeps_lotArrived {l : LotRecord} (h : Keeps s t) : Keeps s (lotArrived l t).1 := by
  unfold lotArrived
  split
  · exact h
  split
  · exact h
  · next room =>
    refine keeps_setStage h ⟨fun _ => ?_, fun all e he => ?_⟩
    · rw [List.length_append, List.length_singleton]; omega
    · rcases List.mem_append.1 he with old | new
      · exact all e old
      · rw [List.mem_singleton.1 new]; exact ⟨Nat.zero_le _, Nat.zero_le _⟩

theorem keeps_lotIssued {i j c : Nat} (h : Keeps s t) : Keeps s (lotIssued i j c t).1 := by
  unfold lotIssued
  split
  · exact h
  · split
    · split
      · exact keeps_updateEntry h fun _ => id
      · exact h
    · exact h

theorem keeps_lotReturned {i j : Nat} (h : Keeps s t) : Keeps s (lotReturned i j t).1 := by
  unfold lotReturned
  split
  · exact h
  · split
    · exact keeps_updateEntry h fun _ _ => ⟨Nat.zero_le _, Nat.zero_le _⟩
    · exact h

theorem keeps_removeEntry {e : StageEntry} (h : Keeps s t) : Keeps s (removeEntry e t) := by
  have deleted := keeps_deleteEntry (i := e.lot.lotId) (j := e.lot.index) h
  unfold removeEntry
  dsimp only
  split
  · exact keeps_revoke deleted
  · exact keeps_revoke deleted
  · exact deleted
  · exact deleted
  · exact deleted

theorem keeps_lotRemoved {i j : Nat} (h : Keeps s t) : Keeps s (lotRemoved i j t).1 := by
  unfold lotRemoved
  split
  · exact h
  · exact keeps_removeEntry h

theorem keeps_offerExpiry (h : Keeps s t) : Keeps s (offerExpiry t) :=
  keeps_setStage (keeps_foldl _ h fun _ _ _ k =>
    keeps_ite (fun _ => keeps_sendAll k) fun _ => keeps_sendZone k) ⟨id, id⟩

theorem length_dropClaim_le (n : Nat) (cs : List Claim) : (dropClaim n cs).length ≤ cs.length :=
  List.length_filter_le _ _

theorem length_joinClaims_le {c : Claim} {cs : List Claim} (h : cs.length ≤ Config.claimSize) :
    (joinClaims c cs).length ≤ Config.claimSize := by
  unfold joinClaims
  split
  · simpa using h
  split
  · rw [List.length_append, List.length_singleton]; omega
  split
  · next w worst =>
    have shorter : (dropClaim w.cell cs).length < cs.length :=
      length_filter_lt (mem_of_bestBy _ worst) (by simp)
    split
    · rw [List.length_append, List.length_singleton]; omega
    · exact h
  · exact h

theorem keeps_claimOpen {i j c sc : Nat} (h : Keeps s t) : Keeps s (claimOpen i j c sc t) := by
  unfold claimOpen
  split
  · exact h
  split
  · exact h
  split
  · exact keeps_updateEntry h fun _ small => ⟨by simp [Config.claimSize], small.2⟩
  · exact keeps_updateEntry h fun _ small => ⟨length_joinClaims_le small.1, small.2⟩
  · exact h
  · exact h
  · exact h

theorem keeps_takeOwned {i j c sc : Nat} (h : Keeps s t) : Keeps s (takeOwned i j c sc t) :=
  keeps_ite (fun _ => keeps_updateEntry h fun _ small => small.toWaiting) fun _ =>
    keeps_raise (keeps_updateEntry h fun _ small => small.toWaiting)

theorem keeps_claimOwned {i j c sc : Nat} (h : Keeps s t) : Keeps s (claimOwned i j c sc t) := by
  unfold claimOwned
  split
  · exact h
  split
  · exact keeps_ite (fun _ => keeps_revoke h) fun _ => keeps_takeOwned h
  · exact keeps_ite (fun _ => keeps_revoke h) fun _ => keeps_takeOwned h
  · exact keeps_ite (fun _ => keeps_takeOwned h) fun _ => keeps_revoke h
  · exact keeps_ite (fun _ => keeps_ite (fun _ => keeps_updateEntry h fun _ => id) fun _ => h) fun _ =>
      keeps_revoke h
  · exact keeps_ite (fun _ => h) fun _ => keeps_revoke h

theorem keeps_stageClaim {n i j sc : Nat} {o : Bool} (h : Keeps s t) :
    Keeps s (stageClaim n i j sc o t) :=
  keeps_ite (fun _ => h) fun _ => keeps_ite (fun _ => keeps_claimOwned h) fun _ => keeps_claimOpen h

theorem keeps_grantBest {i j : Nat} (h : Keeps s t) : Keeps s (grantBest i j t) := by
  unfold grantBest
  split
  · exact h
  · next e found =>
    split
    · exact keeps_updateEntry h fun _ small => small.toWaiting
    · exact keeps_sendAll (keeps_updateEntry h fun _ small =>
        ⟨(length_dropClaim_le _ _).trans small.1, small.2⟩)

theorem keeps_endGrant {i j g : Nat} {b : Bool} (h : Keeps s t) : Keeps s (endGrant i j g b t) :=
  keeps_grantBest (keeps_ite (fun _ => keeps_updateEntry h fun _ small => small.exclude) fun _ => h)

theorem keeps_answerAccept {i j n : Nat} (h : Keeps s t) : Keeps s (answerAccept i j n t) := by
  unfold answerAccept
  split
  · exact keeps_revoke h
  split
  · exact keeps_revoke h
  · exact keeps_ite (fun _ => h) fun _ => keeps_revoke h
  · exact keeps_ite (fun _ => h) fun _ => keeps_revoke h
  · exact keeps_revoke h
  · exact keeps_revoke h

theorem keeps_stageAccept {n i j sc : Nat} {a : AcceptAnswer} (h : Keeps s t) :
    Keeps s (stageAccept n i j a sc t) := by
  unfold stageAccept
  split
  · exact h
  split
  · refine keeps_ite (fun _ => keeps_ite (fun _ => ?_) fun _ => h) fun _ => keeps_answerAccept h
    split
    · exact keeps_raise (keeps_updateEntry h fun _ small => small.toWaiting)
    · exact keeps_endGrant h
  · exact keeps_answerAccept h

theorem keeps_stageReturn {n i j : Nat} {r : ReturnReason} (h : Keeps s t) :
    Keeps s (stageReturn n i j r t) := by
  unfold stageReturn
  split
  · exact h
  split
  · exact h
  split
  · refine keeps_ite (fun _ => keeps_raise (keeps_updateEntry h fun e small => ?_)) fun _ => h
    split
    · exact small.toWaiting.exclude
    · exact small.toWaiting
  · exact keeps_ite (fun _ => keeps_endGrant h) fun _ => h
  · have pending : Keeps s (updateEntry i j (fun e => { e with returnPending := true }) t) :=
      keeps_updateEntry h fun _ => id
    exact keeps_ite (fun _ => keeps_ite (fun _ => pending) fun _ => keeps_raise pending) fun _ => h
  · exact h
  · exact h

theorem keeps_stageLotDone {c : Completion} (h : Keeps s t) : Keeps s (stageLotDone c t) := by
  unfold stageLotDone
  split
  · exact h
  split
  · exact keeps_ite (fun _ => keeps_raise (keeps_deleteEntry h)) fun _ => h
  · exact h

theorem keeps_stageHandoff {sc : Scope} {key : Nat} {d : Disposition} (h : Keeps s t) :
    Keeps s (stageHandoff sc key d t) :=
  keeps_ite (fun _ => keeps_foldl _ h fun _ _ _ k => keeps_removeEntry k) fun _ => h

theorem keeps_holdEntry {e : StageEntry} (h : Keeps s t) : Keeps s (holdEntry t e) := by
  have waiting : Keeps s (updateEntry e.lot.lotId e.lot.index StageEntry.toWaiting t) :=
    keeps_updateEntry h fun _ small => small.toWaiting
  unfold holdEntry
  split
  · exact h
  · exact h
  · exact waiting
  · exact keeps_revoke waiting
  · exact keeps_revoke waiting

theorem keeps_stageNotice (h : Keeps s t) : Keeps s (stageNotice t) :=
  keeps_foldl _ h fun _ _ _ k => keeps_holdEntry k

theorem keeps_peerGoneEntry {n : Nat} {b : Bool} {e : StageEntry} (h : Keeps s t) :
    Keeps s (peerGoneEntry n b t e) := by
  have dropped : Keeps s (updateEntry e.lot.lotId e.lot.index
      (fun e => { e with claims := dropClaim n e.claims }) t) :=
    keeps_updateEntry h fun _ small => ⟨(length_dropClaim_le _ _).trans small.1, small.2⟩
  unfold peerGoneEntry
  dsimp only
  split
  · exact dropped
  · exact keeps_ite (fun _ => keeps_endGrant h) fun _ => dropped
  · exact keeps_ite (fun _ => keeps_raise (keeps_updateEntry h fun _ small => small.toWaiting)) fun _ => h
  · exact h
  · exact h

theorem keeps_stagePeerGone {n : Nat} {b : Bool} (h : Keeps s t) : Keeps s (stagePeerGone n b t) :=
  keeps_foldl _ h fun _ _ _ k => keeps_peerGoneEntry k

/-! ## The held-state notice -/

theorem keeps_noteReasons (h : Keeps s t) : Keeps s (noteReasons t) := by
  refine keeps_updateActive h fun a => ?_
  split
  · rfl
  · exact ⟨rfl, id, id⟩

theorem keeps_lateHolds {names : List NoticeKey} (h : Keeps s t) : Keeps s (lateHolds names t) := by
  refine keeps_foldl _ h fun u e _ k => keeps_foldl _ k fun v n _ kept => ?_
  split
  · split
    · exact keeps_raise kept
    · exact kept
  · exact kept

theorem keeps_notice {names : List NoticeKey} (h : Keeps s t) : Keeps s (notice names t) := by
  unfold notice
  split
  · split
    · exact keeps_stageNotice h
    · exact keeps_noteReasons (keeps_cellNoticeLots h)
    · exact h
    · exact keeps_lateHolds h
  · exact h

theorem keeps_noticeAfter {b : Bool} {names : List NoticeKey} (h : Keeps s t) :
    Keeps s (noticeAfter b names t) := keeps_ite (fun _ => h) fun _ => keeps_notice h

theorem keeps_placeHold {sc : Scope} {key : Nat} {reason : HoldReason} {detail trigger : Nat}
    (h : Keeps s t) : Keeps s (placeHold sc key reason detail trigger t).1 := by
  have placed := keeps_placeCore (sc := sc) (key := key) (reason := reason) (detail := detail)
    (trigger := trigger) h
  unfold placeHold
  dsimp only
  split
  · exact placed
  · exact keeps_notice placed

end Sys2Proof.Machine
end

section
/-! PROOFS. What the yield guard and the release controller keep: the balance of the active lot (R118) and the
sizes of the outbox, the pack table and the limit table. -/
namespace Sys2Proof.Machine

variable {s t : State}

/-! ## Bin counts -/

theorem binSum_modifyAt {n : Nat} {bins : List Nat} (h : n < bins.length) :
    binSum (modifyAt (· + 1) n bins) = binSum bins + 1 := by
  induction bins generalizing n with
  | nil => simp at h
  | cons x xs ih =>
    cases n with
    | zero => simp only [modifyAt, binSum, List.sum_cons]; omega
    | succ n =>
      have := ih (n := n) (by simpa using h)
      simp only [modifyAt, binSum, List.sum_cons] at *
      omega

/-- The counts set to 0 and the counts left make up the counts there were. -/
theorem binSum_clearRetestable (m : Mask16) (bins : List Nat) :
    binSum (clearRetestable m bins) + goodCount bins m = binSum bins := by
  unfold clearRetestable goodCount binSum
  generalize 1 = k
  induction bins generalizing k with
  | nil => rfl
  | cons x xs ih =>
    have rest := ih (k + 1)
    simp only [List.zipIdx_cons, List.map_cons, List.sum_cons] at rest ⊢
    split <;> omega

@[simp] theorem length_clearRetestable (m : Mask16) (bins : List Nat) :
    (clearRetestable m bins).length = bins.length := by simp [clearRetestable]

theorem ActiveKept.countBin {b : Nat} (a : ActiveLot) (high : b ≤ 16) :
    ActiveKept a (countBin b a) := by
  unfold Machine.countBin
  split
  · refine ⟨rfl, fun ⟨size, sum⟩ => ⟨by simpa using size, ?_⟩, id⟩
    rw [binSum_modifyAt (by omega)]
    dsimp only
    omega
  split
  · refine ⟨rfl, fun ⟨size, sum⟩ => ⟨by simpa using size, ?_⟩, id⟩
    rw [binSum_modifyAt (by omega)]
    dsimp only
    omega
  · exact ⟨rfl, id, id⟩

theorem ActiveKept.retest (a : ActiveLot) (pass : Nat) : ActiveKept a (a.retest pass) := by
  refine ⟨rfl, fun ⟨size, sum⟩ => ⟨by simpa [ActiveLot.retest] using size, ?_⟩, fun _ => by
    simp [ActiveLot.retest]⟩
  have cleared := binSum_clearRetestable a.limits.retestable a.bins
  simp only [ActiveLot.retest, retestableCount]
  omega

/-! ## The limit table and loading -/

theorem length_putEntry_le {product : Nat} {e : LimitEntry} {x : LimitTable}
    (room : product ≠ 0 → productEntry x product = none → x.products.length < Config.productSize)
    (h : x.products.length ≤ Config.productSize) :
    (putEntry product e x).products.length ≤ Config.productSize := by
  unfold putEntry
  split
  · exact h
  split
  · simpa using h
  · next named absent =>
    have := room named (by simpa using absent)
    rw [List.length_append, List.length_singleton]
    omega

theorem keeps_limitSetA {a : LimitPartA} (h : Keeps s t) : Keeps s (limitSetA a t).1 :=
  keeps_setCell h (.rest rfl)

theorem keeps_limitSetB {product : Nat} {pairs : List (Nat × Nat)} {jam : Nat} (h : Keeps s t) :
    Keeps s (limitSetB product pairs jam t).1 := by
  unfold limitSetB
  split
  · exact h
  split
  · exact h
  split
  · exact h
  · next full =>
    refine keeps_setCell (keeps_setLimits h (length_putEntry_le fun named absent => ?_)) (.rest rfl)
    by_contra many
    exact full ⟨named, by simp [absent], by omega⟩

theorem keeps_limitClear {product : Nat} (h : Keeps s t) : Keeps s (limitClear product t).1 := by
  unfold limitClear
  split
  · exact keeps_setLimits h id
  split
  · exact keeps_setLimits h (List.length_filter_le _ _).trans
  · exact h

theorem newActive_balanced (u : State) (q : QueuedLot) : (newActive u q).Balanced := by
  simp [ActiveLot.Balanced, newActive, binSum]

/-- A lot of the queue becomes the active lot. -/
theorem CellKept.of_load {c : Cell} {q : QueuedLot} {a : ActiveLot} {i j : Nat} {b : Bool}
    (lot : isLot q.lot i j = true) (alot : a.lot = q.lot) (balanced : a.Balanced)
    (tallies : a.sites.length = 8) :
    CellKept c { c with queue := c.queue.filter fun x => !isLot x.lot i j, active := some a, ready := b } := by
  have fewer : (c.queue.filter fun x => !isLot x.lot i j).length ≤ c.queue.length := List.length_filter_le _ _
  refine ⟨fun _ b hb => ?_, fun _ b hb => ?_, fun ⟨few, once, distinct, _⟩ =>
    ⟨?_, once.filter _, distinct, fun b hb x hx same => ?_⟩, id, id, id, id⟩
  · cases hb; exact balanced
  · cases hb; exact tallies
  · rw [claimsPending_eq] at *
    dsimp only
    omega
  · cases hb
    rw [isLot_iff] at lot
    rw [alot] at same
    have out := (List.mem_filter.1 hx).2
    have here : isLot x.lot i j = true := isLot_iff.2 ⟨same.1.symm.trans lot.1, same.2.symm.trans lot.2⟩
    simp [here] at out

theorem keeps_lotLoaded {i j : Nat} (h : Keeps s t) : Keeps s (lotLoaded i j t).1 := by
  unfold lotLoaded
  split
  · exact h
  · next q found =>
    split
    · exact h
    · exact keeps_setCell h (.of_load
        (List.find?_some (p := fun q : QueuedLot => isLot q.lot i j) found) rfl (newActive_balanced _ _)
        (by simp [newActive]))

/-! ## Completion -/

/-- The lot is the active lot, or what an operation has made of it. -/
def Runs (s : State) (a : ActiveLot) : Prop := ∃ b, s.cell.active = some b ∧ ActiveKept b a

theorem Runs.of_active {a : ActiveLot} (h : s.cell.active = some a) : Runs s a := ⟨a, h, .refl a⟩

theorem Runs.trans {a b : ActiveLot} (h : Runs s a) (k : ActiveKept a b) : Runs s b :=
  let ⟨x, hx, kept⟩ := h
  ⟨x, hx, kept.trans k⟩

theorem keeps_setRunning {a : ActiveLot} (h : Keeps s t) (runs : Runs t a) :
    Keeps s (t.setCell { t.cell with active := some a }) :=
  keeps_setActive h fun _ hb => Option.some.inj hb ▸ runs

theorem outboxPlace_congr {c d : Cell} (h : c.outbox = d.outbox) (i j : Nat) :
    outboxPlace c i j = outboxPlace d i j := by simp [outboxPlace, outboxHas, h]

theorem keeps_finishLot {a : ActiveLot} {r : CompletionResult} (h : Keeps s t) (runs : Runs t a) :
    Keeps s (finishLot a r t) := by
  have raised : Keeps s (raise (.cellFinished a.lot.lotId a.lot.index r) t) := keeps_raise h
  have finished {w : Option Completion} :
      Runs (raise (.cellFinished a.lot.lotId a.lot.index r) t)
        { a with phase := .finished, unretested := a.pool, waiting := w } := by
    obtain ⟨b, hb, kept⟩ := runs
    exact ⟨b, by simpa using hb, kept.trans ⟨rfl, id, id⟩⟩
  unfold finishLot
  dsimp only
  refine keeps_ite (fun place => keeps_enterOutbox (keeps_setRunning raised finished) ?_) fun _ =>
    keeps_setRunning raised finished
  rw [outboxPlace_congr (d := t.cell) (by simp)]
  exact place

theorem keeps_freeSlot (h : Keeps s t) : Keeps s (freeSlot t) := keeps_setActive h fun _ hb => by cases hb

theorem keeps_lotUnloaded (h : Keeps s t) : Keeps s (lotUnloaded t).1 := by
  unfold lotUnloaded
  split
  · exact h
  · next active =>
    split
    · split
      · exact h
      · exact keeps_freeSlot h
    · split
      · exact keeps_freeSlot (keeps_finishLot h (.of_active active))
      · exact h
    · exact h
    · exact h
    · exact h

/-! ## Triggers, retest passes and the judgment -/

theorem keeps_noteTriggers {w : Mask16} (h : Keeps s t) :
    Keeps s (updateActive (fun a => { a with reasons := a.reasons ||| w }) t) :=
  keeps_updateActive h fun _ => ⟨rfl, id, id⟩

theorem keeps_handleTriggers {ts : List Trigger} {lot : Nat} (h : Keeps s t) :
    Keeps s (handleTriggers ts lot t) := by
  unfold handleTriggers
  split
  · exact h
  · exact keeps_ite (fun _ => keeps_noteTriggers h) fun _ => keeps_placeHold (keeps_noteTriggers h)

theorem keeps_startRetest {a : ActiveLot} {pass : Nat} (h : Keeps s t) (runs : Runs t a) :
    Keeps s (startRetest a pass t) := by
  unfold startRetest
  dsimp only
  refine keeps_raise (keeps_setCell h (CellKept.of_active ?unchanged fun b hb => ?retested))
  case unchanged => simp only
  case retested => cases hb; exact runs.trans (.retest a pass)

theorem keeps_endHeld {a : ActiveLot} {r : HoldReason} (h : Keeps s t) (runs : Runs t a) :
    Keeps s (endHeld a r t) :=
  keeps_handleTriggers (keeps_setRunning h (runs.trans ⟨rfl, id, id⟩))

theorem keeps_judgePass {a : ActiveLot} (h : Keeps s t) (runs : Runs t a) : Keeps s (judgePass a t).1 := by
  have judged : Runs t { a with unretested := a.pool } := runs.trans ⟨rfl, id, id⟩
  unfold judgePass
  dsimp only
  split
  · exact keeps_endHeld h judged
  split
  · exact keeps_finishLot h judged
  split
  · exact keeps_startRetest h judged
  · exact keeps_endHeld h judged

theorem keeps_endPass (h : Keeps s t) : Keeps s (endPass t).1 := by
  unfold endPass
  split
  · exact h
  · next active =>
    split
    · exact h
    · exact h
    · exact h
    · exact keeps_judgePass h (.of_active active)
    · exact keeps_judgePass h (.of_active active)

/-! ## Bin reports -/

theorem keeps_requestDown {n : Nat} {r : SiteStatus} (h : Keeps s t) : Keeps s (requestDown n r t) := by
  unfold requestDown
  dsimp only
  have marked {u : State} (k : Keeps s u) :
      Keeps s (u.setCell { u.cell with marks := modifyAt (fun _ => r) (n - 1) u.cell.marks }) :=
    keeps_setCell k ⟨id, id, id, id, id, fun len => by simpa using len, id⟩
  have raised : Keeps s (if markOf t.cell n = .up then raise (.siteDown n r) t else t) :=
    keeps_ite (fun _ => keeps_raise h) fun _ => h
  exact keeps_ite (fun _ => keeps_sendTo (marked raised)) fun _ => marked raised

theorem ActiveKept.countUnit {n b : Nat} (r : Report) (high : b ≤ 16) :
    ActiveKept r.active (countUnit n b r).1.active :=
  have kept := ActiveKept.countBin r.active high
  ⟨kept.lot, kept.balance, fun len => by simpa [Machine.countUnit] using len⟩

theorem ActiveKept.entryFate {mask : SiteMask} {n b : Nat} (r : Report) (high : b ≤ 16) :
    ActiveKept r.active (entryFate mask n b r).1.active := by
  unfold Machine.entryFate
  split
  · rfl
  split
  · rfl
  · exact .countUnit r high

theorem takeEntry_kept {bins : List Nat} {p : State × Report} {n : Nat} (high : nth1 0 bins n ≤ 16)
    (h : Keeps s p.1) :
    Keeps s (takeEntry bins p n).1 ∧ ActiveKept p.2.active (takeEntry bins p n).2.active := by
  unfold takeEntry
  dsimp only
  split
  · exact ⟨keeps_requestDown h, .entryFate p.2 high⟩
  · exact ⟨h, .entryFate p.2 high⟩

theorem nth1_le {bins : List Nat} {n k : Nat} (h : ∀ b ∈ bins, b ≤ k) : nth1 0 bins n ≤ k := by
  unfold nth1
  split
  · exact Nat.zero_le _
  · rcases Nat.lt_or_ge (n - 1) bins.length with lt | ge
    · rw [List.getD_eq_getElem _ _ lt]; exact h _ (List.getElem_mem lt)
    · rw [List.getD_eq_default _ _ ge]; exact Nat.zero_le _

theorem takeEntries_kept {bins : List Nat} (high : ∀ b ∈ bins, b ≤ 16) (ns : List Nat)
    {p : State × Report} (h : Keeps s p.1) :
    Keeps s (ns.foldl (takeEntry bins) p).1 ∧
      ActiveKept p.2.active (ns.foldl (takeEntry bins) p).2.active := by
  induction ns generalizing p with
  | nil => exact ⟨h, .refl _⟩
  | cons n ns ih =>
    have first := takeEntry_kept (n := n) (nth1_le high) h
    have rest := ih first.1
    exact ⟨rest.1, first.2.trans rest.2⟩

/-- Asking a site down leaves the active lot. -/
@[simp] theorem requestDown_active (n : Nat) (r : SiteStatus) (u : State) :
    (requestDown n r u).cell.active = u.cell.active := by
  unfold requestDown
  dsimp only
  split <;> split <;> simp

theorem takeEntry_active (bins : List Nat) (p : State × Report) (n : Nat) :
    (takeEntry bins p n).1.cell.active = p.1.cell.active := by
  unfold takeEntry
  dsimp only
  split <;> simp

theorem takeEntries_active (bins ns : List Nat) (p : State × Report) :
    (ns.foldl (takeEntry bins) p).1.cell.active = p.1.cell.active := by
  induction ns generalizing p with
  | nil => rfl
  | cons n ns ih => exact (ih _).trans (takeEntry_active bins p n)

theorem keeps_autoPassEnd {a : ActiveLot} (h : Keeps s t) : Keeps s (autoPassEnd a t).1 := by
  unfold autoPassEnd
  split
  · next active =>
    split
    · exact keeps_judgePass h (.of_active active)
    · exact h
  · exact h

theorem keeps_binReport {mask : SiteMask} {bins : List Nat} (high : ∀ b ∈ bins, b ≤ 16) (h : Keeps s t) :
    Keeps s (binReport mask bins t).1 := by
  unfold binReport
  split
  · exact h
  · next a active =>
    split
    · exact h
    · obtain ⟨kept, counted⟩ := takeEntries_kept high (siteNumbers.filter (maskHas mask))
        (p := (t, { active := a, counted := 0, stray := false, requested := false, excess := none })) h
      exact keeps_autoPassEnd (keeps_handleTriggers (keeps_setRunning kept
        ⟨a, (takeEntries_active _ _ _).trans active, counted⟩))

/-! ## HANDLER-STATUS and dispositions at the cell -/

theorem ActiveKept.seeReady (b : Bool) (a : ActiveLot) : ActiveKept a (a.seeReady b) := by
  unfold ActiveLot.seeReady
  split
  · exact ⟨rfl, id, id⟩
  · rfl

theorem keeps_takeStatus {b : StatusBody} (h : Keeps s t) : Keeps s (takeStatus b t) := by
  have taken : Keeps s (t.setCell { t.cell with
      ready := b.ready, reached := if b.reachedValid then some b.reached else none, mask := b.mask,
      binding := { t.cell.binding with mask := b.mask }, marks := clearMarks b.mask t.cell.marks,
      active := t.cell.active.map (ActiveLot.seeReady b.ready) }) := by
    refine keeps_setCell h (.trans (b := { t.cell with
      active := t.cell.active.map (ActiveLot.seeReady b.ready) }) (.of_active rfl fun x hx => ?_)
      ⟨id, id, id, id, id, fun len => by simpa [clearMarks] using len, id⟩)
    obtain ⟨a, ha, rfl⟩ := Option.map_eq_some_iff.1 hx
    exact ⟨a, ha, .seeReady _ a⟩
  unfold takeStatus statusChecks
  split
  · exact keeps_ite (fun _ => keeps_handleTriggers taken) fun _ => taken
  · exact taken

theorem keeps_cellStatus {source : Nat} {b : StatusBody} (h : Keeps s t) :
    Keeps s (cellStatus source b t) := by
  unfold cellStatus
  split
  · exact h
  split
  · split
    · exact keeps_takeStatus h
    · exact keeps_takeStatus h
    · exact h
    · exact h
  · exact keeps_sendTo h

theorem keeps_suppressChecks {sc : Scope} {key : Nat} (h : Keeps s t) :
    Keeps s (suppressChecks sc key t) := by
  refine keeps_updateActive h fun a => ?_
  split
  · exact ⟨rfl, id, id⟩
  · rfl

theorem keeps_disposeLot {d : Disposition} {a : ActiveLot} (h : Keeps s t) (runs : Runs t a) :
    Keeps s (disposeLot d a t) := by
  unfold disposeLot
  split
  · exact h
  · exact h
  · exact keeps_finishLot h runs
  · exact keeps_finishLot h runs
  · exact keeps_finishLot h runs
  · exact keeps_startRetest h (runs.trans ⟨rfl, id, id⟩)
  · exact h
  · exact keeps_updateActive h fun _ => ⟨rfl, id, id⟩

theorem keeps_cellHandoff {sc : Scope} {key : Nat} {d : Disposition} {b : Bool} (h : Keeps s t) :
    Keeps s (cellHandoff sc key d b t) := by
  unfold cellHandoff
  split
  · exact h
  · next a active =>
    have disposed {c : Prop} [Decidable c] : Keeps s (if c then disposeLot d a t else t) :=
      keeps_ite (fun _ => keeps_disposeLot h (.of_active active)) fun _ => h
    exact keeps_ite (fun _ => keeps_suppressChecks disposed) fun _ => disposed

/-! ## The release controller -/

theorem keeps_setEntries {es : List PackEntry} (h : Keeps s t)
    (size : t.pack.entries.length ≤ Config.packSize → es.length ≤ Config.packSize)
    (slots : (∀ e ∈ t.pack.entries, e.slots.length = 4) → ∀ e ∈ es, e.slots.length = 4) :
    Keeps s (setEntries es t) := keeps_setPack h ⟨size, slots⟩

theorem keeps_mapEntries {f : PackEntry → PackEntry} (h : Keeps s t)
    (slots : ∀ e, (f e).slots.length = e.slots.length) : Keeps s (setEntries (t.pack.entries.map f) t) := by
  refine keeps_setEntries h (by simp) fun all e he => ?_
  obtain ⟨x, hx, rfl⟩ := List.mem_map.1 he
  rw [slots, all x hx]

theorem keeps_updatePack {lot : Nat} {f : PackEntry → PackEntry} (h : Keeps s t)
    (slots : ∀ e, (f e).slots.length = e.slots.length) : Keeps s (updatePack lot f t) := by
  refine keeps_mapEntries h fun e => ?_
  split
  · exact slots e
  · rfl

theorem mem_of_evictEntry {u : State} {e : PackEntry} (h : evictEntry u = some e) :
    e ∈ u.pack.entries ∧ packClosed e = true := by simpa using mem_of_bestBy _ h

theorem keeps_admitLot {c : Completion} {u : State} (h : Keeps s t) (admitted : admitLot c t = some u) :
    Keeps s u := by
  have fresh : (newEntry c).slots.length = 4 := rfl
  unfold admitLot at admitted
  split at admitted
  · cases admitted; exact h
  split at admitted
  · next room =>
    cases admitted
    refine keeps_setEntries h (fun _ => ?_) fun all e he => ?_
    · rw [List.length_append, List.length_singleton]; omega
    · rcases List.mem_append.1 he with old | new
      · exact all e old
      · rw [List.mem_singleton.1 new]; exact fresh
  · obtain ⟨v, evicted, rfl⟩ := Option.map_eq_some_iff.1 admitted
    have shorter := length_filter_lt (p := fun e : PackEntry => e.lotId != v.lotId)
      (mem_of_evictEntry evicted).1 (by simp)
    refine keeps_setEntries h (fun full => ?_) fun all e he => ?_
    · rw [List.length_append, List.length_singleton]; omega
    · rcases List.mem_append.1 he with old | new
      · exact all e (List.mem_filter.1 old).1
      · rw [List.mem_singleton.1 new]; exact fresh

theorem keeps_packHold {lot : Nat} {r : HoldReason} (h : Keeps s t) : Keeps s (packHold lot r t) :=
  keeps_placeHold h

theorem keeps_waitFor {e : PackEntry} {w : WaitReason} {r : HoldReason} (h : Keeps s t) :
    Keeps s (waitFor e w r t) := keeps_packHold (keeps_updatePack h fun _ => rfl)

theorem keeps_judgeEntry {e : PackEntry} (h : Keeps s t) : Keeps s (judgeEntry e t) := by
  unfold judgeEntry
  split
  · have noted : Keeps s (updatePack e.lotId (fun e => { e with waiting := .sublotHeld }) t) :=
      keeps_updatePack h fun _ => rfl
    exact keeps_ite (fun _ => noted) fun _ => keeps_packHold noted
  split
  · exact keeps_updatePack h fun _ => rfl
  split
  · exact keeps_waitFor h
  split
  · exact keeps_waitFor h
  split
  · exact keeps_waitFor h
  split
  · exact keeps_waitFor h
  · exact keeps_updatePack h fun _ => rfl

theorem keeps_judgeAfterFill {lot : Nat} (h : Keeps s t) : Keeps s (judgeAfterFill lot t) := by
  unfold judgeAfterFill
  split
  · exact keeps_ite (fun _ => keeps_judgeEntry h) fun _ => h
  · exact h

theorem keeps_takeInto {e : PackEntry} {c : Completion} (h : Keeps s t) : Keeps s (takeInto e c t) := by
  unfold takeInto
  split
  · exact keeps_sendTo h
  split
  · exact keeps_ite (fun _ => keeps_sendTo h) fun _ => keeps_raise (keeps_sendTo h)
  · have filled : Keeps s (sendTaken c (updatePack e.lotId (·.fill c) t)) :=
      keeps_sendTo (keeps_updatePack h fun e => by simp [PackEntry.fill])
    exact keeps_judgeAfterFill (keeps_ite (fun _ => filled) fun _ => keeps_raise filled)

theorem keeps_packLotDone {c : Completion} (h : Keeps s t) : Keeps s (packLotDone c t) := by
  unfold packLotDone
  split
  · exact h
  split
  · exact h
  · next admitted =>
    have kept := keeps_admitLot h admitted
    split
    · exact keeps_takeInto kept
    · exact kept

theorem length_slots_resume (e : PackEntry) : e.resume.slots.length = e.slots.length := by
  unfold PackEntry.resume
  dsimp only
  split <;> (try split) <;> simp

theorem length_slots_disposeEntry (d : Disposition) (b : Bool) (n : Nat) (e : PackEntry) :
    (disposeEntry d b n e).slots.length = e.slots.length := by
  unfold disposeEntry
  split
  · rfl
  · rfl
  · rfl
  · split
    · rfl
    · exact length_slots_resume e
  · split <;> rfl
  · rfl

theorem keeps_packHandoff {sc : Scope} {key : Nat} {d : Disposition} (h : Keeps s t) :
    Keeps s (packHandoff sc key d t) := by
  refine keeps_mapEntries h fun e => ?_
  split
  · exact length_slots_disposeEntry _ _ _ e
  · rfl

theorem keeps_actOnFreed {lot : Nat} (h : Keeps s t) : Keeps s (actOnFreed t lot) := by
  unfold actOnFreed
  split
  · exact h
  split
  · exact keeps_ite (fun _ => h) fun _ => keeps_judgeEntry h
  · exact keeps_updatePack h fun _ => rfl
  · exact h
  · exact h

theorem keeps_actOnAllFreed {b : State} {ids : List Nat} (h : Keeps s t) :
    Keeps s (actOnAllFreed b ids t) :=
  keeps_ite (fun _ => keeps_foldl _ h fun _ _ _ k => keeps_actOnFreed k) fun _ => h

theorem keeps_releaseEntry {e : PackEntry} (h : Keeps s t) : Keeps s (releaseEntry e t).1 := by
  unfold releaseEntry
  dsimp only
  exact keeps_raise (keeps_sendAll (keeps_setPack (keeps_updatePack h fun _ => rfl) ⟨id, id⟩))

theorem keeps_packDone {lot n : Nat} (h : Keeps s t) : Keeps s (packDone lot n t).1 := by
  unfold packDone
  split
  · exact h
  split
  · exact h
  split
  · exact h
  split
  · exact keeps_waitFor h
  · exact keeps_releaseEntry h

/-! ## Frames and commands of the hold table -/

theorem keeps_handoff {sc : Scope} {key : Nat} {d : Disposition} {b : Bool} (h : Keeps s t) :
    Keeps s (handoff sc key d b t) := by
  unfold handoff
  split
  · split
    · exact keeps_stageHandoff h
    · exact keeps_cellHandoff h
    · exact h
    · exact keeps_packHandoff h
  · exact h

theorem keeps_mergeWithNotice {r : HoldRec} (h : Keeps s t) : Keeps s (mergeWithNotice r t) :=
  keeps_noticeAfter (keeps_mergeHold h)

theorem keeps_deliverHold {r : HoldRec} (h : Keeps s t) : Keeps s (deliverHold r t) :=
  keeps_actOnAllFreed (keeps_mergeWithNotice h)

theorem keeps_deliverHoldList {n total start count : Nat} {rs : List HoldRec} (h : Keeps s t) :
    Keeps s (deliverHoldList n total start count rs t) :=
  keeps_actOnAllFreed (keeps_resyncAdvance (keeps_foldl _ h fun _ _ _ k => keeps_mergeWithNotice k))

theorem keeps_afterClear {o : ClearOutcome} {sc : Scope} {key : Nat} {d : Disposition} {b : State}
    {c : State × List NoticeKey} (h : Keeps s c.1) : Keeps s (afterClear o sc key d b c) := by
  have noticed : Keeps s (clearNotice o sc key b c) :=
    keeps_ite (fun _ => keeps_notice h) fun _ => keeps_noticeAfter h
  unfold afterClear
  dsimp only
  split
  · exact keeps_actOnAllFreed (keeps_handoff noticed)
  · exact keeps_actOnAllFreed (keeps_handoff noticed)
  · exact noticed
  · exact noticed

theorem keeps_deliverClear {sc : Scope} {key g : Nat} {d : Disposition} {n : Nat} (h : Keeps s t) :
    Keeps s (deliverClear sc key g d n t) := keeps_afterClear (keeps_applyClear h)

theorem keeps_dispose {sc : Scope} {key g : Nat} {d : Disposition} (h : Keeps s t) :
    Keeps s (dispose sc key g d t).1 := by
  unfold dispose
  split
  · exact h
  · dsimp only
    refine keeps_afterClear ?_
    exact keeps_sendAll (keeps_applyClear h)

theorem keeps_noteOperator {sc : Scope} {key : Nat} (h : Keeps s t) : Keeps s (noteOperator sc key t) := by
  refine keeps_updateActive h fun a => ?_
  split
  · exact ⟨rfl, id, id⟩
  · rfl

theorem keeps_placeHoldCommand {sc : Scope} {key trigger : Nat} (h : Keeps s t) :
    Keeps s (placeHoldCommand sc key trigger t).1 := by
  have placed := keeps_placeHold (sc := sc) (key := key) (reason := .operator) (detail := 0)
    (trigger := trigger) h
  unfold placeHoldCommand
  dsimp only
  split
  · exact keeps_ite (fun _ => keeps_noteOperator placed) fun _ => placed
  · exact placed

end Sys2Proof.Machine
end

section
/-! PROOFS. What the handler controller, the peer directory, the end of an event, the line, and the delivery of a
frame keep. -/
namespace Sys2Proof.Machine

variable {s t : State}

/-! ## The handler controller -/

/-- A change of the handler to one that has the idle permit, or that is BOUND. -/
theorem HandlerKept.of_permit {h k : Handler} (permit : k.rel ≠ .bound → k.permit = Permit.idle)
    (cell : k.rel = .free → k.cell = 0) (sites : k.sites = h.sites) : HandlerKept h k :=
  ⟨fun _ => ⟨permit, cell⟩, fun len => sites ▸ len⟩

theorem keeps_enterFree (h : Keeps s t) : Keeps s (enterFree t) :=
  keeps_setHandler h (.of_permit (fun _ => rfl) (fun _ => rfl) rfl)

theorem keeps_enterBound {n : Nat} (h : Keeps s t) : Keeps s (enterBound n t) :=
  keeps_setHandler h (.of_permit (fun _ => rfl) nofun rfl)

theorem keeps_lapseReservation (h : Keeps s t) : Keeps s (lapseReservation t) :=
  keeps_raise (keeps_enterFree (keeps_sendTo h))

/-- A handshake fails in BINDING, where the stored permit is idle (R96). -/
theorem keeps_failHandshake (h : Keeps s t) (binding : t.handler.rel = .binding) :
    Keeps s (failHandshake t) := by
  have raised : Keeps s (raise (.handlerBindFailed t.handler.cell) t) := keeps_raise h
  have reserved : Keeps s ((raise (.handlerBindFailed t.handler.cell) t).setHandler
      { (raise (.handlerBindFailed t.handler.cell) t).handler with
        rel := .reserved, bindTimer := none, prevReserved := false }) := by
    refine keeps_setHandler raised ⟨fun right => ⟨fun _ => right.1 ?_, nofun⟩, id⟩
    simp [binding]
  unfold failHandshake
  dsimp only
  refine keeps_ite (fun _ => keeps_ite (fun _ => keeps_lapseReservation reserved) fun _ => reserved)
    fun _ => keeps_setHandler raised ⟨fun right => ⟨fun _ => right.1 ?_, fun _ => rfl⟩, id⟩
  simp [binding]

theorem keeps_endRelation {r : Nat} (h : Keeps s t) : Keeps s (endRelation r t) :=
  keeps_raise (keeps_enterFree h)

theorem keeps_handlerWanted {n kit : Nat} {temp : Int} (h : Keeps s t) :
    Keeps s (handlerWanted n kit temp t) := keeps_ite (fun _ => keeps_sendTo h) fun _ => h

theorem keeps_reserve {n : Nat} (h : Keeps s t) : Keeps s (reserve n t) := by
  unfold reserve
  split
  · exact h
  split
  · next free =>
    exact keeps_raise (keeps_sendTo (keeps_setHandler h
      ⟨fun right => ⟨fun _ => right.1 (by simp [free]), nofun⟩, id⟩))
  · exact keeps_ite (fun _ => keeps_sendTo h) fun _ => keeps_sendTo h
  · exact keeps_sendTo h
  · exact keeps_sendTo h
  · exact keeps_sendTo h

theorem keeps_handlerUnbind {n : Nat} {r : UnbindReason} (h : Keeps s t) :
    Keeps s (handlerUnbind n r t) := by
  unfold handlerUnbind
  split
  · exact h
  split
  · exact h
  · exact keeps_ite (fun _ => keeps_endRelation h) fun _ => h
  · exact keeps_ite (fun _ => keeps_endRelation h) fun _ => h
  · exact keeps_ite (fun _ => keeps_endRelation h) fun _ => h
  · next binding =>
    exact keeps_ite (fun _ => keeps_ite (fun _ => keeps_failHandshake h binding) fun _ =>
      keeps_endRelation h) fun _ => h

theorem keeps_sendBindReply {n : Nat} {r : BindResult} (h : Keeps s t) : Keeps s (sendBindReply n r t) :=
  keeps_sendTo h

theorem keeps_startBinding {n : Nat} {b : Bool} (h : Keeps s t) (unbound : t.handler.rel ≠ .bound) :
    Keeps s (startBinding n b t) :=
  keeps_setHandler h ⟨fun right => ⟨fun _ => right.1 unbound, nofun⟩, id⟩

theorem keeps_bindReq {n kit : Nat} (h : Keeps s t) : Keeps s (bindReq n kit t) := by
  have reply {r : BindResult} : Keeps s (sendBindReply n r t) := keeps_sendBindReply h
  have started (unbound : t.handler.rel ≠ .bound) {b : Bool} :
      Keeps s (startBinding n b (sendBindReply n .ok t)) :=
    keeps_startBinding reply (by simpa [sendBindReply] using unbound)
  unfold bindReq
  split
  · exact h
  split
  · next rel => exact keeps_ite (fun _ => started (by simp [rel])) fun _ => reply
  · next rel =>
    exact keeps_ite (fun _ => reply) fun _ => keeps_ite (fun _ => started (by simp [rel])) fun _ => reply
  · next rel =>
    exact keeps_ite (fun _ => reply) fun _ => keeps_ite (fun _ => started (by simp [rel])) fun _ => reply
  · exact keeps_ite (fun _ => reply) fun _ => keeps_setHandler reply ⟨id, id⟩
  · exact keeps_ite (fun _ => reply) fun _ => keeps_raise (keeps_enterBound reply)

theorem keeps_bindConfirm {n kit sites : Nat} (h : Keeps s t) : Keeps s (bindConfirm n kit sites t) :=
  keeps_ite (fun now => keeps_ite (fun _ => keeps_raise (keeps_enterBound h)) fun _ =>
    keeps_failHandshake h now.2.1) fun _ => h

theorem keeps_handlerPeerLost {n : Nat} (h : Keeps s t) : Keeps s (handlerPeerLost n t) :=
  keeps_ite (fun _ => keeps_setHandler h (.of_permit (fun _ => rfl) nofun rfl)) fun _ => h

theorem keeps_handlerPeerBack {n : Nat} (h : Keeps s t) : Keeps s (handlerPeerBack n t) :=
  keeps_ite (fun _ => keeps_enterBound h) fun _ => h

theorem keeps_handlerPeerRestart {n : Nat} (h : Keeps s t) : Keeps s (handlerPeerRestart n t) :=
  keeps_ite (fun _ => keeps_endRelation h) fun _ => h

theorem keeps_orphanExpiry (h : Keeps s t) : Keeps s (orphanExpiry t) := keeps_endRelation (keeps_sendTo h)

theorem keeps_permitTarget {temp : Int} (h : Keeps s t) : Keeps s (permitTarget temp t) :=
  keeps_ite (fun _ => keeps_raise (keeps_setHandler h ⟨id, id⟩)) fun _ => h

/-- The jam lot and the jam count are not of the relation. -/
theorem permitJam_rest (p : Permit) (h : Handler) :
    (permitJam p h).rel = h.rel ∧ (permitJam p h).cell = h.cell ∧ (permitJam p h).sites = h.sites := by
  unfold permitJam
  split <;> exact ⟨rfl, rfl, rfl⟩

theorem keeps_takePermit {n : Nat} {p : Permit} (h : Keeps s t) : Keeps s (takePermit n p t) := by
  unfold takePermit
  split
  · next bound =>
    obtain ⟨rel, _, sites⟩ := permitJam_rest p t.handler
    have taken : Keeps s (t.setHandler { permitJam p t.handler with permit := p }) :=
      keeps_setHandler h (.of_permit (fun unbound => absurd (rel.trans bound.2.1) unbound)
        (fun free => by simp [rel, bound.2.1] at free) sites)
    exact keeps_ite (fun _ => taken) fun _ => keeps_permitTarget taken
  · exact h

theorem keeps_startSoak {n : Nat} {x : Int} (h : Keeps s t) : Keeps s (startSoak n x t) :=
  keeps_setHandler h ⟨id, id⟩

theorem keeps_tempReached {x : Int} (h : Keeps s t) : Keeps s (tempReached x t).1 := by
  unfold tempReached
  split
  · exact keeps_startSoak h
  · split
    · exact keeps_startSoak h
    · exact h
  · split <;> exact h
  · split <;> exact h
  · split
    · exact keeps_startSoak h
    · exact h

theorem keeps_tempLost (h : Keeps s t) : Keeps s (tempLost t).1 := by
  unfold tempLost
  split
  · exact h
  · exact h
  · exact h
  · exact keeps_setHandler h ⟨id, id⟩
  · exact keeps_setHandler h ⟨id, id⟩

theorem keeps_latchJam (h : Keeps s t) : Keeps s (latchJam t) :=
  keeps_ite (fun _ => h) fun _ => keeps_raise (keeps_setHandler h ⟨id, id⟩)

theorem keeps_jamAsserted (h : Keeps s t) : Keeps s (jamAsserted t) :=
  keeps_ite (fun _ => keeps_latchJam h) fun _ => h

theorem keeps_reArm (h : Keeps s t) : Keeps s (reArm t).1 := by
  unfold reArm
  split
  · exact h
  · exact keeps_setHandler h ⟨id, id⟩

theorem keeps_updateSite {n : Nat} {f : Site → Site} (h : Keeps s t) : Keeps s (updateSite n f t) :=
  keeps_setHandler h ⟨id, fun len => by simpa using len⟩

theorem keeps_takeDown {n : Nat} {r : SiteStatus} (h : Keeps s t) : Keeps s (takeDown n r t) :=
  keeps_raise (keeps_updateSite h)

theorem keeps_applyLimit {n : Nat} (h : Keeps s t) : Keeps s (applyLimit n t) :=
  keeps_ite (fun _ => keeps_takeDown h) fun _ => h

theorem keeps_unitIndexed {m : SiteMask} (h : Keeps s t) : Keeps s (unitIndexed m t).1 :=
  keeps_foldl _ h fun _ _ _ k => keeps_applyLimit (keeps_updateSite k)

theorem keeps_contactorCount {n v : Nat} (h : Keeps s t) : Keeps s (contactorCount n v t).1 := by
  unfold contactorCount
  split
  · exact keeps_applyLimit (keeps_updateSite h)
  · exact keeps_applyLimit (keeps_updateSite h)
  · exact h
  · exact h
  · exact h

theorem keeps_siteRestore {n : Nat} (h : Keeps s t) : Keeps s (siteRestore n t).1 := by
  unfold siteRestore
  dsimp only
  split
  · exact h
  · exact keeps_updateSite h

theorem keeps_siteDownFrame {n m : Nat} {r : SiteStatus} (h : Keeps s t) :
    Keeps s (siteDownFrame n m r t) := keeps_ite (fun _ => keeps_takeDown h) fun _ => h

/-! ## The peer directory -/

theorem keeps_updatePeer {n : Nat} {f : PeerEntry → PeerEntry} (h : Keeps s t) :
    Keeps s (updatePeer n f t) := keeps_setPeers h (length_modifyAt _ _ _)

theorem keeps_sightingsPeerGone {n : Nat} (h : Keeps s t) : Keeps s (sightingsPeerGone n t) :=
  keeps_filterSightings h

theorem keeps_roleLost {n : Nat} (h : Keeps s t) : Keeps s (roleLost n t) := by
  unfold roleLost
  split
  · split
    · exact keeps_stagePeerGone h
    · exact keeps_bindingPeerLost (keeps_reservationPeerGone (keeps_sightingsPeerGone h))
    · exact keeps_handlerPeerLost h
    · exact h
  · exact h

theorem keeps_roleRestart {n : Nat} (h : Keeps s t) : Keeps s (roleRestart n t) := by
  unfold roleRestart
  split
  · split
    · exact keeps_stagePeerGone h
    · exact keeps_bindingPeerRestart (keeps_reservationPeerGone (keeps_sightingsPeerGone h))
    · exact keeps_handlerPeerRestart h
    · exact h
  · exact h

theorem keeps_roleBack {n : Nat} (h : Keeps s t) : Keeps s (roleBack n t) := by
  unfold roleBack
  split
  · split
    · exact keeps_bindingPeerBack h
    · exact keeps_handlerPeerBack h
    · exact h
    · exact h
  · exact h

theorem keeps_noticeLost {n : Nat} (h : Keeps s t) : Keeps s (noticeLost n t) :=
  keeps_raise (keeps_resyncPeerGone (keeps_roleLost h))

theorem keeps_noticeRestart {n : Nat} (h : Keeps s t) : Keeps s (noticeRestart n t) :=
  keeps_raise (keeps_resyncPeerGone (keeps_roleRestart h))

theorem keeps_noticeBack {n : Nat} (h : Keeps s t) : Keeps s (noticeBack n t) :=
  keeps_raise (keeps_roleBack h)

theorem keeps_hear {n : Nat} {fresh : Bool} (h : Keeps s t) : Keeps s (hear n fresh t) := by
  have heard {f : PeerEntry → PeerEntry} : Keeps s (updatePeer n f t) := keeps_updatePeer h
  unfold hear
  dsimp only
  split
  · exact heard
  · exact keeps_noticeRestart heard
  · exact keeps_noticeRestart heard
  · exact heard
  · exact keeps_noticeBack heard

theorem keeps_losePeer {n : Nat} (h : Keeps s t) : Keeps s (losePeer n t) :=
  keeps_noticeLost (keeps_updatePeer h)

theorem keeps_deliverBeacon {n : Nat} {b : BeaconBody} (h : Keeps s t) : Keeps s (deliverBeacon n b t) := by
  have recorded : Keeps s (recordBeacon n b t) := keeps_resyncTest (keeps_updatePeer h)
  exact keeps_ite (fun _ => keeps_cellBeacon recorded) fun _ => recorded

theorem keeps_beaconExpiry (h : Keeps s t) : Keeps s (beaconExpiry t) :=
  keeps_setPeers (keeps_postBeacon h) rfl

/-! ## The end of an event -/

theorem keeps_settleHolds {b : State} (h : Keeps s t) : Keeps s (settleHolds b t) :=
  keeps_ite (fun _ => h) fun _ => keeps_resyncTest h

theorem keeps_idleUpkeep (h : Keeps s t) : Keeps s (idleUpkeep t) := by
  unfold idleUpkeep
  split
  · split
    · exact keeps_setCell h (.rest rfl)
    · exact h
  · exact keeps_setCell h (.rest rfl)

theorem keeps_sendPermit (h : Keeps s t) : Keeps s (sendPermit t) :=
  keeps_updateActive (keeps_sendTo h) fun _ => ⟨rfl, id, id⟩

theorem keeps_settleCell {b : State} (h : Keeps s t) : Keeps s (settleCell b t) := by
  have judged : Keeps s (wantedTest (idleUpkeep (claimLoop Config.cellQueueSize t))) :=
    keeps_wantedTest (keeps_idleUpkeep (keeps_claimLoop h))
  exact keeps_ite (fun _ => keeps_ite (fun _ => keeps_sendPermit judged) fun _ => judged) fun _ => h

theorem keeps_settleHandler {b : State} (h : Keeps s t) : Keeps s (settleHandler b t) := by
  unfold settleHandler
  split
  · exact keeps_ite (fun _ => keeps_setHandler (keeps_sendTo h) ⟨id, id⟩) fun _ => h
  · exact keeps_setHandler h ⟨id, id⟩

theorem keeps_settle {b : State} (h : Keeps s t) : Keeps s (settle b t) :=
  keeps_setPins (keeps_spacingUpkeep (keeps_settleHandler (keeps_settleCell (keeps_settleHolds h)))) _

/-! ## The line -/

theorem keeps_offerSlot {kind n : Nat} {keys : List (Scope × Nat)} (h : Keeps s t) :
    Keeps s (offerSlot kind keys t n) := by
  unfold offerSlot
  split
  · exact keeps_ite (fun _ => keeps_raise (keeps_setPort h ⟨id, fun len => by simpa using len⟩)) fun _ => h
  · exact h

theorem keeps_offerWatches {p : Payload} (h : Keeps s t) : Keeps s (offerWatches p t) :=
  keeps_foldl _ h fun _ _ _ k => keeps_offerSlot k

/-- The transmitter rests in the state that its queue gives it. -/
theorem restingTx_sound (q : List QFrame) : restingTx q ≠ .off ∧ (restingTx q = .empty → q = []) ∧
    (restingTx q = .waiting ∨ restingTx q = .sending ∨ restingTx q = .disturbing → q ≠ []) := by
  cases q <;> simp [restingTx]

/-- The transmitter of a frame or a backoff comes to rest. -/
theorem LinkKept.of_rest {l : Link} {m : Link} (on : l.tx ≠ .off) (rest : m.tx = restingTx m.queue)
    (size : m.queue.length ≤ l.queue.length) : LinkKept l m := by
  obtain ⟨resting, empty, head⟩ := restingTx_sound m.queue
  rw [← rest] at *
  exact ⟨iff_of_false resting on, fun _ => ⟨fun off => absurd off resting, empty, head⟩, size.trans⟩

theorem keeps_joinLine (h : Keeps s t) : Keeps s (joinLine t) :=
  keeps_ite (fun _ => keeps_setLink h ⟨.rfl, id, id⟩) fun _ => h

/-- A carrier may end the skipped round (R11). -/
theorem LinkKept.txAfterCarrier (l : Link) (p : CountPoint) (last : Nat) (line : LineState) :
    LinkKept l { l with last := last, line := line, tx := txAfterCarrier l p } := by
  unfold Machine.txAfterCarrier
  split
  · next backoff => exact .of_rest (by simp [backoff.1]) rfl le_rfl
  · exact ⟨.rfl, id, id⟩

theorem keeps_carrier {p : CountPoint} (h : Keeps s t) : Keeps s (carrier p t) := by
  unfold carrier
  split
  · exact keeps_setLink h (.txAfterCarrier _ _ _ _)
  · exact h
  · exact h
  · exact h

theorem keeps_roundOver (h : Keeps s t) : Keeps s (roundOver t) := by
  unfold roundOver
  split
  · next backoff _ => exact keeps_setLink h (.of_rest (by simp [backoff]) rfl le_rfl)
  · exact h

theorem keeps_beginAttempt (h : Keeps s t) : Keeps s (beginAttempt t) := by
  unfold beginAttempt
  split
  · next waiting _ queue =>
    exact keeps_setLink h ⟨by simp [waiting], fun _ => ⟨nofun, nofun, fun _ => by simp [queue]⟩, id⟩
  · exact h

theorem keeps_endClean (h : Keeps s t) : Keeps s (endClean t) := by
  unfold endClean
  split
  · next sending queue =>
    exact keeps_offerWatches (keeps_setLink h (.of_rest (by simp [sending]) rfl (by simp [queue])))
  · exact h

theorem keeps_collide (h : Keeps s t) : Keeps s (collide t) :=
  keeps_ite (fun sending => keeps_setLink h ⟨by simp [sending], fun ⟨_, _, head⟩ =>
    ⟨nofun, nofun, fun _ => head (.inr (.inl sending))⟩, id⟩) fun _ => h

/-- A backoff promises nothing of the queue. -/
theorem LinkKept.of_backoff {l m : Link} (on : l.tx ≠ .off) (backoff : m.tx = .backoff)
    (size : m.queue.length ≤ l.queue.length) : LinkKept l m :=
  ⟨by simp [on, backoff], fun _ => by simp [Link.Sound, backoff], size.trans⟩

theorem keeps_endDisturbance (h : Keeps s t) : Keeps s (endDisturbance t) := by
  refine keeps_ite (fun disturbing => ?_) fun _ => h
  refine keeps_ite (fun _ => keeps_setLink h (.of_backoff (by simp [disturbing]) rfl ?_)) fun _ =>
    keeps_setLink h (.of_backoff (by simp [disturbing]) rfl le_rfl)
  exact (List.drop_sublist _ _).length_le

theorem keeps_afterTransmission {n : Nat} (h : Keeps s t) :
    Keeps s (t.setLink (t.link.afterTransmission n)) := by
  refine keeps_setLink h ?_
  unfold Link.afterTransmission
  split
  · exact .txAfterCarrier _ _ _ _
  · exact ⟨.rfl, id, id⟩
  · exact ⟨.rfl, id, id⟩
  · exact ⟨.rfl, id, id⟩

/-! ## Delivery -/

theorem keeps_deliverToRole {n : Nat} {p : Payload} (h : Keeps s t) : Keeps s (deliverToRole n p t) := by
  unfold deliverToRole
  split
  · exact h
  cases p with
  | offer => exact keeps_cellOffer h
  | claim => exact keeps_stageClaim h
  | grant => exact keeps_cellGrant h
  | accept => exact keeps_stageAccept h
  | revoke => exact keeps_cellRevoke h
  | return_ => exact keeps_stageReturn h
  | lotDone => exact keeps_ite (fun _ => keeps_stageLotDone h) fun _ => keeps_packLotDone h
  | doneTaken => exact keeps_cellDoneTaken h
  | handlerWanted => exact keeps_handlerWanted h
  | handlerAvailable => exact keeps_cellAvailable h
  | reserve => exact keeps_reserve h
  | reserveReply => exact keeps_cellReserveReply h
  | bindReq => exact keeps_bindReq h
  | bindReply => exact keeps_cellBindReply h
  | bindConfirm => exact keeps_bindConfirm h
  | unbind => exact keeps_ite (fun _ => keeps_cellUnbind h) fun _ => keeps_handlerUnbind h
  | permit => exact keeps_takePermit h
  | handlerStatus => exact keeps_cellStatus h
  | siteDown => exact keeps_siteDownFrame h
  | beacon | release | hold | clear | holdListReq | holdList | holdListNone | raw => exact h

theorem keeps_deliver {n : Nat} {p : Payload} (h : Keeps s t) : Keeps s (deliver n p t) := by
  unfold deliver
  split
  · exact keeps_deliverBeacon h
  · exact keeps_deliverHold h
  · exact keeps_deliverClear h
  · exact keeps_answerRequest h
  · exact keeps_deliverHoldList h
  · exact keeps_resyncNone h
  · exact keeps_deliverToRole h

/-- A latch is not of the transmitter. -/
theorem keeps_setLatches {l : LinkLatches} (h : Keeps s t) :
    Keeps s (t.setLink { t.link with latches := l }) := keeps_setLink h ⟨.rfl, id, id⟩

theorem keeps_qualify {f : Header} {p : Payload} (h : Keeps s t) : Keeps s (qualify f p t) := by
  unfold qualify
  split
  · exact h
  split
  · exact keeps_setLatches h
  split
  · exact h
  split
  · exact keeps_setLatches h
  · exact keeps_deliver h

/-! ## The station port -/

theorem keeps_setOutcome {a : Answer} {n : Nat} (h : Keeps s t) : Keeps s (setOutcome a n t) :=
  keeps_setPort h ⟨id, id⟩

theorem keeps_fail {k : ErrorKind} {n : Nat} (h : Keeps s t) : Keeps s (fail k n t) :=
  keeps_setOutcome (keeps_setPort h ⟨id, id⟩)

theorem keeps_releaseAbandoned (h : Keeps s t) : Keeps s (releaseAbandoned t) := keeps_setPort h ⟨id, id⟩

theorem keeps_selectChip (h : Keeps s t) : Keeps s (selectChip t) :=
  keeps_ite (fun _ => h) fun _ => keeps_setPort h ⟨id, id⟩

/-- Every command but RESTART leaves the station state; the bins of a BIN REPORT are held to 16 by the CONTENT
check (R172). -/
theorem keeps_runCommand {c : PortCommand} (h : Keeps s t) (ok : commandOk t c = true)
    (stays : c ≠ .restart) : Keeps s (runCommand c t).1 := by
  cases c with
  | restart => exact absurd rfl stays
  | binReport m bins =>
    exact keeps_binReport (fun b hb => by simpa using List.all_eq_true.1 ok b hb) h
  | readDiagnostics => exact keeps_setPort (keeps_setLink h ⟨.rfl, id, id⟩) ⟨id, id⟩
  | readEvent =>
    exact keeps_setPort h ⟨((List.drop_sublist _ _).length_le.trans ·), id⟩
  | readPeer n part =>
    unfold runCommand readPeer
    dsimp only
    split
    · exact keeps_updatePeer h
    · exact h
  | readRelease lot part =>
    unfold runCommand readReleaseCommand
    dsimp only
    split
    · exact h
    · split <;> exact h
  | placeHold => exact keeps_placeHoldCommand h
  | disposition => exact keeps_dispose h
  | armWatch => exact keeps_setPort h ⟨id, fun len => by simpa using len⟩
  | disarmWatch => exact keeps_setPort h ⟨id, fun len => by simpa using len⟩
  | lotArrived => exact keeps_lotArrived h
  | lotIssued => exact keeps_lotIssued h
  | lotReturned => exact keeps_lotReturned h
  | lotRemoved => exact keeps_lotRemoved h
  | dock => exact keeps_dock h
  | undock => exact keeps_undock h
  | requestHandler => exact keeps_requestHandler h
  | unqueue => exact keeps_unqueue h
  | lotLoaded => exact keeps_lotLoaded h
  | endPass => exact keeps_endPass h
  | lotUnloaded => exact keeps_lotUnloaded h
  | limitSetA => exact keeps_limitSetA h
  | limitSetB => exact keeps_limitSetB h
  | limitClear => exact keeps_limitClear h
  | tempReached => exact keeps_tempReached h
  | tempLost => exact keeps_tempLost h
  | unitIndexed => exact keeps_unitIndexed h
  | kitChanged => exact keeps_setHandler h ⟨id, id⟩
  | contactorReplaced => exact keeps_updateSite h
  | contactorCount => exact keeps_contactorCount h
  | siteRestore => exact keeps_siteRestore h
  | reArm => exact keeps_reArm h
  | packDone => exact keeps_packDone h
  | nop | readStatus | readHold | readStage | readLot | readQueue | readSighting | readSite | readOutbox
  | readHandler | readPack => exact h

/-! ## The timers -/

theorem keeps_expire {m : Option Nat} {act : State → State} (h : Keeps s t)
    (k : ∀ n, Keeps s (t.setNow n) → m ≠ none → Keeps s (act (t.setNow n))) : Keeps s (expire m act t) := by
  cases m with
  | none => exact h
  | some d => exact k _ (keeps_setNow h _) nofun

theorem keeps_lossExpiry {n : Nat} (h : Keeps s t) : Keeps s (lossExpiry n t) :=
  keeps_expire h fun _ k _ => keeps_losePeer k

theorem keeps_answerExpiry (h : Keeps s t) : Keeps s (answerExpiry t) := by
  unfold answerExpiry
  split
  · exact keeps_resyncExpiry (keeps_setNow h _)
  · exact h

theorem keeps_spacingExpiry (h : Keeps s t) : Keeps s (spacingExpiry t) :=
  keeps_expire h fun _ k _ => keeps_resyncTest (keeps_setResync k)

theorem keeps_windowExpiry {i j : Nat} (h : Keeps s t) : Keeps s (windowExpiry i j t) :=
  keeps_expire h fun _ k _ => keeps_grantBest k

theorem keeps_acceptExpiry {i j : Nat} (h : Keeps s t) : Keeps s (acceptExpiry i j t) := by
  unfold acceptExpiry
  split
  · exact keeps_expire h fun _ k _ => keeps_endGrant k
  · exact h

theorem keeps_ageSighting {i j : Nat} (h : Keeps s t) : Keeps s (ageSighting i j t) := by
  unfold ageSighting
  split
  · exact keeps_expire h fun _ k _ => keeps_dropSighting k
  · exact h

theorem keeps_lapseExpiry {i j : Nat} (h : Keeps s t) : Keeps s (lapseExpiry i j t) := by
  unfold lapseExpiry
  split
  · exact keeps_expire h fun _ k _ => keeps_lapseClaim k
  · exact h

theorem keeps_permitExpiry (h : Keeps s t) : Keeps s (permitExpiry t) :=
  keeps_setCell (keeps_sendPermit h) (.rest rfl)

theorem keeps_windowClosed (h : Keeps s t) : Keeps s (windowClosed t) := by
  unfold windowClosed
  split
  · next eq => exact keeps_tryCandidates h fun k => by simpa [eq, candidateCount] using k
  · exact h

theorem keeps_cellDeadlinePast (h : Keeps s t) : Keeps s (cellDeadlinePast t) := by
  unfold cellDeadlinePast
  split
  · exact keeps_raise (keeps_noCandidates h rfl)
  · exact h

theorem keeps_handlerDeadlinePast (h : Keeps s t) : Keeps s (handlerDeadlinePast t) :=
  keeps_ite (fun _ => keeps_lapseReservation h) fun _ => h

end Sys2Proof.Machine
end

section
/-! PROOFS. What a command does to the whole part: the resets, the changes of station state, and the events that
keep the station as it is (`exec_cases`); and what every step preserves (`step_preserves`). -/
namespace Sys2Proof.Machine

variable {s t u : State}

/-! ## What is preserved through the changes of station state -/

/-- The second state keeps every promise of Safe that the first keeps, the two output pins and the owed status
apart, which the end of an event sets. -/
structure Preserves (s t : State) : Prop where
  link : LinkRight s → LinkRight t
  queue : s.link.queue.length ≤ Config.queueSize → t.link.queue.length ≤ Config.queueSize
  peers : s.peers.table.length = 40 → t.peers.table.length = 40
  holds : s.holds.Right → t.holds.Right
  products : s.limits.products.length ≤ Config.productSize ∧
      s.start.config.limits.products.length ≤ Config.productSize →
    t.limits.products.length ≤ Config.productSize ∧
      t.start.config.limits.products.length ≤ Config.productSize
  stage : StageKept s.stage t.stage
  cell : CellKept s.cell t.cell
  handler : HandlerKept s.handler t.handler
  pack : PackKept s.pack t.pack
  port : PortKept s.port t.port

theorem isLive_congr (h : t.start = s.start) : t.isLive = s.isLive := by simp [State.isLive, h]

theorem Keeps.preserves (h : Keeps s t) : Preserves s t where
  link := fun ⟨⟨live, off, empty⟩, head⟩ => by
    obtain ⟨soff, sempty, shead⟩ := h.link.sound ⟨off, empty, head⟩
    exact ⟨⟨by rw [h.link.off, isLive_congr h.start]; exact live, soff, sempty⟩, shead⟩
  queue := h.link.size
  peers := h.peers
  holds := h.holds
  products := fun ⟨now, loaded⟩ => ⟨h.limits now, h.start ▸ loaded⟩
  stage := h.stage
  cell := h.cell
  handler := h.handler
  pack := h.pack
  port := h.port

theorem Preserves.trans (h : Preserves s t) (k : Preserves t u) : Preserves s u where
  link := k.link ∘ h.link
  queue := k.queue ∘ h.queue
  peers := k.peers ∘ h.peers
  holds := k.holds ∘ h.holds
  products := k.products ∘ h.products
  stage := h.stage.trans k.stage
  cell := h.cell.trans k.cell
  handler := h.handler.trans k.handler
  pack := h.pack.trans k.pack
  port := h.port.trans k.port

/-! ## Full-reset values -/

theorem digestOf_nil : digestOf [] = 0 := by decide

theorem holdTable_reset_right : HoldTable.reset.Right := ⟨.nil, Nat.zero_le _, digestOf_nil.symm⟩

theorem cell_reset_apart : Cell.reset.Apart :=
  ⟨Nat.zero_le _, .nil, .nil, fun _ none => by cases none⟩

theorem cellKept_reset (c : Cell) : CellKept c Cell.reset where
  balance := fun _ _ none => by cases none
  tallies := fun _ _ none => by cases none
  apart := fun _ => cell_reset_apart
  sightings := fun _ => Nat.zero_le _
  outbox := fun _ => Nat.zero_le _
  marks := fun _ => rfl
  candidates := fun _ => Nat.zero_le _

theorem handlerKept_reset (h : Handler) (kit : Nat) : HandlerKept h (Handler.reset kit) :=
  ⟨fun _ => ⟨fun _ => rfl, fun _ => rfl⟩, fun _ => rfl⟩

/-- The full-reset values keep every promise. -/
theorem preserves_fullReset (number : Nat) (role : Role) (held jam : Bool) (waiting : List Instr) :
    Preserves s (State.fullReset number role held jam waiting) where
  link := fun _ => ⟨⟨iff_of_true rfl rfl, fun _ => rfl, fun _ => rfl⟩, fun _ => by simp_all [State.fullReset, Link.reset]⟩
  queue := fun _ => Nat.zero_le _
  peers := fun _ => rfl
  holds := fun _ => holdTable_reset_right
  products := fun _ => ⟨Nat.zero_le _, Nat.zero_le _⟩
  stage := ⟨fun _ => Nat.zero_le _, fun _ _ none => by cases none⟩
  cell := cellKept_reset _
  handler := handlerKept_reset _ _
  pack := ⟨fun _ => Nat.zero_le _, fun _ _ none => by cases none⟩
  port := ⟨fun _ => Nat.zero_le _, fun _ => rfl⟩

theorem keeps_setAbandoned (h : Keeps s t) (b : Bool) :
    Keeps s (t.setPort { t.port with abandoned := b }) := keeps_setPort h ⟨id, id⟩

theorem preserves_fullResetOf (n : BitVec 6) (r : BitVec 2) : Preserves s (fullReset n r s) :=
  (preserves_fullReset _ _ _ _ _).trans (keeps_setAbandoned (.refl _) _).preserves

theorem preserves_holdReset : Preserves s (holdReset s) :=
  (preserves_fullReset _ _ _ _ _).trans (keeps_setAbandoned (.refl _) _).preserves

/-! ## The limit table of an image (R183) -/

/-- A settings' limit table is within its size. -/
def SettingsFit (c : Settings) : Prop := c.limits.products.length ≤ Config.productSize

theorem length_loadSlot_le (w : Nat → Nat) (d : LimitEntry) (acc : List (Nat × LimitEntry) × Bool) (n : Nat) :
    (loadSlot w d acc n).1.length ≤ acc.1.length + 1 := by
  unfold loadSlot
  dsimp only
  split
  · omega
  split
  · simp
  · simp

theorem length_loadSlots_le (w : Nat → Nat) (d : LimitEntry) (ns : List Nat)
    (acc : List (Nat × LimitEntry) × Bool) :
    (ns.foldl (loadSlot w d) acc).1.length ≤ acc.1.length + ns.length := by
  induction ns generalizing acc with
  | nil => simp
  | cons n ns ih =>
    have first := length_loadSlot_le w d acc n
    have rest := ih (loadSlot w d acc n)
    simp only [List.foldl_cons, List.length_cons]
    omega

theorem fits_loadGroup {w : Nat → Nat} {n : Nat} {load : (Nat → Nat) → Settings → Settings × Bool}
    {c : Settings × Bool} (h : SettingsFit c.1) (k : ∀ d, SettingsFit d → SettingsFit (load w d).1) :
    SettingsFit (loadGroup w n load c).1 := by
  unfold loadGroup
  split
  · exact k _ h
  · exact h

theorem fits_loadImage (w : Nat → Nat) : SettingsFit (loadImage w).1 := by
  refine fits_loadGroup ?_ fun d _ => length_loadSlots_le w d.limits.default [0, 1, 2, 3, 4, 5, 6, 7] ([], false)
  iterate 6 refine fits_loadGroup ?_ fun d h => h
  exact Nat.zero_le _

theorem fits_configOf (r : ImageRead) : SettingsFit (configOf r).1 := by
  unfold configOf
  split
  · exact fits_loadImage _
  · exact Nat.zero_le _

/-! ## The changes of station state -/

theorem candidateCount_stopTimers (c : Cell) :
    candidateCount c.stopTimers.reservation = candidateCount c.reservation := by
  unfold Cell.stopTimers
  dsimp only
  split <;> simp [*, candidateCount]

theorem cellKept_stopTimers (c : Cell) : CellKept c c.stopTimers :=
  ⟨id, id, id, id, id, id, fun h => (candidateCount_stopTimers c).trans_le h⟩

theorem stageKept_stopTimers (g : Stage) : StageKept g g.stopTimers := by
  refine ⟨by simp [Stage.stopTimers], fun small e he => ?_⟩
  obtain ⟨x, hx, rfl⟩ := List.mem_map.1 he
  exact small x hx

theorem handlerKept_stopTimers (h : Handler) : HandlerKept h h.stopTimers :=
  ⟨fun right => ⟨fun _ => rfl, right.2⟩, id⟩

theorem preserves_enterSilent (cause : SilentCause) : Preserves s (enterSilent cause s) where
  link := fun _ => ⟨⟨iff_of_true rfl rfl, fun _ => rfl, fun _ => rfl⟩, fun on => by simp [enterSilent, setResync] at on⟩
  queue := fun _ => Nat.zero_le _
  peers := id
  holds := id
  products := id
  stage := stageKept_stopTimers _
  cell := cellKept_stopTimers _
  handler := handlerKept_stopTimers _
  pack := .refl _
  port := .refl _

/-- A station that is not live enters LEARNING with an empty queue (R13). -/
theorem preserves_enterLearning (dead : s.isLive = false) : Preserves s (enterLearning s) := by
  let s1 := s.setStart { s.start with
    station := .learning, cause := .none, learning := s.after (3 * s.beaconMs) }
  let s2 := s1.setPeers { s1.peers with beaconTimer := s1.after (s1.own * 25) }
  let s3 := s2.setLink { s2.link with tx := .empty, line := .joining }
  have entered : Preserves s s3 :=
    { link := fun ⟨⟨off, idle, _⟩, _⟩ =>
        have none : s.link.queue = [] := idle (off.2 dead)
        ⟨⟨by simp [s3, s2, s1, State.isLive], fun _ => none, fun _ => none⟩, by simp [s3]⟩
      queue := id, peers := id, holds := id, products := id, stage := .refl _, cell := .refl _,
      handler := .refl _, pack := .refl _, port := .refl _ }
  have tested : Keeps s3 (resyncTest s3) := keeps_resyncTest (.refl _)
  exact entered.trans (keeps_ite (fun _ => keeps_jamAsserted tested) fun _ => tested).preserves

theorem preserves_endStart (r : ImageRead) : Preserves s (endStart r s) := by
  unfold endStart
  split
  · exact (Keeps.refl s).preserves
  · next start =>
    dsimp only
    have loaded : Preserves s (((s.setStart { s.start with
        image := imageOutcome r, clamped := (configOf r).2, config := (configOf r).1 }).setLimits
          (configOf r).1.limits).setHandler (Handler.reset (configOf r).1.kit)) :=
      { link := id, queue := id, peers := id, holds := id,
        products := fun _ => ⟨fits_configOf r, fits_configOf r⟩, stage := .refl _, cell := .refl _,
        handler := handlerKept_reset _ _, pack := .refl _, port := .refl _ }
    have joining {l : LineState} {v : State} : Preserves v (v.setLink { v.link with line := l }) :=
      (keeps_setLink (l := { v.link with line := l }) (.refl v) ⟨.rfl, id, id⟩).preserves
    split
    · exact loaded.trans (joining.trans (preserves_enterSilent _))
    split
    · exact loaded.trans (joining.trans (preserves_enterSilent _))
    · refine loaded.trans (preserves_enterLearning ?_)
      simp only [ne_eq, not_not] at start
      simp [State.isLive, start]

theorem preserves_enterActive (learning : s.start.station = .learning) : Preserves s (enterActive s) := by
  have active {g : Stage} (kept : StageKept s.stage g) :
      Preserves s ((s.setStart { s.start with station := .active, learning := none }).setStage g) :=
    { link := fun ⟨⟨off, idle, empty⟩, head⟩ =>
        ⟨⟨by simpa [State.isLive, learning] using off, idle, empty⟩, head⟩
      queue := id, peers := id, holds := id, products := id, stage := kept, cell := .refl _,
      handler := .refl _, pack := .refl _, port := .refl _ }
  have tested {v : State} (h : Preserves s v) : Preserves s (resyncTest v) :=
    h.trans (keeps_resyncTest (.refl v)).preserves
  unfold enterActive
  dsimp only
  split
  · exact tested (active ⟨id, id⟩)
  · exact tested (active (.refl s.stage))

theorem preserves_softRestart : Preserves s (softRestart s) := by
  let r := State.fullReset s.start.number s.start.role false s.pins.jamIn s.pending
  let r1 := r.setStart { r.start with
    image := s.start.image, clamped := s.start.clamped, config := s.start.config }
  let r2 := (r1.setLimits s.start.config.limits).setHandler (Handler.reset s.start.config.kit)
  have reset : Preserves s r := preserves_fullReset _ _ _ _ _
  have restarted : Preserves s (r2.setPort (Port.reset 0x0B)) :=
    { link := reset.link, queue := reset.queue, peers := reset.peers, holds := reset.holds,
      products := fun both => ⟨both.2, both.2⟩, stage := reset.stage, cell := reset.cell,
      handler := handlerKept_reset _ _, pack := reset.pack,
      port := ⟨fun _ => Nat.zero_le _, fun _ => rfl⟩ }
  exact restarted.trans (preserves_enterLearning rfl)

/-! ## The body of an event -/

/-- The bytes of a transaction spell RESTART and pass the LENGTH and CHECK checks (R172). -/
def SpellsRestart (x : Transaction) : Prop :=
  8 * x.bytes.length + x.extraEdges = 160 ∧ echoOf x = 0x0B ∧
    crc8 (x.bytes.take 19) = x.bytes.getD 19 0

/-- What the body of a command's event makes of the part: it leaves the station state, or ends START, LEARNING or
the live states, or restarts. -/
inductive Moves (c : Instr) (s : State) : State → Prop
  | stays {u : State} (h : Keeps s u) : Moves c s u
  | startEnds (r : ImageRead) : Moves c s (endStart r s)
  | learned (d : Nat) (learning : s.start.station = .learning) : Moves c s (enterActive (s.setNow d))
  | silenced {u : State} (h : Keeps s u) (live : s.isLive = true) :
      Moves c s (raise .dupId (enterSilent .dupId u))
  | restarts (asked : c = .restart ∨ ∃ x, c = .unknownTransaction x ∧ SpellsRestart x)
      (may : available s .restart = true) : Moves c s (setOutcome .start 0x0B (softRestart s))

theorem Moves.preserves {c : Instr} (h : Moves c s t) : Preserves s t := by
  cases h with
  | stays h => exact h.preserves
  | startEnds r => exact preserves_endStart r
  | learned d learning =>
    exact (keeps_setNow (.refl s) d).preserves.trans (preserves_enterActive (by simpa using learning))
  | silenced h =>
    exact (h.preserves.trans (preserves_enterSilent _)).trans (keeps_raise (.refl _)).preserves
  | restarts => exact preserves_softRestart.trans (keeps_setOutcome (.refl _)).preserves

theorem moves_receiveFrame {c : Instr} {f : Header} {p : Payload} : Moves c s (receiveFrame f p s) := by
  have ended {n : Nat} : Keeps s (s.setLink (s.link.afterTransmission n)) := keeps_afterTransmission (.refl s)
  unfold receiveFrame
  split
  · exact .stays (.refl s)
  split
  · unfold takeFrame
    dsimp only
    split
    · unfold duplicate
      have latched := keeps_setLatches (l := { s.link.latches with dupId := true })
        (ended (n := f.source))
      dsimp only
      split
      · next live => exact .silenced latched (by simpa using live)
      · exact .stays latched
    · exact .stays (keeps_qualify (keeps_offerWatches (keeps_hear ended)))
  · exact .stays (keeps_setLatches ended)

theorem moves_receiveBytes {c : Instr} {r : Reception} : Moves c s (receiveBytes r s) := by
  have ended : Keeps s (unqualified s) := keeps_afterTransmission (.refl s)
  unfold receiveBytes
  split
  · exact .stays (.refl s)
  split
  · exact .stays (keeps_setLatches ended)
  split
  · exact .stays (keeps_setLatches ended)
  · exact moves_receiveFrame

theorem moves_transact {c : Instr} {p : PortCommand}
    (asked : p = .restart → c = .restart ∨ ∃ x, c = .unknownTransaction x ∧ SpellsRestart x) :
    Moves c s (transact p s) := by
  unfold transact
  split
  · exact .stays (keeps_releaseAbandoned (.refl s))
  split
  · exact .stays (keeps_fail (.refl s))
  split
  · exact .stays (keeps_fail (.refl s))
  · next ok =>
    split
    · exact .stays (keeps_setOutcome (.refl s))
    · next may =>
      by_cases restart : p = .restart
      · subst restart
        exact .restarts (asked rfl) (by simpa [availability] using may)
      · exact .stays (keeps_setOutcome (keeps_runCommand (.refl s) (by simpa using ok) restart))

theorem readCommand_restart {code : Nat} {bs : List Byte} (h : readCommand code bs = some .restart) :
    code = 0x0B := by
  unfold readCommand at h
  split at h
  case h_11 => rfl
  case h_7 | h_9 =>
    obtain ⟨_, _, spelled⟩ := Option.map_eq_some_iff.1 h
    cases spelled
  case h_8 => split at h <;> cases h
  all_goals cases h

theorem moves_transactBytes {x : Transaction} :
    Moves (.unknownTransaction x) s (transactBytes x s) := by
  unfold transactBytes
  split
  · exact .stays (keeps_releaseAbandoned (.refl s))
  split
  · exact .stays (keeps_fail (.refl s))
  · next whole =>
    split
    · exact .stays (keeps_fail (.refl s))
    · next check =>
      split
      · exact .stays (keeps_fail (.refl s))
      split
      · next read =>
        refine moves_transact fun restart => .inr ⟨x, rfl, ?_, ?_, ?_⟩
        · simpa [edgesOf] using whole
        · exact readCommand_restart (restart ▸ read)
        · simpa using check
      · exact .stays (keeps_fail (.refl s))

theorem moves_learned {c : Instr} : Moves c s (expire (learningTimer s) enterActive s) := by
  unfold learningTimer
  split
  · next learning =>
    cases s.start.learning with
    | none => exact .stays (.refl s)
    | some d => exact .learned _ learning
  · exact .stays (.refl s)

/-! ## What a command does -/

/-- A frame row is the frame with its header, taken in an event. -/
theorem exec_of_payload {c : Instr} {p : Payload} (h : Instr.payload? c = some p) :
    ∃ f, exec c s = .next (event (receiveFrame f p) s) := by
  cases c <;> cases h <;> exact ⟨_, rfl⟩

/-- A port row is its command, taken in an event. -/
theorem exec_of_command {c : Instr} {p : PortCommand} (h : Instr.command? c = some p) :
    exec c s = .next (event (transact p) s) := by
  cases c <;> cases h <;> rfl

theorem eq_restart_of_command {c : Instr} (h : Instr.command? c = some .restart) : c = .restart := by
  cases c <;> cases h; rfl

/-- What a command does: it is a reset or a change of the JAM input, or an event whose body moves the part. -/
inductive Does (c : Instr) (s : State) : State → Prop
  | released (n : BitVec 6) (r : BitVec 2) (is : c = .resetRelease n r) : Does c s (fullReset n r s)
  | asserted (is : c = .resetAssert) : Does c s (holdReset s)
  | jammed (is : c = .jamAssertion) : Does c s (assertJam s)
  | unjammed (is : c = .jamRelease) : Does c s (releaseJam s)
  | happens (body : State → State) (h : Moves c s (body s)) : Does c s (event body s)

theorem exec_does (c : Instr) : ∃ t, exec c s = .next t ∧ Does c s t := by
  have event {body : State → State} (k : Moves c s (body s)) : Does c s (event body s) := .happens body k
  cases payload : Instr.payload? c with
  | some p =>
    obtain ⟨f, runs⟩ := exec_of_payload (s := s) payload
    exact ⟨_, runs, event moves_receiveFrame⟩
  | none =>
  cases command : Instr.command? c with
  | some p =>
    exact ⟨_, exec_of_command command, event (moves_transact fun restart =>
      .inl (eq_restart_of_command (restart ▸ command)))⟩
  | none =>
  have stays {body : State → State} (k : Keeps s (body s)) (e : exec c s = .next (Machine.event body s)) :
      ∃ t, exec c s = .next t ∧ Does c s t := ⟨_, e, event (.stays k)⟩
  have timed {m : State → Option Nat} {act : State → State}
      (e : exec c s = .next (Machine.event (fun v => expire (m v) act v) s))
      (k : ∀ n, Keeps s (s.setNow n) → m s ≠ none → Keeps s (act (s.setNow n))) :
      ∃ t, exec c s = .next t ∧ Does c s t := stays (keeps_expire (.refl s) k) e
  cases c
  case resetRelease n r => exact ⟨_, rfl, .released n r rfl⟩
  case resetAssert => exact ⟨_, rfl, .asserted rfl⟩
  case jamAssertion => exact ⟨_, rfl, .jammed rfl⟩
  case jamRelease => exact ⟨_, rfl, .unjammed rfl⟩
  case startEnd r => exact ⟨_, rfl, event (.startEnds r)⟩
  case learningTimerExpiry => exact ⟨_, rfl, .happens _ moves_learned⟩
  case transmissionEnd => exact ⟨_, rfl, event moves_receiveBytes⟩
  case unknownTransaction => exact ⟨_, rfl, event moves_transactBytes⟩
  case lineJoin => exact stays (keeps_joinLine (.refl s)) rfl
  case carrierDetect => exact stays (keeps_carrier (.refl s)) rfl
  case transmitStart => exact stays (keeps_beginAttempt (.refl s)) rfl
  case frameSent => exact stays (keeps_endClean (.refl s)) rfl
  case collision => exact stays (keeps_collide (.refl s)) rfl
  case disturbanceEnd => exact stays (keeps_endDisturbance (.refl s)) rfl
  case backoffRoundOver => exact stays (keeps_roundOver (.refl s)) rfl
  case csAssert => exact stays (keeps_selectChip (.refl s)) rfl
  case lossTimerExpiry => exact stays (keeps_lossExpiry (.refl s)) rfl
  case answerTimerExpiry => exact stays (keeps_answerExpiry (.refl s)) rfl
  case resyncSpacingExpiry => exact stays (keeps_spacingExpiry (.refl s)) rfl
  case contestWindowExpiry => exact stays (keeps_windowExpiry (.refl s)) rfl
  case acceptTimerExpiry => exact stays (keeps_acceptExpiry (.refl s)) rfl
  case sightingAgeing => exact stays (keeps_ageSighting (.refl s)) rfl
  case claimLapse => exact stays (keeps_lapseExpiry (.refl s)) rfl
  case beaconTimerExpiry => exact timed rfl fun _ h _ => keeps_beaconExpiry h
  case offerTimerExpiry => exact timed rfl fun _ h _ => keeps_offerExpiry h
  case permitTimerExpiry => exact timed rfl fun _ h _ => keeps_permitExpiry h
  case deliveryTimerExpiry => exact timed rfl fun _ h _ => keeps_deliveryExpiry h
  case idleTimerExpiry => exact timed rfl fun _ h _ => keeps_setCell h (.rest rfl)
  case handlerWantedSpacingExpiry => exact timed rfl fun _ h _ => keeps_setCell h (.rest rfl)
  case replyWindowExpiry => exact timed rfl fun _ h _ => keeps_windowClosed h
  case replyTimerExpiry => exact timed rfl fun _ h _ => keeps_candidateOut h
  case cellReservationDeadline => exact timed rfl fun _ h _ => keeps_cellDeadlinePast h
  case cellBindTimerExpiry => exact timed rfl fun _ h _ => keeps_cellBindExpiry h
  case reservationDeadline => exact timed rfl fun _ h _ => keeps_handlerDeadlinePast h
  case bindTimerExpiry =>
    refine timed rfl fun _ h runs => keeps_failHandshake h ?_
    simpa [handlerBindTimer] using (ite_ne_right_iff.1 runs).1
  case orphanTimerExpiry => exact timed rfl fun _ h _ => keeps_orphanExpiry h
  case soakTimerExpiry => exact timed rfl fun _ h _ => keeps_setHandler h ⟨id, id⟩
  case graceTimerExpiry => exact timed rfl fun _ h _ => keeps_setHandler h ⟨id, id⟩
  case statusTimerExpiry => exact timed rfl fun _ h _ => keeps_setHandler h ⟨id, id⟩
  all_goals first | (cases payload; done) | (cases command)

end Sys2Proof.Machine
end

section
/-! PROOFS. What every step keeps: the invariants of Safe, read off from what a command does. -/
namespace Sys2Proof.Machine

variable {s t : State}

/-! ## Through a step -/

theorem preserves_settle {b : State} (h : Preserves s t) : Preserves s (settle b t) :=
  h.trans (keeps_settle (.refl t)).preserves

theorem preserves_event {body : State → State} (h : Preserves s (body s)) : Preserves s (event body s) := by
  unfold event
  split
  · exact (Keeps.refl s).preserves
  · exact preserves_settle h

theorem preserves_assertJam : Preserves s (assertJam s) := by
  have raised : Keeps s (s.setPins { s.pins with jamIn := true }) := keeps_setPins (.refl s) _
  unfold assertJam
  dsimp only
  split
  · exact raised.preserves
  split
  · exact (Keeps.refl s).preserves
  · exact preserves_settle (keeps_jamAsserted raised).preserves

theorem Does.preserves {c : Instr} (h : Does c s t) : Preserves s t := by
  cases h with
  | released n r => exact preserves_fullResetOf n r
  | asserted => exact preserves_holdReset
  | jammed => exact preserves_assertJam
  | unjammed => exact (keeps_setPins (.refl s) _).preserves
  | happens body moves => exact preserves_event moves.preserves

theorem keeps_idle : Keeps s (idle s) := by
  unfold idle
  split
  · exact .refl s
  split
  · exact keeps_setPending (.refl s) _
  · exact keeps_setNow (.refl s) _

/-- A step does what the command at the front of the queue does, or idles. -/
theorem step_cases (h : step s = .next t) :
    (∃ c rest, s.pending = c :: rest ∧ Does c (s.setPending rest) t) ∨ s.pending = [] ∧ t = idle s := by
  unfold step at h
  split at h
  · next c rest front =>
    obtain ⟨u, runs, does⟩ := exec_does (s := s.setPending rest) c
    obtain rfl : u = t := by simpa [runs] using h
    exact .inl ⟨c, rest, front, does⟩
  · next empty => exact .inr ⟨empty, by simpa using h.symm⟩

theorem step_preserves (h : step s = .next t) : Preserves s t := by
  obtain ⟨c, rest, -, does⟩ | ⟨-, rfl⟩ := step_cases h
  · exact (keeps_setPending (.refl s) rest).preserves.trans does.preserves
  · exact keeps_idle.preserves

/-! ## What the end of an event settles -/

/-- The end of an event leaves no status owed (R110). -/
theorem nothingOwed_settle (b : State) : NothingOwed (settle b s) := by
  have settled (v : State) : NothingOwed (settleHandler b v) := by
    unfold settleHandler
    split
    · dsimp only
      split
      · rfl
      · next due =>
        simp only [Bool.not_eq_true, statusDue, Bool.or_eq_false_iff] at due
        exact due.1.1.1.1.1.1.2
    · rfl
  exact settled _

/-- The end of an event sets both output pins (R109, R178). -/
theorem pinsRight_settle (b : State) : PinsRight (settle b s) := ⟨rfl, rfl⟩

theorem pinsRight_fullReset (number : Nat) (role : Role) (held jam : Bool) (waiting : List Instr) :
    PinsRight (State.fullReset number role held jam waiting) := by
  refine ⟨?_, rfl⟩
  simp [indexConditions, State.fullReset, State.isActive, StartUnit.reset]

theorem nothingOwed_of_does {c : Instr} (h : Does c s t) (owed : NothingOwed s) : NothingOwed t := by
  have ended {body : State → State} : NothingOwed (event body s) := by
    unfold event
    split
    · exact owed
    · exact nothingOwed_settle s
  cases h with
  | released | asserted => rfl
  | jammed =>
    unfold assertJam
    dsimp only
    split
    · exact owed
    split
    · exact owed
    · exact nothingOwed_settle s
  | unjammed => exact owed
  | happens => exact ended

theorem pinsRight_of_does {c : Instr} (h : Does c s t) (right : PinsRight s) : PinsRight t := by
  cases h with
  | released n r => exact pinsRight_fullReset n.toNat (roleStrap r) false s.pins.jamIn s.pending
  | asserted => exact pinsRight_fullReset s.start.number s.start.role true s.pins.jamIn s.pending
  | jammed =>
    unfold assertJam
    dsimp only
    split
    · exact right
    split
    · exact right
    · exact pinsRight_settle s
  | unjammed => exact right
  | happens =>
    unfold event
    split
    · exact right
    · exact pinsRight_settle s

theorem idle_cases : idle s = s ∨ (∃ c, idle s = s.setPending c) ∨ ∃ n, idle s = s.setNow n := by
  unfold idle
  split
  · exact .inl rfl
  split
  · exact .inr (.inl ⟨_, rfl⟩)
  · exact .inr (.inr ⟨_, rfl⟩)

theorem nothingOwed_step (h : step s = .next t) (owed : NothingOwed s) : NothingOwed t := by
  obtain ⟨c, rest, -, does⟩ | ⟨-, rfl⟩ := step_cases h
  · exact nothingOwed_of_does does owed
  · obtain same | ⟨c, queued⟩ | ⟨n, later⟩ := idle_cases (s := s)
    · rwa [same]
    · rwa [queued]
    · rwa [later]

theorem pinsRight_step (h : step s = .next t) (right : PinsRight s) : PinsRight t := by
  obtain ⟨c, rest, -, does⟩ | ⟨-, rfl⟩ := step_cases h
  · exact pinsRight_of_does does right
  · obtain same | ⟨c, queued⟩ | ⟨n, later⟩ := idle_cases (s := s)
    · rwa [same]
    · rwa [queued]
    · rwa [later]

/-! ## The conditions of INDEX-ENABLE -/

@[simp] theorem mem_siteNumbers {n : Nat} : n ∈ siteNumbers ↔ 1 ≤ n ∧ n ≤ 8 := by
  simp only [siteNumbers, List.mem_cons, List.not_mem_nil, or_false]
  omega

theorem siteOk_iff {n : Nat} : siteOk s n = true ↔ 1 ≤ n ∧ n ≤ s.start.config.siteCount := within_iff

theorem maskHas_maskAdd {w m n : Nat} (x : BitVec w) (low : 1 ≤ m) (high : m ≤ w) :
    maskHas (maskAdd x m) n = (maskHas x n || m == n) := by
  rw [Bool.eq_iff_iff]
  simp only [maskHas, maskAdd, BitVec.getLsbD_or, BitVec.getLsbD_twoPow, Bool.and_eq_true,
    Bool.or_eq_true, decide_eq_true_eq, beq_iff_eq]
  constructor
  · rintro ⟨one, has | ⟨_, same⟩⟩
    · exact .inl ⟨one, has⟩
    · exact .inr (by omega)
  · rintro (⟨one, has⟩ | rfl)
    · exact ⟨one, .inl has⟩
    · exact ⟨low, .inr ⟨by omega, rfl⟩⟩

/-- A mask gathered from the numbers of a list has those that were there and those that are picked. -/
theorem maskHas_foldl {w : Nat} (pick : Nat → Bool) (l : List Nat) (x : BitVec w)
    (l_within : ∀ n ∈ l, 1 ≤ n ∧ n ≤ w) (n : Nat) :
    maskHas (l.foldl (fun m k => if pick k then maskAdd m k else m) x) n = true ↔
      maskHas x n = true ∨ n ∈ l ∧ pick n = true := by
  induction l generalizing x with
  | nil => simp
  | cons k l ih =>
    obtain ⟨low, high⟩ := l_within k List.mem_cons_self
    rw [List.foldl_cons, ih _ fun i mem => l_within i (List.mem_cons_of_mem k mem)]
    by_cases picked : pick k = true
    · simp only [picked, if_true, maskHas_maskAdd x low high, Bool.or_eq_true, beq_iff_eq, List.mem_cons]
      grind
    · simp only [picked]
      grind

/-- The site mask has the sites 1 to S that are up (R94). -/
theorem maskHas_siteMask {n : Nat} : maskHas (siteMask s) n = true ↔
    1 ≤ n ∧ n ≤ 8 ∧ n ≤ s.start.config.siteCount ∧ (siteAt s.handler n).status = .up := by
  rw [siteMask, maskHas_foldl (fun k => siteOk s k && (siteAt s.handler k).status == .up) siteNumbers 0#8
    fun k mem => mem_siteNumbers.1 mem]
  simp only [maskHas, BitVec.getLsbD_zero, Bool.and_false, Bool.false_eq_true, false_or, mem_siteNumbers,
    Bool.and_eq_true, siteOk_iff, beq_iff_eq]
  constructor
  · rintro ⟨⟨low, high⟩, ⟨-, site⟩, up⟩
    exact ⟨low, high, site, up⟩
  · rintro ⟨low, high, site, up⟩
    exact ⟨⟨low, high⟩, ⟨low, site⟩, up⟩

theorem ne_zero_iff_maskHas {w : Nat} {m : BitVec w} : m ≠ 0#w ↔ ∃ n, maskHas m n = true := by
  constructor
  · intro ne
    by_contra none
    refine ne (BitVec.eq_of_getLsbD_eq fun i _ => ?_)
    have bit : ¬ maskHas m (i + 1) = true := fun has => none ⟨_, has⟩
    simpa [maskHas] using bit
  · rintro ⟨n, has⟩ rfl
    simp [maskHas] at has

theorem siteMask_ne_zero : siteMask s ≠ 0#8 ↔
    ∃ n, 1 ≤ n ∧ n ≤ 8 ∧ n ≤ s.start.config.siteCount ∧ (siteAt s.handler n).status = .up := by
  rw [ne_zero_iff_maskHas]
  exact exists_congr fun _ => maskHas_siteMask

/-- In a sorted list two records of one key are one record (R138). -/
theorem eq_of_sameKey {rs : List StoredHold} (sorted : rs.Pairwise (fun a b => keyBefore a b = true))
    {x y : StoredHold} (mx : x ∈ rs) (my : y ∈ rs) (scope : x.hold.scope = y.hold.scope)
    (key : x.hold.key = y.hold.key) : x = y := by
  have differ : rs.Pairwise fun a b => a.hold.scope = b.hold.scope → a.hold.key = b.hold.key → a = b :=
    sorted.imp fun before scope key => by simp [keyBefore_iff, scope, key] at before
  exact List.Pairwise.forall_of_forall_of_flip (fun _ _ _ _ => rfl) differ
    (differ.imp fun same scope key => (same scope.symm key.symm).symm) mx my scope key

/-- In a sorted list a key has one record, which says whether the key is in force. -/
theorem keyInForce_eq_false {sc : Scope} {key : Nat} (right : HoldsRight s) :
    keyInForce s.holds sc key = false ↔
      ∀ x ∈ s.holds.records, x.hold.scope = sc → x.hold.key = key → x.hold.state ≠ .inForce := by
  unfold keyInForce
  split
  · next r found =>
    obtain ⟨mem, scope, same⟩ := findHold_eq_some found
    rw [beq_eq_false_iff_ne]
    constructor
    · intro cleared x other xscope xkey
      exact eq_of_sameKey right.1 mem other (scope.trans xscope.symm) (same.trans xkey.symm) ▸ cleared
    · exact fun all => all r mem scope same
  · next missing =>
    refine iff_of_true rfl fun x mem scope same => ?_
    exact absurd ⟨scope, same⟩ (findHold_eq_none.1 missing x mem)

theorem indexConditions_iff (right : HoldsRight s) : indexConditions s = true ↔
    s.pins.inReset = false ∧ s.start.role = .handler ∧ s.start.station = .active ∧
      s.handler.rel = .bound ∧ s.handler.permit.run = true ∧ s.handler.permit.lotId ≠ 0 ∧
      (∀ x ∈ s.holds.records, x.hold.scope = .lot → x.hold.key = s.handler.permit.lotId →
        x.hold.state ≠ .inForce) ∧
      s.holds.overflow = false ∧ s.handler.kit = s.handler.permit.kit ∧ s.handler.soak = .ready ∧
      s.handler.target = some s.handler.permit.temp ∧ s.handler.jamLatch = false ∧
      ∃ n, 1 ≤ n ∧ n ≤ 8 ∧ n ≤ s.start.config.siteCount ∧ (siteAt s.handler n).status = .up := by
  rw [← siteMask_ne_zero, ← keyInForce_eq_false right]
  simp only [indexConditions, State.isRole, State.isActive, Bool.and_eq_true, Bool.not_eq_true', beq_iff_eq,
    bne_iff_ne, and_assoc]

/-! ## The statements -/

/-- Settles O5: the reset values keep every promise, with nothing to be kept before them. -/
theorem resetIsSafe : Obligations.ResetIsSafe := by
  have link : LinkRight State.reset := ⟨⟨iff_of_true rfl rfl, fun _ => rfl, fun _ => rfl⟩,
    fun on => by rcases on with on | on | on <;> cases on⟩
  have idle (a : ActiveLot) (is : State.reset.cell.active = some a) : False := by cases is
  exact ⟨pinsRight_fullReset _ _ _ _ _, holdTable_reset_right, ⟨Nat.zero_le _, Nat.zero_le _⟩, link,
    fun a is => (idle a is).elim, ⟨fun _ => rfl, fun _ => rfl⟩,
    ⟨Nat.zero_le _, Nat.zero_le _, Nat.zero_le _, Nat.zero_le _⟩, rfl,
    ⟨rfl, rfl, rfl, rfl, fun a is => (idle a is).elim, fun _ mem => by cases mem⟩, cell_reset_apart,
    ⟨(fun _ mem => by cases mem), Nat.zero_le _, Nat.zero_le _, Nat.zero_le _⟩⟩

/-- Settles O6: every command but the release of the JAM input ends by setting both pins, and nothing else
that a step changes is among their conditions. -/
theorem outputPinsFollowTheState : Obligations.OutputPinsFollowTheState := by
  refine ⟨fun s t right h => pinsRight_step h right, fun s right holds => ⟨?_, ?_⟩⟩
  · rw [right.1, indexConditions_iff holds]
  · rw [right.2]
    simp

/-- Settles O7. -/
theorem holdListKeepsItsForm : Obligations.HoldListKeepsItsForm :=
  fun _ _ right h => (step_preserves h).holds right

/-- Settles O8. -/
theorem capacitiesAreKept : Obligations.CapacitiesAreKept := by
  intro s t h
  have kept := step_preserves h
  refine ⟨fun ⟨frames, events⟩ => ⟨kept.queue frames, kept.port.events events⟩,
    fun ⟨stage, sightings, outbox, pack⟩ =>
      ⟨kept.stage.size stage, kept.cell.sightings sightings, kept.cell.outbox outbox, kept.pack.size pack⟩,
    fun ⟨peers, watches, sites, marks, tallies, slots⟩ =>
      ⟨kept.peers peers, kept.port.watches watches, kept.handler.sites sites, kept.cell.marks marks,
        kept.cell.tallies tallies, kept.pack.slots slots⟩,
    fun ⟨small, candidates, products⟩ =>
      ⟨kept.stage.small small, kept.cell.candidates candidates, kept.products products⟩⟩

/-- Settles O9. -/
theorem transmitterFollowsTheStation : Obligations.TransmitterFollowsTheStation :=
  fun _ _ right h => (step_preserves h).link right

/-- Settles O10. -/
theorem binCountsBalance : Obligations.BinCountsBalance :=
  fun _ _ right h => (step_preserves h).cell.balance right

/-- Settles O11. -/
theorem handlerRelationIsKept : Obligations.HandlerRelationIsKept :=
  fun _ _ h => ⟨(step_preserves h).handler.relation, nothingOwed_step h⟩

/-- Settles O12. -/
theorem cellQueueNeverOverCommits : Obligations.CellQueueNeverOverCommits :=
  fun _ _ right h => (step_preserves h).cell.apart right

end Sys2Proof.Machine
end

section
/-! PROOFS. Steps and resets: what a step runs, what an idle step does, and what the resets leave. -/
namespace Sys2Proof.Machine

variable {s t : State}

/-! ## The best of a list -/

theorem bestBy_eq_none {α : Type} {better : α → α → Bool} {l : List α} : bestBy better l = none ↔ l = [] := by
  cases l with
  | nil => simp [bestBy]
  | cons x xs =>
    simp only [bestBy, reduceCtorEq, iff_false]
    split
    · exact nofun
    · split <;> exact nofun

/-- No element is better than the best one, in an order that is total up to ties. -/
theorem better_bestBy {α : Type} {better : α → α → Bool} (asymm : ∀ a b, better a b = true → better b a = false)
    (trans : ∀ a b c, better a b = false → better b c = false → better a c = false) {l : List α} {y : α}
    (best : bestBy better l = some y) : ∀ x ∈ l, better x y = false := by
  have irrefl (a : α) : better a a = false := by
    by_contra self
    exact self (asymm a a (by simpa using self))
  induction l generalizing y with
  | nil => exact nofun
  | cons x xs ih =>
    rw [bestBy] at best
    split at best
    · next none =>
      cases best
      rw [bestBy_eq_none.1 none]
      exact fun z mem => by rw [List.mem_singleton.1 mem]; exact irrefl x
    · next z found =>
      split at best
      · next better =>
        cases best
        exact List.forall_mem_cons.2 ⟨asymm _ _ better, ih found⟩
      · next worse =>
        cases best
        exact List.forall_mem_cons.2 ⟨irrefl x, fun w mem => trans w z x (ih found w mem) (by simpa using worse)⟩

/-! ## The idle step -/

theorem dueExpiry_some {c : Instr} (due : dueExpiry s = some c) :
    ∃ d, (d, c) ∈ runningTimers s ∧ d ≤ s.now ∧ ∀ x ∈ runningTimers s, d ≤ x.1 := by
  obtain ⟨⟨d, e⟩, first, rfl⟩ := Option.map_eq_some_iff.1 due
  obtain ⟨running, now⟩ := List.mem_filter.1 (mem_of_bestBy _ first)
  have early : d ≤ s.now := by simpa using now
  refine ⟨d, running, early, fun x mem => ?_⟩
  by_cases passed : x.1 ≤ s.now
  · have least := better_bestBy (fun a b h => by simp at *; omega) (fun a b c h k => by simp at *; omega)
      first x (List.mem_filter.2 ⟨mem, by simpa using passed⟩)
    simpa using least
  · exact early.trans (Nat.le_of_not_le passed)

theorem dueExpiry_none (due : dueExpiry s = none) : ∀ x ∈ runningTimers s, s.now < x.1 := by
  simpa [dueExpiry, bestBy_eq_none, List.filter_eq_nil_iff] using due

/-! ## The statements -/

/-- Settles O1. -/
theorem stepRunsFrontCommand : Obligations.StepRunsFrontCommand := by
  intro c rest s front
  rw [step, front]

/-- Settles O2: of the timers that are due the best is the earliest. -/
theorem idleStepQueuesTheEarliestExpiry : Obligations.IdleStepQueuesTheEarliestExpiry := by
  intro s empty
  have idles : step s = .next (idle s) := by rw [step, empty]
  refine ⟨fun reset => by simp [idles, idle, reset], fun out => ?_⟩
  cases due : dueExpiry s with
  | none => exact .inr ⟨dueExpiry_none due, by simp [idles, idle, out, due]⟩
  | some c =>
    obtain ⟨d, running, now, first⟩ := dueExpiry_some due
    exact .inl ⟨d, c, running, now, first, by simp [idles, idle, out, due]⟩

/-- Settles O3: an event does not happen in reset. -/
theorem nothingHappensInReset : Obligations.NothingHappensInReset := by
  intro c s reset unreleased unasserted
  by_cases jam : c = .jamAssertion
  · subst jam
    simp [exec, execJamAssertion, assertJam, reset]
  by_cases release : c = .jamRelease
  · subst release
    rfl
  rw [if_neg jam, if_neg release]
  obtain ⟨t, runs, does⟩ := exec_does (s := s) c
  rw [runs]
  cases does with
  | released n r is => exact absurd is (unreleased n r)
  | asserted is => exact absurd is unasserted
  | jammed is => exact absurd is jam
  | unjammed is => exact absurd is release
  | happens body => simp [event, reset]

theorem roleStrap_eq : ∀ r : BitVec 2, roleStrap r = [Role.cell, .handler, .stage, .pack].getD r.toNat .pack := by
  decide

/-- Settles O4. -/
theorem resetTakesFullResetValues : Obligations.ResetTakesFullResetValues := by
  refine ⟨fun n r s => ⟨fullReset n r s, rfl, ?_, ?_⟩, fun s => ⟨holdReset s, rfl, ?_⟩⟩
  · rw [← roleStrap_eq]
    rfl
  · repeat' constructor
  · repeat' constructor

/-- Settles O17. -/
theorem accessPositionsAreDistinct : Obligations.AccessPositionsAreDistinct := by
  refine ⟨fun s l _ _ _ => ?_, fun s r l _ _ _ _ _ same => ?_, fun s _ _ => ?_⟩ <;>
    simp only [position] at * <;> omega

end Sys2Proof.Machine
end

section
/-! PROOFS. Posting frames: what a list of frames, posted one after another, makes of the link. -/
namespace Sys2Proof.Machine

variable {s t : State}

/-! ## Posting on the link -/

/-- `post`, of the link. -/
def Link.post (l : Link) (f : QFrame) : Link :=
  if l.tx = .off then l
  else if l.queue.length < Config.queueSize then { l with queue := l.queue ++ [f], tx := l.tx.afterPost }
  else { l with latches := { l.latches with txFull := true } }

/-- Frames posted in order. -/
def Link.posts (l : Link) (fs : List QFrame) : Link := fs.foldl Link.post l

theorem post_eq (a : Address) (p : Payload) (s : State) :
    post a p s = s.setLink (s.link.post { addr := a, payload := p }) := by
  unfold post Link.post
  split
  · rfl
  split <;> rfl

/-- The frame to one station. -/
def frameTo (n : Nat) (p : Payload) : QFrame := { addr := { type := .toStation, value := n }, payload := p }

theorem sendTo_eq (n : Nat) (p : Payload) (s : State) : sendTo n p s = s.setLink (s.link.posts [frameTo n p]) :=
  post_eq _ p s

@[simp] theorem posts_nil (l : Link) : l.posts [] = l := rfl

theorem posts_append (l : Link) (fs gs : List QFrame) : l.posts (fs ++ gs) = (l.posts fs).posts gs :=
  List.foldl_append

/-- The second link is the first with some frames added at the tail of its queue, or TX_FULL set. -/
structure Link.Grows (l m : Link) (more : List QFrame) : Prop where
  queue : m.queue = l.queue ++ more
  tx : m.tx = l.tx ∨ l.tx = .empty ∧ m.tx = .waiting
  latches : m.latches = l.latches ∨ m.latches = { l.latches with txFull := true }
  rest : (m.last, m.attempts, m.line, m.onWire) = (l.last, l.attempts, l.line, l.onWire)

theorem Link.Grows.refl (l : Link) : l.Grows l [] := ⟨(List.append_nil _).symm, .inl rfl, .inl rfl, rfl⟩

theorem Link.Grows.trans {l m n : Link} {fs gs : List QFrame} (h : l.Grows m fs) (k : m.Grows n gs) :
    l.Grows n (fs ++ gs) := by
  obtain ⟨hq, ht, hl, hr⟩ := h
  obtain ⟨kq, kt, kl, kr⟩ := k
  refine ⟨by rw [kq, hq, List.append_assoc], ?_, ?_, kr.trans hr⟩
  · rcases ht with ht | ⟨ht, ht'⟩ <;> rcases kt with kt | ⟨kt, kt'⟩ <;> simp_all
  · rcases hl with hl | hl <;> rcases kl with kl | kl <;> simp_all

/-- A link that has grown is the first with its queue, transmitter and latches. -/
theorem Link.Grows.eq {l m : Link} {fs : List QFrame} (h : l.Grows m fs) :
    m = { l with queue := l.queue ++ fs, tx := m.tx, latches := m.latches } := by
  obtain ⟨hq, -, -, hr⟩ := h
  cases m
  simp only [Prod.mk.injEq] at hr hq ⊢
  obtain ⟨rfl, rfl, rfl, rfl⟩ := hr
  rw [hq]

theorem Link.Grows.off {l m : Link} {fs : List QFrame} (h : l.Grows m fs) : m.tx = .off ↔ l.tx = .off := by
  rcases h.tx with same | ⟨empty, waiting⟩
  · rw [same]
  · simp [empty, waiting]

/-- A posted frame joins the queue of a transmitter that is on and has room; else it does not. -/
theorem grows_post (l : Link) (f : QFrame) :
    l.Grows (l.post f) (if l.tx ≠ .off ∧ l.queue.length < 16 then [f] else []) := by
  unfold Link.post Config.queueSize
  by_cases off : l.tx = .off
  · simpa [off] using Link.Grows.refl l
  by_cases room : l.queue.length < 16
  · rw [if_neg off, if_pos room, if_pos ⟨off, room⟩]
    refine ⟨rfl, ?_, .inl rfl, rfl⟩
    cases l.tx <;> simp [TxState.afterPost]
  · rw [if_neg off, if_neg room, if_neg fun h => room h.2]
    exact ⟨(List.append_nil _).symm, .inl rfl, .inr rfl, rfl⟩

/-- Of frames posted in order some join the queue, in their order; all of them where there is room. -/
theorem grows_posts (l : Link) (fs : List QFrame) : ∃ more, more.Sublist fs ∧ l.Grows (l.posts fs) more ∧
    (l.tx ≠ .off → l.queue.length + fs.length ≤ 16 → more = fs) := by
  induction fs generalizing l with
  | nil => exact ⟨[], List.nil_sublist _, .refl l, fun _ _ => rfl⟩
  | cons f fs ih =>
    have first := grows_post l f
    obtain ⟨more, sub, grown, all⟩ := ih (l.post f)
    refine ⟨_, ?_, first.trans grown, fun on room => ?_⟩
    · split
      · exact sub.cons_cons f
      · exact sub.cons f
    · simp only [List.length_cons] at room
      have fits : l.tx ≠ .off ∧ l.queue.length < 16 := ⟨on, by omega⟩
      rw [if_pos fits] at first ⊢
      rw [all (first.off.not.2 on) (by simp only [first.queue, List.length_append, List.length_singleton]; omega)]
      rfl

theorem length_posts_le (l : Link) (fs : List QFrame) :
    (l.posts fs).queue.length ≤ l.queue.length + fs.length := by
  obtain ⟨more, sub, grown, -⟩ := grows_posts l fs
  simpa [grown.queue] using sub.length_le

theorem posts_queue {l : Link} {fs : List QFrame} (on : l.tx ≠ .off) (room : l.queue.length + fs.length ≤ 16) :
    (l.posts fs).queue = l.queue ++ fs := by
  obtain ⟨more, -, grown, all⟩ := grows_posts l fs
  rw [grown.queue, all on room]

theorem posts_off {l : Link} {fs : List QFrame} : (l.posts fs).tx = .off ↔ l.tx = .off := by
  obtain ⟨more, -, grown, -⟩ := grows_posts l fs
  exact grown.off

end Sys2Proof.Machine
end

section
/-! PROOFS. The end of an event (Machine/Settle.lean): what each of its parts makes of the state, in the order in
which they come. -/
namespace Sys2Proof.Machine

variable {s t : State}

/-! ## The resync test (R150) -/

/-- The resync record once a request has gone to a peer. -/
def askedResync (s : State) (n i : Nat) : Resync :=
  { waiting := some { peer := n, next := i, total := none, timer := s.now + s.beaconMs },
    continuation := if s.holds.resync.continuation == some (n, i) then some (n, i) else none,
    lastRequest := some s.clock, spacing := none }

/-- The conditions of R150 hold: no request is pending and the spacing has passed. -/
def mayAsk (s : State) : Bool := s.isLive && s.holds.resync.waiting.isNone && spacingPassed s

theorem resyncTest_of_target {n i : Nat} (may : mayAsk s = true) (target : requestTarget s = some (n, i)) :
    resyncTest s = sendTo n (.holdListReq i) (setResync (askedResync s n i) s) := by
  unfold resyncTest
  rw [target]
  exact if_pos may

theorem resyncTest_of_no_target (target : requestTarget s = none) : resyncTest s = s := by
  unfold resyncTest
  rw [target]
  exact ite_self s

theorem resyncTest_of_not_mayAsk (may : mayAsk s = false) : resyncTest s = s := by
  unfold resyncTest
  exact if_neg (by simpa [mayAsk] using may)

/-- The resync test sends at most one HOLD-LIST-REQ and changes the resync record besides. -/
theorem resyncTest_eq (s : State) : ∃ r asked, asked.length ≤ 1 ∧
    (∀ f ∈ asked, ∃ n i, f = frameTo n (.holdListReq i)) ∧
    resyncTest s = (setResync r s).setLink (s.link.posts asked) := by
  have none (same : resyncTest s = s) : ∃ r asked, asked.length ≤ 1 ∧
      (∀ f ∈ asked, ∃ n i, f = frameTo n (.holdListReq i)) ∧
      resyncTest s = (setResync r s).setLink (s.link.posts asked) :=
    ⟨s.holds.resync, [], by simp, List.forall_mem_nil _, same⟩
  cases may : mayAsk s with
  | false => exact none (resyncTest_of_not_mayAsk may)
  | true =>
    cases target : requestTarget s with
    | none => exact none (resyncTest_of_no_target target)
    | some ni =>
      obtain ⟨n, i⟩ := ni
      exact ⟨askedResync s n i, [frameTo n (.holdListReq i)], Nat.le_refl 1,
        fun f mem => ⟨n, i, List.mem_singleton.1 mem⟩, (resyncTest_of_target may target).trans (sendTo_eq _ _ _)⟩

theorem settleHolds_eq (before s : State) : ∃ r asked, asked.length ≤ 1 ∧
    (s.holds.digest = before.holds.digest ∧ s.holds.records.length = before.holds.records.length → asked = []) ∧
    (∀ f ∈ asked, ∃ n i, f = frameTo n (.holdListReq i)) ∧
    settleHolds before s = (setResync r s).setLink (s.link.posts asked) := by
  unfold settleHolds
  split
  · exact ⟨s.holds.resync, [], by simp, fun _ => rfl, List.forall_mem_nil _, rfl⟩
  · next changed =>
    obtain ⟨r, asked, few, requests, tested⟩ := resyncTest_eq s
    exact ⟨r, asked, few, fun same => absurd same changed, requests, tested⟩

/-! ## The claims (R58, R60) -/

/-- What the claims of an event may make of a sighting: its state and its result change, and of distinct
sightings only one that was SEEN. -/
def MayClaim (distinct : Prop) (p q : Sighting) : Prop :=
  (∃ st res, q = { p with state := st, result := res }) ∧ (distinct → isSeen p = false → q = p)

theorem MayClaim.refl (d : Prop) (p : Sighting) : MayClaim d p p := ⟨⟨_, _, rfl⟩, fun _ _ => rfl⟩

theorem MayClaim.trans {d : Prop} {p q r : Sighting} (h : MayClaim d p q) (k : MayClaim d q r) :
    MayClaim d p r := by
  obtain ⟨⟨st, res, rfl⟩, hsame⟩ := h
  obtain ⟨⟨st', res', rfl⟩, ksame⟩ := k
  refine ⟨⟨st', res', rfl⟩, fun apart unseen => ?_⟩
  have same := hsame apart unseen
  rw [ksame apart (by rw [same]; exact unseen), same]

/-- What the claims of an event may make of a sighting table. -/
def MayClaims (xs ys : List Sighting) : Prop :=
  ∃ g, ys = xs.map g ∧ ∀ x ∈ xs, MayClaim (Distinct xs) x (g x)

theorem MayClaims.refl (xs : List Sighting) : MayClaims xs xs := ⟨id, (List.map_id xs).symm, fun x _ => .refl _ x⟩

theorem MayClaims.distinct {xs ys : List Sighting} (h : MayClaims xs ys) (distinct : Distinct xs) :
    Distinct ys := by
  obtain ⟨g, rfl, may⟩ := h
  refine distinct_map distinct fun x mem => ?_
  obtain ⟨⟨st, res, same⟩, -⟩ := may x mem
  simp [same]

theorem MayClaims.trans {xs ys zs : List Sighting} (h : MayClaims xs ys) (k : MayClaims ys zs) :
    MayClaims xs zs := by
  have distinct := h.distinct
  obtain ⟨g, rfl, hmay⟩ := h
  obtain ⟨f, rfl, kmay⟩ := k
  refine ⟨f ∘ g, List.map_map, fun x mem => (hmay x mem).trans ?_⟩
  obtain ⟨change, same⟩ := kmay (g x) (List.mem_map_of_mem mem)
  exact ⟨change, fun d => same (distinct d)⟩

theorem mayClaims_judge (s : State) : MayClaims s.cell.sightings (judgeSightings s).cell.sightings := by
  refine ⟨_, rfl, fun x _ => ?_⟩
  split
  · next seen => exact ⟨⟨_, _, rfl⟩, fun _ unseen => absurd seen (by simp [unseen])⟩
  · exact .refl _ x

theorem eq_of_sameLot {xs : List Sighting} (distinct : Distinct xs) {x y : Sighting} (mx : x ∈ xs) (my : y ∈ xs)
    (same : sameLot x.lot y.lot) : x = y := by
  have apart : xs.Pairwise fun a b => sameLot a.lot b.lot → a = b := distinct.imp fun differ same => absurd same differ
  exact List.Pairwise.forall_of_forall_of_flip (fun _ _ _ => rfl) apart
    (apart.imp fun eq same => (eq ⟨same.1.symm, same.2.symm⟩).symm) mx my same

theorem mayClaims_claim {x : Sighting} (mem : x ∈ s.cell.sightings) (seen : isSeen x = true) :
    MayClaims s.cell.sightings (claimSighting x s).cell.sightings := by
  refine ⟨_, by simp only [claimSighting, updateSighting, setSightings, sendTo_cell]; rfl, ?_⟩
  intro y my
  split
  · next here =>
    refine ⟨⟨_, _, rfl⟩, fun distinct unseen => ?_⟩
    obtain rfl := eq_of_sameLot distinct my mem (isLot_iff.1 here)
    simp [seen] at unseen
  · exact .refl _ y

theorem claimSighting_eq (x : Sighting) (s : State) :
    claimSighting x s = (setSightings (claimSighting x s).cell.sightings s).setLink
      (s.link.posts [frameTo x.stage (.claim x.lot.lotId x.lot.index (score s.cell x.lot) false)]) := by
  rw [claimSighting, sendTo_eq]
  rfl

/-- The claims of an event have been made: at most so many CLAIMs, and what they make of the sightings. -/
def ClaimsMade (n : Nat) (s t : State) : Prop :=
  ∃ xs fs, MayClaims s.cell.sightings xs ∧ fs.length ≤ n ∧
    (∀ f ∈ fs, ∃ n i j sc, f = frameTo n (.claim i j sc false)) ∧
    t = (setSightings xs s).setLink (s.link.posts fs)

theorem claimsMade_judge (n : Nat) (s : State) : ClaimsMade n s (judgeSightings s) :=
  ⟨_, [], mayClaims_judge s, Nat.zero_le n, List.forall_mem_nil _, rfl⟩

theorem ClaimsMade.claim {n : Nat} {x : Sighting} (mem : x ∈ (judgeSightings s).cell.sightings)
    (seen : isSeen x = true) (h : ClaimsMade n (claimSighting x (judgeSightings s)) t) :
    ClaimsMade (n + 1) s t := by
  obtain ⟨xs, fs, claims, few, frames, rfl⟩ := h
  refine ⟨xs, frameTo x.stage (.claim x.lot.lotId x.lot.index (score s.cell x.lot) false) :: fs,
    ((mayClaims_judge s).trans (mayClaims_claim mem seen)).trans claims, Nat.succ_le_succ few,
    List.forall_mem_cons.2 ⟨⟨_, _, _, _, rfl⟩, frames⟩, ?_⟩
  rw [claimSighting_eq]
  rfl

theorem claimLoop_none {n : Nat} (best : bestBy (claimFirst (judgeSightings s))
    ((judgeSightings s).cell.sightings.filter fun x => isSeen x && x.result == .eligible) = none) :
    claimLoop (n + 1) s = judgeSightings s := by
  simp [claimLoop, best]

theorem claimLoop_some {n : Nat} {x : Sighting} (best : bestBy (claimFirst (judgeSightings s))
    ((judgeSightings s).cell.sightings.filter fun x => isSeen x && x.result == .eligible) = some x) :
    claimLoop (n + 1) s = claimLoop n (claimSighting x (judgeSightings s)) := by
  simp [claimLoop, best]

theorem claimsMade_claimLoop (n : Nat) (s : State) : ClaimsMade n s (claimLoop n s) := by
  induction n generalizing s with
  | zero => exact claimsMade_judge 0 s
  | succ n ih =>
    cases best : bestBy (claimFirst (judgeSightings s)) ((judgeSightings s).cell.sightings.filter fun x =>
        isSeen x && x.result == .eligible) with
    | none =>
      rw [claimLoop_none best]
      exact claimsMade_judge _ s
    | some x =>
      obtain ⟨mem, may⟩ := List.mem_filter.1 (mem_of_bestBy _ best)
      rw [claimLoop_some best]
      exact .claim mem (Bool.and_eq_true_iff.1 may).1 (ih _)

/-! ## The search for a handler, and the PERMIT (R75, R68) -/

theorem idleUpkeep_eq (s : State) :
    ∃ i e, idleUpkeep s = s.setCell { s.cell with idleTimer := i, idleElapsed := e } := by
  unfold idleUpkeep
  split
  · split <;> exact ⟨_, _, rfl⟩
  · exact ⟨_, _, rfl⟩

/-- Frames sent to zones, one after another. -/
theorem foldl_sendZone (p : Payload) (zs : List Nat) (s : State) :
    zs.foldl (fun s z => sendZone z p s) s =
      s.setLink (s.link.posts (zs.map fun z => { addr := { type := .toZone, value := z }, payload := p })) := by
  induction zs generalizing s with
  | nil => rfl
  | cons z zs ih =>
    rw [List.foldl_cons, ih, sendZone, post_eq]
    rfl

theorem length_wantedZones_le (m : Mask16) : (wantedZones m).length ≤ 4 := List.length_take_le _ _

/-- The frames of a HANDLER-WANTED. -/
def wantedFrames (kit : Nat) (temp : Int) (s : State) : List QFrame :=
  (wantedZones s.start.config.zoneMask).map fun z =>
    { addr := { type := .toZone, value := z }, payload := .handlerWanted kit temp }

theorem sendWanted_of_zones {kit : Nat} {temp : Int} (zones : wantedZones s.start.config.zoneMask ≠ []) :
    sendWanted kit temp s = (s.setCell { s.cell with
      reservation := .collecting kit temp [] (s.after s.start.config.contestWindow),
      wantedSpacing := s.after (6 * s.beaconMs) }).setLink (s.link.posts (wantedFrames kit temp s)) := by
  unfold sendWanted
  dsimp only
  rw [if_neg (by simpa using zones), foldl_sendZone]
  rfl

theorem sendWanted_of_no_zone {kit : Nat} {temp : Int} (zones : wantedZones s.start.config.zoneMask = []) :
    sendWanted kit temp s =
      raise (.noHandler kit temp) (s.setCell { s.cell with wantedSpacing := s.after (6 * s.beaconMs) }) := by
  unfold sendWanted
  dsimp only
  rw [zones]
  rfl

/-- A HANDLER-WANTED: at most four frames or one event, and the search and its spacing. -/
theorem sendWanted_eq (kit : Nat) (temp : Int) (s : State) : ∃ r w fs, fs.length ≤ 4 ∧
    (∀ f ∈ fs, f.payload = .handlerWanted kit temp) ∧
    (sendWanted kit temp s =
        (s.setCell { s.cell with reservation := r, wantedSpacing := w }).setLink (s.link.posts fs) ∨
      fs = [] ∧ sendWanted kit temp s =
        raise (.noHandler kit temp) (s.setCell { s.cell with reservation := r, wantedSpacing := w })) := by
  by_cases zones : wantedZones s.start.config.zoneMask = []
  · exact ⟨s.cell.reservation, _, [], by simp, List.forall_mem_nil _, .inr ⟨rfl, sendWanted_of_no_zone zones⟩⟩
  · refine ⟨_, _, wantedFrames kit temp s, ?_, ?_, .inl (sendWanted_of_zones zones)⟩
    · exact (List.length_map _).trans_le (length_wantedZones_le _)
    · simp [wantedFrames]

theorem wantedTest_cases (s : State) : wantedTest s = s ∨ ∃ kit temp, wantedTest s = sendWanted kit temp s := by
  unfold wantedTest
  split
  · split
    · exact .inr ⟨_, _, rfl⟩
    · exact .inl rfl
  · exact .inl rfl

end Sys2Proof.Machine
end

section
/-! PROOFS. The end of an event as a whole: what it may change, and the PERMIT it posts. -/
namespace Sys2Proof.Machine

variable {s t : State}

/-! ## Holds and the lot's state (R146, R67) -/

theorem keyMatches_iff {l : LotRecord} {r : HoldRec} : keyMatches (queryOf l) r.scope r.key = true ↔
    r.scope = .lot ∧ r.key = l.lotId ∨ r.scope = .product ∧ r.key = l.product ∨
      r.scope = .group ∧ r.key = l.group ∧ l.group ≠ 0 ∨ r.scope = .program ∧ r.key = l.program := by
  cases scope : r.scope
  · simp [keyMatches, queryOf]
  · simp [keyMatches, queryOf, @eq_comm _ l.product]
  · simp only [keyMatches, queryOf, Bool.and_eq_true, bne_iff_ne, beq_iff_eq, Option.some.injEq]
    grind
  · simp [keyMatches, queryOf, @eq_comm _ l.program]

theorem lotMatched_iff {h : HoldTable} {l : LotRecord} : lotMatched h (queryOf l) = true ↔
    ∃ x ∈ h.records, x.hold.state = .inForce ∧
      (x.hold.scope = .lot ∧ x.hold.key = l.lotId ∨ x.hold.scope = .product ∧ x.hold.key = l.product ∨
        x.hold.scope = .group ∧ x.hold.key = l.group ∧ l.group ≠ 0 ∨
        x.hold.scope = .program ∧ x.hold.key = l.program) := by
  simp only [lotMatched, holdMatches, List.any_eq_true, Bool.and_eq_true, beq_iff_eq, keyMatches_iff]

theorem lotHeld_iff {h : HoldTable} {l : LotRecord} : lotHeld h (queryOf l) = true ↔
    h.overflow = true ∨ ∃ x ∈ h.records, x.hold.state = .inForce ∧
      (x.hold.scope = .lot ∧ x.hold.key = l.lotId ∨ x.hold.scope = .product ∧ x.hold.key = l.product ∨
        x.hold.scope = .group ∧ x.hold.key = l.group ∧ l.group ≠ 0 ∨
        x.hold.scope = .program ∧ x.hold.key = l.program) := by
  rw [lotHeld, Bool.or_eq_true, lotMatched_iff]

section
variable {a : ActiveLot}

theorem lotState_finished (phase : a.phase = .finished) : lotState s a = .finished := by
  simp [lotState, phase]

theorem lotState_held (phase : a.phase ≠ .finished)
    (held : a.phase = .awaiting ∨ lotHeld s.holds (queryOf a.lot) = true) : lotState s a = .held := by
  rw [lotState, if_neg phase, if_pos (by simpa using held)]

/-- The rows of R67 for a lot that is not finished and not held. -/
theorem lotState_free (phase : a.phase ≠ .finished)
    (free : ¬(a.phase = .awaiting ∨ lotHeld s.holds (queryOf a.lot) = true)) :
    lotState s a = if s.cell.binding.state ≠ .bound then .paused else if s.cell.ready then .running
      else if !a.readySeen then .setup else .paused := by
  rw [lotState, if_neg phase, if_neg (by simpa using free)]

end

/-! ## What the end of an event may change -/

/-- At most one event has been raised. -/
def PortEnds (p q : Port) : Prop :=
  ∃ more o, more.length ≤ 1 ∧ q = { p with events := p.events ++ more, overflowed := o } ∧
    (o = p.overflowed ∨ o = true ∧ more = [] ∧ 32 ≤ p.events.length)

theorem PortEnds.refl (p : Port) : PortEnds p p := ⟨[], p.overflowed, by simp, by simp, .inl rfl⟩

theorem portEnds_raise (e : Event) (s : State) : PortEnds s.port (raise e s).port := by
  rcases raise_cases e s with ⟨_, raised⟩ | ⟨full, raised⟩
  · exact ⟨[{ event := e, time := s.clock }], s.port.overflowed, Nat.le_refl 1, by rw [raised]; rfl, .inl rfl⟩
  · exact ⟨[], true, by simp, by rw [raised]; simp [State.setPort], .inr ⟨rfl, rfl, full⟩⟩

theorem raise_eq (e : Event) (s : State) : raise e s = s.setPort (raise e s).port := by
  rcases raise_cases e s with ⟨_, raised⟩ | ⟨_, raised⟩ <;> rw [raised] <;> rfl

/-- No PERMIT is among the frames. -/
def NoPermit (fs : List QFrame) : Prop := ∀ f ∈ fs, ∀ p, f.payload ≠ .permit p

theorem NoPermit.append {fs gs : List QFrame} (h : NoPermit fs) (k : NoPermit gs) : NoPermit (fs ++ gs) :=
  fun f mem => (List.mem_append.1 mem).elim (h f) (k f)

/-- The cell's upkeep before the PERMIT: claims, the idle timer and the search. -/
def cellUpkeep (s : State) : State := wantedTest (idleUpkeep (claimLoop Config.cellQueueSize s))

theorem cellUpkeep_eq (s : State) : ∃ xs r i e w fs p, MayClaims s.cell.sightings xs ∧ fs.length ≤ 8 ∧ NoPermit fs ∧
    PortEnds s.port p ∧ cellUpkeep s = ((s.setCell { s.cell with
      sightings := xs, reservation := r, idleTimer := i, idleElapsed := e, wantedSpacing := w }).setLink
        (s.link.posts fs)).setPort p := by
  obtain ⟨xs, claims, may, few, frames, claimed⟩ := claimsMade_claimLoop Config.cellQueueSize s
  obtain ⟨i, e, kept⟩ := idleUpkeep_eq (claimLoop Config.cellQueueSize s)
  have silent : NoPermit claims := fun f mem p => by
    obtain ⟨n, i, j, sc, rfl⟩ := frames f mem
    simp [frameTo]
  rw [claimed] at kept
  unfold cellUpkeep
  rw [claimed, kept]
  obtain none | ⟨kit, temp, sent⟩ := wantedTest_cases
    (((setSightings xs s).setLink (s.link.posts claims)).setCell
      { ((setSightings xs s).setLink (s.link.posts claims)).cell with idleTimer := i, idleElapsed := e })
  · rw [none]
    exact ⟨xs, s.cell.reservation, i, e, s.cell.wantedSpacing, claims, s.port, may,
      few.trans (by decide), silent, .refl _, rfl⟩
  · rw [sent]
    obtain ⟨r, w, fs, four, wanted, posted | ⟨rfl, raised⟩⟩ := sendWanted_eq kit temp
      (((setSightings xs s).setLink (s.link.posts claims)).setCell
        { ((setSightings xs s).setLink (s.link.posts claims)).cell with idleTimer := i, idleElapsed := e })
    · refine ⟨xs, r, i, e, w, claims ++ fs, s.port, may, ?_, silent.append fun f mem p => ?_, .refl _, ?_⟩
      · simp only [Config.cellQueueSize] at few
        simp only [List.length_append]
        omega
      · simp [wanted f mem]
      · rw [posted, posts_append]
        rfl
    · rw [raised, raise_eq]
      exact ⟨xs, r, i, e, w, claims, _, may, few.trans (by decide), silent,
        portEnds_raise (.noHandler kit temp) (((((setSightings xs s).setLink (s.link.posts claims)).setCell _).setCell _)), rfl⟩

theorem sendPermit_eq (s : State) : sendPermit s =
    (s.setCell { s.cell with active := s.cell.active.map fun a => { a with lastPermit := some (permitNow s) } }).setLink
      (s.link.posts [frameTo s.cell.binding.handler (.permit (permitNow s))]) := by
  rw [sendPermit, sendTo_eq]
  rfl

/-- BOUND was entered, or the permit is not the one that stood before (R68). -/
def permitDue (before s : State) : Prop :=
  s.isActive = true ∧ s.start.role = .cell ∧ s.cell.binding.state = .bound ∧
    (before.cell.binding.state ≠ .bound ∨ permitNow before ≠ permitNow s)

theorem settleCell_of_idle (before : State) (idle : ¬(s.isActive = true ∧ s.start.role = .cell)) :
    settleCell before s = s := by
  unfold settleCell
  exact if_neg (by simpa [State.isRole] using idle)

/-- At an ACTIVE CELL the permit due at the end of an event is the one due after its body: nothing before it
changes what it reads. -/
theorem settleCell_of_active (before : State) (active : s.isActive = true) (cell : s.start.role = .cell) :
    (permitDue before s → settleCell before s = sendPermit (cellUpkeep s)) ∧
      (¬permitDue before s → settleCell before s = cellUpkeep s) := by
  obtain ⟨xs, r, i, e, w, fs, p, -, -, -, -, kept⟩ := cellUpkeep_eq s
  have binding : (cellUpkeep s).cell.binding.state = s.cell.binding.state := by rw [kept]; rfl
  have permit : permitNow (cellUpkeep s) = permitNow s := by rw [kept]; rfl
  have ends : settleCell before s = settlePermit before (cellUpkeep s) :=
    if_pos (by simp [State.isRole, active, cell])
  rw [ends, settlePermit, binding, permit]
  refine ⟨fun due => if_pos due.2.2, fun due => if_neg fun h => due ⟨active, cell, h⟩⟩

theorem settleHandler_eq (before s : State) : ∃ fs m o, fs.length ≤ 1 ∧
    (∀ f ∈ fs, f = frameTo s.handler.cell (.handlerStatus (statusNow s))) ∧
    (s.start.role = .handler ∨ m = none ∧ o = false ∧ fs = []) ∧
    settleHandler before s =
      (s.setHandler { s.handler with statusTimer := m, statusOwed := o }).setLink (s.link.posts fs) := by
  unfold settleHandler
  split
  · next on =>
    have handler : s.start.role = .handler := by
      simp only [State.isRole, Bool.and_eq_true, beq_iff_eq] at on
      exact on.1.1
    split
    · refine ⟨[_], s.after s.beaconMs, false, Nat.le_refl 1, fun f mem => List.mem_singleton.1 mem, .inl handler, ?_⟩
      rw [sendTo_eq]
      rfl
    · exact ⟨[], s.handler.statusTimer, s.handler.statusOwed, by simp, List.forall_mem_nil _, .inl handler, rfl⟩
  · exact ⟨[], none, false, by simp, List.forall_mem_nil _, .inr ⟨rfl, rfl, rfl⟩, rfl⟩

/-- The second state is the first at the end of an event, in all but the active lot; the frames have been posted. -/
structure SettledBy (s : State) (fs : List QFrame) (t : State) : Prop where
  untouched : (t.pins.inReset, t.pins.jamIn, t.start, t.now, t.peers, t.limits, t.stage, t.pack, t.pending) =
    (s.pins.inReset, s.pins.jamIn, s.start, s.now, s.peers, s.limits, s.stage, s.pack, s.pending)
  holds : t.holds = { s.holds with resync := t.holds.resync }
  link : t.link = s.link.posts fs
  port : PortEnds s.port t.port
  handler : t.handler =
    { s.handler with statusTimer := t.handler.statusTimer, statusOwed := t.handler.statusOwed }
  elsewhere : s.isActive = true ∧ s.start.role = .cell ∨ t.cell = s.cell
  cell : t.cell = { s.cell with
    sightings := t.cell.sightings, active := t.cell.active, reservation := t.cell.reservation,
    idleTimer := t.cell.idleTimer, idleElapsed := t.cell.idleElapsed, wantedSpacing := t.cell.wantedSpacing }
  sightings : MayClaims s.cell.sightings t.cell.sightings

theorem SettledBy.start {fs : List QFrame} (h : SettledBy s fs t) : t.start = s.start := by
  have same := h.untouched
  simp only [Prod.mk.injEq] at same
  exact same.2.2.1

theorem resync_trans {a b c : HoldTable} (h : b = { a with resync := b.resync })
    (k : c = { b with resync := c.resync }) : c = { a with resync := c.resync } := by
  rw [HoldTable.mk.injEq] at *
  exact ⟨k.1.trans h.1, k.2.1.trans h.2.1, k.2.2.1.trans h.2.2.1, rfl⟩

/-- What the permit reads. -/
theorem permitNow_congr (active : t.cell.active = s.cell.active) (binding : t.cell.binding = s.cell.binding)
    (ready : t.cell.ready = s.cell.ready) (holds : t.holds = { s.holds with resync := t.holds.resync }) :
    permitNow t = permitNow s := by
  have held (q : LotQuery) : lotHeld t.holds q = lotHeld s.holds q := by rw [holds]; rfl
  simp only [permitNow, lotState, active, binding, ready, held]

/-- What follows the cell's part: the handler's status, the spacing timer and the pins. -/
def settleRest (before s : State) : State := settlePins (spacingUpkeep (settleHandler before s))

theorem settledBy_rest {before u : State} {fs : List QFrame} (h : SettledBy s fs u) : ∃ gs, NoPermit gs ∧
    (s.start.role ≠ .handler → gs = []) ∧ SettledBy s (fs ++ gs) (settleRest before u) ∧
    (s.start.role = .handler ∨
      (settleRest before u).handler.statusTimer = none ∧ (settleRest before u).handler.statusOwed = false) ∧
    (settleRest before u).cell = u.cell := by
  obtain ⟨gs, m, o, -, status, stopped, handled⟩ := settleHandler_eq before u
  have rest : settleRest before u = settlePins (spacingUpkeep
      ((u.setHandler { u.handler with statusTimer := m, statusOwed := o }).setLink (u.link.posts gs))) := by
    rw [settleRest, handled]
  rw [h.start] at stopped
  rw [rest]
  refine ⟨gs, fun f mem p => by rw [status f mem]; simp [frameTo], fun role => (stopped.resolve_left role).2.2,
    ⟨h.untouched, ?_, ?_, h.port, ?_, h.elsewhere, h.cell, h.sightings⟩,
    stopped.imp_right fun h => ⟨h.1, h.2.1⟩, rfl⟩
  · exact resync_trans h.holds rfl
  · rw [posts_append, ← h.link]
    rfl
  · exact congrArg (fun x : Handler => { x with statusTimer := m, statusOwed := o }) h.handler

/-- The cell's part, up to the PERMIT. -/
def cellPart (s : State) : State := if s.isActive && s.isRole .cell then cellUpkeep s else s

theorem settledBy_cellPart (before s : State) : ∃ fs, fs.length ≤ 9 ∧ NoPermit fs ∧
    SettledBy s fs (cellPart (settleHolds before s)) ∧
    (cellPart (settleHolds before s)).cell.active = s.cell.active := by
  obtain ⟨r, asked, one, -, requests, held⟩ := settleHolds_eq before s
  have silent : NoPermit asked := fun f mem p => by
    obtain ⟨n, i, rfl⟩ := requests f mem
    simp [frameTo]
  rw [held]
  unfold cellPart
  split
  · next on =>
    have active : s.isActive = true ∧ s.start.role = .cell := by
      change (s.isActive && s.isRole .cell) = true at on
      simpa [State.isRole] using on
    obtain ⟨xs, res, i, e, w, fs, p, may, eight, noPermit, port, kept⟩ :=
      cellUpkeep_eq ((setResync r s).setLink (s.link.posts asked))
    rw [kept]
    refine ⟨asked ++ fs, by simp only [List.length_append]; omega, silent.append noPermit,
      ⟨rfl, rfl, ?_, port, rfl, .inl active, rfl, may⟩, rfl⟩
    rw [posts_append]
    rfl
  · exact ⟨asked, by omega, silent, ⟨rfl, rfl, rfl, .refl _, rfl, .inr rfl, rfl, .refl _⟩, rfl⟩

/-- The permit due after the resync test is the one due after the body. -/
theorem permitDue_settleHolds {before : State} : permitDue before (settleHolds before s) ↔ permitDue before s := by
  obtain ⟨r, asked, -, -, -, held⟩ := settleHolds_eq before s
  rw [held]
  exact .rfl

theorem settleCell_eq_cellPart {before : State} (due : ¬permitDue before s) : settleCell before s = cellPart s := by
  unfold cellPart
  split
  · next on =>
    have active : s.isActive = true ∧ s.start.role = .cell := by simpa [State.isRole] using on
    exact (settleCell_of_active before active.1 active.2).2 due
  · next off => exact settleCell_of_idle before (by simpa [State.isRole] using off)

theorem settle_of_not_due {before : State} (due : ¬permitDue before s) : ∃ more, NoPermit more ∧
    SettledBy s more (settle before s) ∧
    (s.start.role = .handler ∨
      (settle before s).handler.statusTimer = none ∧ (settle before s).handler.statusOwed = false) ∧
    (settle before s).cell.active = s.cell.active := by
  obtain ⟨fs, -, silent, upkept, same⟩ := settledBy_cellPart before s
  obtain ⟨gs, quiet, -, settled, stopped, cell⟩ := settledBy_rest (before := before) upkept
  rw [← settleCell_eq_cellPart (permitDue_settleHolds.not.2 due)] at settled stopped cell same
  exact ⟨fs ++ gs, silent.append quiet, settled, stopped, (congrArg Cell.active cell).trans same⟩

theorem settle_of_due {before : State} (due : permitDue before s) : ∃ more, NoPermit more ∧ more.length ≤ 9 ∧
    SettledBy s (more ++ [frameTo s.cell.binding.handler (.permit (permitNow s))]) (settle before s) ∧
    ((settle before s).handler.statusTimer = none ∧ (settle before s).handler.statusOwed = false) ∧
    (settle before s).cell.active =
      s.cell.active.map fun a => { a with lastPermit := some (permitNow s) } := by
  have ⟨active, role, _⟩ := due
  obtain ⟨fs, nine, silent, upkept, same⟩ := settledBy_cellPart before s
  have binding := congrArg Cell.binding upkept.cell
  have ready := congrArg Cell.ready upkept.cell
  have permit := permitNow_congr same binding ready upkept.holds
  have kept {c : Cell} {a : Option ActiveLot} {u : Cell} (h : u = { c with
      sightings := u.sightings, active := u.active, reservation := u.reservation, idleTimer := u.idleTimer,
      idleElapsed := u.idleElapsed, wantedSpacing := u.wantedSpacing }) : { u with active := a } = { c with
      sightings := u.sightings, active := a, reservation := u.reservation, idleTimer := u.idleTimer,
      idleElapsed := u.idleElapsed, wantedSpacing := u.wantedSpacing } := by rw [h]
  have sent : SettledBy s (fs ++ [frameTo s.cell.binding.handler (.permit (permitNow s))])
      (sendPermit (cellPart (settleHolds before s))) ∧
      (sendPermit (cellPart (settleHolds before s))).cell.active =
        s.cell.active.map fun a => { a with lastPermit := some (permitNow s) } := by
    rw [sendPermit_eq, binding, permit]
    exact ⟨⟨upkept.untouched, upkept.holds, (posts_append _ _ _ ▸ upkept.link ▸ rfl), upkept.port, upkept.handler,
      .inl ⟨active, role⟩, kept upkept.cell, upkept.sightings⟩, congrArg (Option.map _) same⟩
  have part : settleCell before (settleHolds before s) = sendPermit (cellPart (settleHolds before s)) := by
    have start : (settleHolds before s).start = s.start := (keeps_settleHolds (.refl s)).start
    have on : (settleHolds before s).isActive = true ∧ (settleHolds before s).start.role = .cell := by
      simpa only [State.isActive, start] using ⟨active, role⟩
    rw [(settleCell_of_active before on.1 on.2).1 (permitDue_settleHolds.2 due), cellPart,
      if_pos (by simpa [State.isRole] using on)]
  obtain ⟨gs, -, none, settled, stopped, cell⟩ := settledBy_rest (before := before) sent.1
  rw [none (by simp [role]), List.append_nil, ← part] at settled
  rw [← part] at cell stopped
  exact ⟨fs, silent, nine, settled, stopped.resolve_left (by simp [role]), (congrArg Cell.active cell).trans (part ▸ sent.2)⟩

/-! ## What an event ends with, and how SILENT is left -/

theorem settle_settledBy (before s : State) : ∃ more, SettledBy s more (settle before s) ∧
    (s.start.role = .handler ∨
      (settle before s).handler.statusTimer = none ∧ (settle before s).handler.statusOwed = false) ∧
    ((settle before s).cell.active = s.cell.active ∨ ∃ p,
      (settle before s).cell.active = s.cell.active.map fun x => { x with lastPermit := some p }) := by
  by_cases due : permitDue before s
  · obtain ⟨more, -, -, settled, stopped, active⟩ := settle_of_due due
    exact ⟨_, settled, .inr stopped, .inr ⟨_, active⟩⟩
  · obtain ⟨more, -, settled, stopped, active⟩ := settle_of_not_due due
    exact ⟨_, settled, stopped, .inl active⟩

theorem mem_zip_map {α β : Type} {g : α → β} {l : List α} {p : α × β} (mem : p ∈ l.zip (l.map g)) :
    p.1 ∈ l ∧ p.2 = g p.1 := by
  induction l with
  | nil => cases mem
  | cons x xs ih =>
    rw [List.map_cons, List.zip_cons_cons, List.mem_cons] at mem
    obtain rfl | mem := mem
    · exact ⟨List.mem_cons_self, rfl⟩
    · exact (ih mem).imp_left (List.mem_cons_of_mem x)

/-- What the end of an event leaves of the link, the port and the cell, in the terms of the statement. -/
theorem settle_link (before s : State) : ∃ more l, (settle before s).link = { s.link with
    queue := s.link.queue ++ more, tx := l, latches := (settle before s).link.latches } ∧
    (l = s.link.tx ∨ s.link.tx = .empty ∧ l = .waiting) ∧
    ((settle before s).link.latches = s.link.latches ∨
      (settle before s).link.latches = { s.link.latches with txFull := true }) := by
  obtain ⟨fs, settled, -⟩ := settle_settledBy before s
  obtain ⟨more, -, grown, -⟩ := grows_posts s.link fs
  rw [settled.link]
  exact ⟨more, _, grown.eq, grown.tx, grown.latches⟩

/-- Settles O14: the end of an event posts a PERMIT exactly when one is due, and changes what `SettledBy` says. -/
theorem eventEndChangesOnly : Obligations.EventEndChangesOnly := by
  refine ⟨fun s a => ?_, fun s => ?_, fun before s => ?_, fun before s => ⟨_, rfl, ?_⟩⟩
  · dsimp only
    rw [← lotHeld_iff]
    refine ⟨lotState_finished, lotState_held, fun phase free => ?_⟩
    rw [lotState_free phase free]
    simp +contextual
  · refine ⟨fun none => by simp [permitNow, none, Permit.idle], fun a active => ?_⟩
    simp only [permitNow, active, true_and]
    cases lotState s a <;> simp
  · refine ⟨fun due => ?_, fun due => ?_⟩
    · obtain ⟨more, silent, nine, settled, -, active⟩ := settle_of_due due
      refine ⟨active, fun on six => ⟨more, silent, ?_⟩⟩
      rw [settled.link, posts_queue on (by simp only [List.length_append, List.length_singleton]; omega),
        List.append_assoc]
      rfl
    · obtain ⟨fs, silent, settled, -, active⟩ := settle_of_not_due due
      obtain ⟨more, sub, grown, -⟩ := grows_posts s.link fs
      exact ⟨active, more, fun f mem => silent f (sub.subset mem), settled.link ▸ grown.queue⟩
  · obtain ⟨more, settled, stopped, active⟩ := settle_settledBy before s
    have untouched := settled.untouched
    simp only [Prod.mk.injEq] at untouched
    obtain ⟨inReset, jamIn, start, now, peers, limits, stage, pack, pending⟩ := untouched
    refine ⟨inReset, jamIn, start, now, peers, limits, stage, pack, pending, ⟨_, settled.holds⟩,
      settle_link before s, settled.port, ⟨_, _, settled.handler, stopped⟩, settled.elsewhere,
      ⟨_, _, _, _, _, _, settled.cell, ?_, ?_, active⟩⟩
    · obtain ⟨g, map, -⟩ := settled.sightings
      simp [map]
    · obtain ⟨g, map, may⟩ := settled.sightings
      rw [map]
      intro p mem
      obtain ⟨mx, image⟩ := mem_zip_map mem
      rw [image]
      obtain ⟨⟨st, res, change⟩, same⟩ := may p.1 mx
      exact ⟨st, res, change, fun right => same right.2.2.1⟩

/-- At a SILENT station the body of an event changes the station state by a restart alone. -/
theorem moves_silent {c : Instr} (silent : s.start.station = .silent) (h : Moves c s t) :
    t.start = s.start ∨ (c = .restart ∨ ∃ x, c = .unknownTransaction x ∧ SpellsRestart x) ∧
      available s .restart = true ∧ t = setOutcome .start 0x0B (softRestart s) := by
  cases h with
  | stays h => exact .inl h.start
  | startEnds r => exact .inl (by simp [endStart, silent])
  | learned d learning => simp [silent] at learning
  | silenced _ live => simp [State.isLive, silent] at live
  | restarts asked may => exact .inr ⟨asked, may, rfl⟩

@[simp] theorem resyncTest_start (s : State) : (resyncTest s).start = s.start := (keeps_resyncTest (.refl s)).start

@[simp] theorem resyncTest_now (s : State) : (resyncTest s).now = s.now := by
  obtain ⟨r, asked, -, -, tested⟩ := resyncTest_eq s
  rw [tested]
  rfl

@[simp] theorem jamAsserted_start (s : State) : (jamAsserted s).start = s.start := (keeps_jamAsserted (.refl s)).start

@[simp] theorem jamAsserted_now (s : State) : (jamAsserted s).now = s.now := by
  unfold jamAsserted latchJam
  split
  · split <;> simp
  · rfl

theorem enterLearning_start (s : State) : (enterLearning s).start =
    { s.start with station := .learning, cause := .none, learning := s.after (3 * s.beaconMs) } := by
  unfold enterLearning
  dsimp only
  split <;> simp

theorem enterLearning_now (s : State) : (enterLearning s).now = s.now := by
  unfold enterLearning
  dsimp only
  split <;> simp

theorem head?_of_field {bs : List Byte} (h : field bs 0 1 = 0x0B) : bs.head? = some 0x0B#8 := by
  cases bs with
  | nil => cases h
  | cons b bs =>
    have code : b.toNat = 0x0B := by simpa [field, num] using h
    simpa using BitVec.eq_of_toNat_eq code

@[simp] theorem settle_start (before s : State) : (settle before s).start = s.start :=
  (keeps_settle (.refl s)).start

@[simp] theorem settle_now (before s : State) : (settle before s).now = s.now := by
  obtain ⟨fs, settled, -⟩ := settle_settledBy before s
  have same := settled.untouched
  simp only [Prod.mk.injEq] at same
  exact same.2.2.2.1

@[simp] theorem settle_previous (before s : State) : (settle before s).port.previous = s.port.previous := by
  obtain ⟨fs, settled, -⟩ := settle_settledBy before s
  obtain ⟨more, o, -, port, -⟩ := settled.port
  rw [port]

theorem assertJam_start (s : State) : (assertJam s).start = s.start := by
  unfold assertJam
  dsimp only
  split
  · rfl
  split
  · rfl
  · simp

/-- Settles O13: of what moves a station, only a restart moves a SILENT one. -/
theorem silentIsLeftOnlyByReset : Obligations.SilentIsLeftOnlyByReset := by
  intro c s t silent runs unreleased unasserted
  obtain ⟨u, runs', does⟩ := exec_does (s := s) c
  obtain rfl : u = t := by simpa [runs'] using runs
  have stays (same : u.start = s.start) : u.start.station = .silent ∧ u.start.cause = s.start.cause := by
    rw [same]
    exact ⟨silent, rfl⟩
  cases does with
  | released n r is => exact absurd is (unreleased n r)
  | asserted is => exact absurd is unasserted
  | jammed => exact .inl (stays (assertJam_start s))
  | unjammed => exact .inl ⟨silent, rfl⟩
  | happens body moves =>
    unfold event at *
    split
    · exact .inl ⟨silent, rfl⟩
    · next out =>
      rw [if_neg out] at stays
      obtain same | ⟨asked, may, restarted⟩ := moves_silent silent moves
      · exact .inl (stays ((settle_start _ _).trans same))
      · rw [restarted]
        refine .inr ⟨?_, ?_, ?_, ?_, ?_⟩
        · simpa [available, State.isLive, silent] using may
        · simp [setOutcome, softRestart, enterLearning_start]
        · simp only [settle_now]
          exact enterLearning_now _
        · rw [settle_previous]
          rfl
        · refine asked.imp_right fun ⟨x, is, whole, code, check⟩ => ⟨x, is, whole, head?_of_field code, check⟩

end Sys2Proof.Machine
end

section
/-! PROOFS. The end of an event at a HANDLER: the HANDLER-STATUS it posts (R110). -/
namespace Sys2Proof.Machine

variable {s t : State}

/-! ## Sites as the status reports them -/

theorem mask_ext {a b : BitVec 8} (h : ∀ n, 1 ≤ n → n ≤ 8 → (maskHas a n = true ↔ maskHas b n = true)) : a = b := by
  refine BitVec.eq_of_getLsbD_eq fun i low => Bool.eq_iff_iff.2 ?_
  simpa [maskHas] using h (i + 1) (by omega) (by omega)

/-- A site's status, for a site that exists. -/
def siteStatus (u : State) (n : Nat) : Option SiteStatus :=
  if n ≤ u.start.config.siteCount then some (siteAt u.handler n).status else none

theorem maskHas_siteMask_iff {n : Nat} (low : 1 ≤ n) (high : n ≤ 8) :
    maskHas (siteMask s) n = true ↔ siteStatus s n = some .up := by
  rw [maskHas_siteMask, siteStatus]
  simp [low, high]

theorem siteReasons_eq (s : State) : siteReasons s = siteNumbers.map fun n => (siteStatus s n).getD .up := by
  refine List.map_congr_left fun n mem => ?_
  obtain ⟨low, -⟩ := mem_siteNumbers.1 mem
  simp only [siteStatus]
  by_cases site : n ≤ s.start.config.siteCount
  · rw [if_pos (siteOk_iff.2 ⟨low, site⟩), if_pos site]
    rfl
  · rw [if_neg fun ok => site (siteOk_iff.1 ok).2, if_neg site]
    rfl

/-- The mask and the reasons together tell the sites' statuses. -/
theorem sites_eq_iff : siteMask s = siteMask t ∧ siteReasons s = siteReasons t ↔
    ∀ n, 1 ≤ n → n ≤ 8 → siteStatus s n = siteStatus t n := by
  rw [siteReasons_eq, siteReasons_eq, List.map_inj_left]
  constructor
  · rintro ⟨mask, reasons⟩ n low high
    have up : siteStatus s n = some .up ↔ siteStatus t n = some .up := by
      rw [← maskHas_siteMask_iff low high, mask, maskHas_siteMask_iff low high]
    have reason := reasons n (mem_siteNumbers.2 ⟨low, high⟩)
    cases hs : siteStatus s n <;> cases ht : siteStatus t n <;> simp_all
  · refine fun same => ⟨mask_ext fun n low high => ?_, fun n mem => ?_⟩
    · rw [maskHas_siteMask_iff low high, maskHas_siteMask_iff low high, same n low high]
    · obtain ⟨low, high⟩ := mem_siteNumbers.1 mem
      rw [same n low high]

theorem statusDue_iff (before s : State) : statusDue before s = true ↔
    before.handler.rel ≠ .bound ∨ s.handler.statusOwed = true ∨
      before.pins.indexEn ≠ indexConditions s ∨ before.handler.soak ≠ s.handler.soak ∨
      (∃ n, 1 ≤ n ∧ n ≤ 8 ∧ siteStatus before n ≠ siteStatus s n) ∨
      before.handler.jamLatch ≠ s.handler.jamLatch ∨ before.handler.jamCount ≠ s.handler.jamCount := by
  have sites : (∃ n, 1 ≤ n ∧ n ≤ 8 ∧ siteStatus before n ≠ siteStatus s n) ↔
      siteMask before ≠ siteMask s ∨ siteReasons before ≠ siteReasons s := by
    rw [← not_and_or, sites_eq_iff]
    push Not
    rfl
  rw [sites]
  simp only [statusDue, Bool.or_eq_true, bne_iff_ne, or_assoc]

/-! ## The end of an event at a HANDLER -/

theorem settleHandler_of_due {before : State} (handler : s.start.role = .handler) (active : s.isActive = true)
    (bound : s.handler.rel = .bound) (due : statusDue before s = true) : settleHandler before s =
      (s.setHandler { s.handler with statusTimer := s.after s.beaconMs, statusOwed := false }).setLink
        (s.link.posts [frameTo s.handler.cell (.handlerStatus (statusNow s))]) := by
  unfold settleHandler
  rw [if_pos (by simp [State.isRole, handler, active, bound]), if_pos due, sendTo_eq]
  rfl

theorem settleHandler_of_not_due {before : State} (handler : s.start.role = .handler) (active : s.isActive = true)
    (bound : s.handler.rel = .bound) (due : statusDue before s = false) : settleHandler before s = s := by
  unfold settleHandler
  rw [if_pos (by simp [State.isRole, handler, active, bound]), if_neg (by simp [due])]

theorem settleHandler_of_unbound {before : State} (unbound : s.isActive = false ∨ s.handler.rel ≠ .bound) :
    settleHandler before s = s.setHandler { s.handler with statusTimer := none, statusOwed := false } := by
  unfold settleHandler
  refine if_neg fun on => ?_
  simp only [Bool.and_eq_true, beq_iff_eq] at on
  obtain ⟨⟨-, active⟩, bound⟩ := on
  simp [active, bound] at unbound

/-- At a HANDLER only the resync test and the status make anything of an event's end but the pins and the spacing. -/
theorem settle_handler (before : State) (handler : s.start.role = .handler) :
    (settle before s).link = (settleHandler before (settleHolds before s)).link ∧
      (settle before s).handler = (settleHandler before (settleHolds before s)).handler := by
  have start : (settleHolds before s).start = s.start := (keeps_settleHolds (.refl s)).start
  have cell : settleCell before (settleHolds before s) = settleHolds before s :=
    settleCell_of_idle before (by simp [start, handler])
  unfold settle
  rw [cell]
  exact ⟨rfl, rfl⟩

/-- What the end of an event makes of the link and the status timer of a HANDLER, from what the resync test has
left of the link. -/
theorem settle_status (before : State) (handler : s.start.role = .handler) :
    let l := (settleHolds before s).link
    (s.isActive = true → s.handler.rel = .bound → statusDue before s = true →
      (settle before s).link = l.posts [frameTo s.handler.cell (.handlerStatus (statusNow s))] ∧
        (settle before s).handler.statusTimer = some (s.now + s.start.config.beaconInterval * 1000)) ∧
    (s.isActive = true → s.handler.rel = .bound → statusDue before s = false →
      (settle before s).link = l ∧ (settle before s).handler.statusTimer = s.handler.statusTimer) ∧
    (s.isActive = false ∨ s.handler.rel ≠ .bound →
      (settle before s).link = l ∧ (settle before s).handler.statusTimer = none) := by
  obtain ⟨link, handled⟩ := settle_handler before handler
  obtain ⟨r, asked, -, -, -, held⟩ := settleHolds_eq before s
  rw [link, handled, held]
  let u := (setResync r s).setLink (s.link.posts asked)
  refine ⟨fun active bound due => ?_, fun active bound due => ?_, fun unbound => ?_⟩
  · rw [settleHandler_of_due (s := u) handler active bound due]
    exact ⟨rfl, rfl⟩
  · rw [settleHandler_of_not_due (s := u) handler active bound due]
    exact ⟨rfl, rfl⟩
  · rw [settleHandler_of_unbound (s := u) unbound]
    exact ⟨rfl, rfl⟩

/-- What the resync test at the end of an event adds to the queue. -/
theorem settleHolds_asked (before s : State) : ∃ asked, asked.length ≤ 1 ∧
    (s.holds.digest = before.holds.digest ∧ s.holds.records.length = before.holds.records.length → asked = []) ∧
    (∀ f ∈ asked, ∃ n i, f = frameTo n (.holdListReq i)) ∧
    (settleHolds before s).link.queue = s.link.queue ++ asked ∧
    ((settleHolds before s).link.tx = .off ↔ s.link.tx = .off) := by
  obtain ⟨r, fs, one, same, requests, held⟩ := settleHolds_eq before s
  obtain ⟨asked, sub, grown, -⟩ := grows_posts s.link fs
  rw [held]
  exact ⟨asked, sub.length_le.trans one, fun h => List.sublist_nil.1 (same h ▸ sub),
    fun f mem => requests f (sub.subset mem), grown.queue, grown.off⟩

theorem settleHolds_of_changed {before : State} (changed : s.holds.digest ≠ before.holds.digest ∨
    s.holds.records.length ≠ before.holds.records.length) : settleHolds before s = resyncTest s :=
  if_neg (not_and_or.2 changed)

theorem settleHolds_of_same {before : State} (digest : s.holds.digest = before.holds.digest)
    (length : s.holds.records.length = before.holds.records.length) : settleHolds before s = s :=
  if_pos ⟨digest, length⟩

theorem posts_one_queue {l : Link} {f : QFrame} (room : l.queue.length < 16) (on : l.tx ≠ .off) :
    (l.posts [f]).queue = l.queue ++ [f] := posts_queue on (by simp only [List.length_singleton]; omega)

/-- Settles O16. -/
theorem handlerStatusIsSentOnceAnEvent : Obligations.HandlerStatusIsSentOnceAnEvent := by
  refine ⟨statusDue_iff, fun s => ?_, fun before s handler => ?_, fun before s handler digest length => ?_⟩
  · refine ⟨rfl, rfl, rfl, rfl, by simp [statusNow], ?_, ?_, rfl, fun n low high => ?_⟩
    · intro u valid target
      simp only [statusNow] at valid ⊢
      simp [valid, target]
    · intro valid
      simp only [statusNow] at valid ⊢
      simp [valid]
    · have reason : (siteReasons s)[n - 1]? = some ((siteStatus s n).getD .up) := by
        have here : siteNumbers[n - 1]? = some n := by
          interval_cases n <;> rfl
        rw [siteReasons_eq, List.getElem?_map, here]
        rfl
      refine ⟨?_, fun site => ?_, fun above => ?_⟩
      · simp [statusNow, maskHas_siteMask, low, high]
      · simp [statusNow, reason, siteStatus, site]
      · simp [statusNow, reason, siteStatus, Nat.not_le.2 above]
  · obtain ⟨asked, one, same, requests, queue, off⟩ := settleHolds_asked before s
    obtain ⟨due, undue, unbound⟩ := settle_status before handler
    refine ⟨asked, one, same, fun changed => by rw [← settleHolds_of_changed changed, queue], requests,
      fun active bound h => ⟨(due active bound h).2, fun room on => ?_⟩, fun active bound h => ?_, fun h => ?_⟩
    · rw [(due active bound h).1, posts_one_queue (by rw [queue, List.length_append]; exact room) (off.not.2 on), queue]
      rfl
    · exact (undue active bound h).imp_left fun link => by rw [link, queue]
    · exact (unbound h).imp_left fun link => by rw [link, queue]
  · obtain ⟨due, undue, unbound⟩ := settle_status before handler
    rw [settleHolds_of_same digest length] at due undue unbound
    refine ⟨fun active bound h room on => ?_, undue, unbound⟩
    exact (due active bound h).imp_left fun link => by rw [link, posts_one_queue room on]; rfl

end Sys2Proof.Machine
end

section
/-! PROOFS. The claims at the end of an event (R58 to R60): the checks, the score, the order, and which sightings
are claimed. -/
namespace Sys2Proof.Machine

variable {s t : State}

/-! ## The checks, the score and the order -/

theorem fitHandler_eq_some {c : Cell} {f : HandlerFit} : fitHandler c = some f ↔
    c.binding.state = .bound ∧ f = c.binding.fit ∨
      c.binding.state ≠ .bound ∧ ∃ j d, c.reservation = .reserved j f d := by
  unfold fitHandler
  split
  · next bound => simp [bound, eq_comm]
  · next unbound => split <;> simp_all

/-- The checks of R58 on which the cell's own queue has no say. -/
def passesSeven (s : State) (l : LotRecord) : Prop := eligibility s l = .eligible ∨ eligibility s l = .queueFull

/-- Check 8 of R58 is the last: a sighting that passes the others is ELIGIBLE while the queue and the pending
claims number less than 4. -/
theorem eligibility_of_passesSeven {l : LotRecord} (passes : passesSeven s l) : eligibility s l =
    if Config.cellQueueSize ≤ s.cell.queue.length + claimsPending s.cell then .queueFull else .eligible := by
  unfold passesSeven at passes
  unfold eligibility at *
  cases fits : fitHandler s.cell <;> rw [fits] at passes <;> dsimp only at * <;> split_ifs at * <;> simp_all

/-- The checks of R58 from the fourth on. -/
theorem eligibility_of_free {l : LotRecord} (station : s.start.station = .active) (clear : s.holds.overflow = false)
    (free : ¬lotMatched s.holds (queryOf l) = true) : eligibility s l =
      if ¬(s.start.config.programs = [] ∨ l.program ∈ s.start.config.programs) then .program
      else match fitHandler s.cell with
        | none => .noHandler
        | some f =>
          if ¬(l.kit = f.kit ∨ s.start.config.kitChangeAllowed = true) then .kit
          else if ¬(f.tempMin ≤ l.temp ∧ l.temp ≤ f.tempMax) then .temperature
          else if 8 ≤ s.cell.outbox.length then .outboxFull
          else if 4 ≤ s.cell.queue.length + claimsPending s.cell then .queueFull
          else .eligible := by
  unfold eligibility Config.outboxSize Config.cellQueueSize
  cases fitHandler s.cell <;> simp [State.isActive, station, clear, free, imp_iff_not_or]

theorem eligibility_spelled (s : State) (l : LotRecord) :
    (s.start.station ≠ .active → eligibility s l = .notActive) ∧
    (s.start.station = .active →
      (s.holds.overflow = true → eligibility s l = .overflow) ∧
      (s.holds.overflow = false → lotMatched s.holds (queryOf l) = true → eligibility s l = .held) ∧
      (s.holds.overflow = false → ¬lotMatched s.holds (queryOf l) = true →
        let listed : Prop := s.start.config.programs = [] ∨ l.program ∈ s.start.config.programs
        (¬listed → eligibility s l = .program) ∧
        (listed → fitHandler s.cell = none → eligibility s l = .noHandler) ∧
        ∀ f, listed → fitHandler s.cell = some f →
          let kitOk : Prop := l.kit = f.kit ∨ s.start.config.kitChangeAllowed = true
          let tempOk : Prop := f.tempMin ≤ l.temp ∧ l.temp ≤ f.tempMax
          (¬kitOk → eligibility s l = .kit) ∧
          (kitOk → ¬tempOk → eligibility s l = .temperature) ∧
          (kitOk → tempOk → 8 ≤ s.cell.outbox.length → eligibility s l = .outboxFull) ∧
          (kitOk → tempOk → s.cell.outbox.length < 8 →
            (4 ≤ s.cell.queue.length + claimsPending s.cell → eligibility s l = .queueFull) ∧
            (s.cell.queue.length + claimsPending s.cell < 4 → eligibility s l = .eligible)))) := by
  refine ⟨fun station => ?_, fun station => ⟨fun crowded => ?_, fun clear held => ?_, fun clear free =>
    ⟨fun unlisted => ?_, fun listed none => ?_, fun f listed fits =>
      ⟨fun kit => ?_, fun kit temp => ?_, fun kit temp full => ?_, fun kit temp room => ⟨fun full => ?_, fun low => ?_⟩⟩⟩⟩⟩
  · simp [eligibility, State.isActive, station]
  · simp [eligibility, State.isActive, station, crowded]
  · simp [eligibility, State.isActive, station, clear, held]
  all_goals rw [eligibility_of_free station clear free]
  · rw [if_pos unlisted]
  · rw [if_neg (not_not.2 listed), none]
  all_goals rw [if_neg (not_not.2 listed), fits]; dsimp only
  · rw [if_pos kit]
  all_goals rw [if_neg (not_not.2 kit)]
  · rw [if_pos temp]
  all_goals rw [if_neg (not_not.2 temp)]
  · rw [if_pos full]
  all_goals rw [if_neg (Nat.not_le.2 room)]
  · rw [if_pos full]
  · rw [if_neg (Nat.not_le.2 low)]

theorem score_spelled (c : Cell) (l : LotRecord) : ∃ k m,
    score c l = 128 + k + m - 24 * (c.queue.length + if c.active = none then 0 else 1) ∧
    (c.binding.state = .bound →
      k = (if l.kit = c.binding.fit.kit then 64 else 0) ∧
      ((∃ u, c.reached = some u ∧ u - 2 ≤ l.temp ∧ l.temp ≤ u + 2) → m = 32) ∧
      ((∀ u, c.reached = some u → l.temp < u - 2 ∨ u + 2 < l.temp) → m = 0)) ∧
    (c.binding.state ≠ .bound → m = 0 ∧
      (∀ j f d, c.reservation = .reserved j f d → k = if l.kit = f.kit then 32 else 0) ∧
      ((∀ j f d, c.reservation ≠ .reserved j f d) → k = 0)) := by
  refine ⟨scoreKit c l, scoreTemp c l, ?_, fun bound => ⟨?_, ?_, ?_⟩, fun unbound => ⟨?_, ?_, ?_⟩⟩
  · cases active : c.active <;> simp [score, load, active]
  · simp [scoreKit, bound]
  · rintro ⟨u, reached, low, high⟩
    simp only [scoreTemp, bound, if_true, reached]
    exact if_pos (by omega)
  · intro far
    simp only [scoreTemp, bound, if_true]
    cases reached : c.reached with
    | none => rfl
    | some u =>
      have := far u reached
      exact if_neg (by omega)
  · simp [scoreTemp, unbound]
  · intro j f d reserved
    simp [scoreKit, unbound, reserved]
  · intro none
    simp only [scoreKit, unbound, if_false]

theorem claimFirst_iff (s : State) (x y : Sighting) : claimFirst s x y = true ↔
    y.lot.priority < x.lot.priority ∨ x.lot.priority = y.lot.priority ∧
      (score s.cell y.lot < score s.cell x.lot ∨ score s.cell x.lot = score s.cell y.lot ∧
        (s.age y.firstHeard < s.age x.firstHeard ∨ s.age x.firstHeard = s.age y.firstHeard ∧
          (x.lot.lotId < y.lot.lotId ∨ x.lot.lotId = y.lot.lotId ∧ x.lot.index < y.lot.index))) := by
  simp only [claimFirst]
  split_ifs <;> simp only [decide_eq_true_eq] <;> omega

theorem claimFirst_asymm (s : State) (x y : Sighting) (h : claimFirst s x y = true) : claimFirst s y x = false := by
  rw [← Bool.not_eq_true]
  rw [claimFirst_iff] at *
  omega

theorem claimFirst_trans (s : State) (x y z : Sighting) (h : claimFirst s x y = false)
    (k : claimFirst s y z = false) : claimFirst s x z = false := by
  rw [← Bool.not_eq_true] at *
  rw [claimFirst_iff] at *
  omega

/-- Of two sightings of different lots one is claimed first. -/
theorem claimFirst_total {x y : Sighting} (apart : ¬sameLot x.lot y.lot) (h : claimFirst s x y = false) :
    claimFirst s y x = true := by
  rw [← Bool.not_eq_true] at h
  rw [claimFirst_iff] at *
  simp only [sameLot] at apart
  omega

end Sys2Proof.Machine
end

section
/-! PROOFS. The claims of an event, one by one (R60): the loop that makes them, with the list of those made so far. -/
namespace Sys2Proof.Machine

variable {s t : State}

/-! ## What the checks read -/

theorem passesSeven_iff {l : LotRecord} : passesSeven s l ↔ s.start.station = .active ∧ s.holds.overflow = false ∧
    ¬lotMatched s.holds (queryOf l) = true ∧
    (s.start.config.programs = [] ∨ l.program ∈ s.start.config.programs) ∧
    ∃ f, fitHandler s.cell = some f ∧ (l.kit = f.kit ∨ s.start.config.kitChangeAllowed = true) ∧
      (f.tempMin ≤ l.temp ∧ l.temp ≤ f.tempMax) ∧ s.cell.outbox.length < 8 := by
  obtain ⟨dead, alive⟩ := eligibility_spelled s l
  unfold passesSeven
  by_cases station : s.start.station = .active
  swap
  · simp [dead station, station]
  cases crowded : s.holds.overflow with
  | true => simp [(alive station).1 crowded]
  | false =>
    by_cases held : lotMatched s.holds (queryOf l) = true
    · simp [(alive station).2.1 crowded held, held]
    · rw [eligibility_of_free station crowded held]
      cases fits : fitHandler s.cell <;> dsimp only <;> split_ifs <;> simp_all

theorem eligible_iff {l : LotRecord} : eligibility s l = .eligible ↔
    passesSeven s l ∧ s.cell.queue.length + claimsPending s.cell < 4 := by
  constructor
  · intro eligible
    have passes : passesSeven s l := .inl eligible
    have which := eligibility_of_passesSeven passes
    refine ⟨passes, ?_⟩
    by_contra full
    rw [if_pos (by simpa [Config.cellQueueSize] using full), eligible] at which
    cases which
  · rintro ⟨passes, low⟩
    rw [eligibility_of_passesSeven passes, if_neg (by simpa [Config.cellQueueSize] using low)]

theorem passesSeven_congr {l : LotRecord} (start : t.start = s.start)
    (holds : t.holds = { s.holds with resync := t.holds.resync }) (outbox : t.cell.outbox = s.cell.outbox)
    (fits : fitHandler t.cell = fitHandler s.cell) : passesSeven t l ↔ passesSeven s l := by
  have matched : lotMatched t.holds (queryOf l) = lotMatched s.holds (queryOf l) := by rw [holds]; rfl
  have overflow : t.holds.overflow = s.holds.overflow := by rw [holds]
  rw [passesSeven_iff, passesSeven_iff, start, outbox, fits, matched, overflow]

theorem eligibility_congr {l : LotRecord} (start : t.start = s.start)
    (holds : t.holds = { s.holds with resync := t.holds.resync }) (outbox : t.cell.outbox = s.cell.outbox)
    (fits : fitHandler t.cell = fitHandler s.cell) (queue : t.cell.queue = s.cell.queue)
    (pending : claimsPending t.cell = claimsPending s.cell) : eligibility t l = eligibility s l := by
  have matched : lotMatched t.holds (queryOf l) = lotMatched s.holds (queryOf l) := by rw [holds]; rfl
  have overflow : t.holds.overflow = s.holds.overflow := by rw [holds]
  simp only [eligibility, State.isActive, start, outbox, fits, queue, pending, matched, overflow] <;> rfl

/-! ## The claims made so far -/

/-- A sighting once some have been claimed and the SEEN ones judged. -/
def claimedAs (s : State) (done : List Sighting) (res : Sighting → Eligibility) (x : Sighting) : Sighting :=
  if x ∈ done then { x with state := .pending (score s.cell x.lot) s.clock, result := .eligible }
  else if isSeen x then { x with result := res x } else x

/-- The CLAIM of a sighting. -/
def claimFrame (s : State) (x : Sighting) : QFrame :=
  frameTo x.stage (.claim x.lot.lotId x.lot.index (score s.cell x.lot) false)

/-- The state once some sightings have been claimed. -/
def claimedState (s : State) (done : List Sighting) (res : Sighting → Eligibility) : State :=
  (setSightings (s.cell.sightings.map (claimedAs s done res)) s).setLink (s.link.posts (done.map (claimFrame s)))

/-- The sightings claimed so far are the first of those that pass, and no more than there is room for. -/
structure Claims (s : State) (done : List Sighting) : Prop where
  mem : ∀ x ∈ done, x ∈ s.cell.sightings ∧ isSeen x = true ∧ passesSeven s x.lot
  sorted : done.Pairwise fun x y => claimFirst s x y = true
  first : ∀ y ∈ s.cell.sightings, isSeen y = true → passesSeven s y.lot → y ∉ done →
    ∀ x ∈ done, claimFirst s x y = true
  room : s.cell.queue.length + claimsPending s.cell + done.length ≤ 4

section
variable {done : List Sighting} {res : Sighting → Eligibility} {x y : Sighting}

@[simp] theorem claimedAs_lot : (claimedAs s done res x).lot = x.lot := by
  unfold claimedAs
  split
  · rfl
  split <;> rfl

@[simp] theorem claimedAs_stage : (claimedAs s done res x).stage = x.stage := by
  unfold claimedAs
  split
  · rfl
  split <;> rfl

@[simp] theorem claimedAs_firstHeard : (claimedAs s done res x).firstHeard = x.firstHeard := by
  unfold claimedAs
  split
  · rfl
  split <;> rfl

theorem isSeen_claimedAs : isSeen (claimedAs s done res x) = true ↔ x ∉ done ∧ isSeen x = true := by
  unfold claimedAs
  split
  · next here => simp [here, isSeen]
  · next out =>
    split
    · next seen => exact iff_of_true seen ⟨out, seen⟩
    · next pending => simp [pending]

theorem claimedAs_nil (res : Sighting → Eligibility) (own : ∀ x, res x = x.result) : claimedAs s [] res x = x := by
  unfold claimedAs
  rw [if_neg List.not_mem_nil, own, ite_self]

theorem claimFirst_irrefl (s : State) (x : Sighting) : ¬claimFirst s x x = true := fun h => by
  simpa [h] using claimFirst_asymm s x x h

theorem Claims.nodup (h : Claims s done) : done.Nodup :=
  h.sorted.imp fun {a b} first (same : a = b) => claimFirst_irrefl s a (by rwa [← same] at first)

theorem nodup_of_distinct {xs : List Sighting} (h : Distinct xs) : xs.Nodup :=
  h.imp fun {a b} apart (same : a = b) => apart (same ▸ ⟨rfl, rfl⟩)

/-- Each claim adds one to the claims pending. -/
theorem claimsPending_claimedState (distinct : Distinct s.cell.sightings) (h : Claims s done) :
    claimsPending (claimedState s done res).cell = claimsPending s.cell + done.length := by
  have made : (s.cell.sightings.filter (· ∈ done)).Perm done :=
    (List.perm_ext_iff_of_nodup ((nodup_of_distinct distinct).filter _) h.nodup).2 fun x => by
      simpa using fun mem => (h.mem x mem).1
  rw [claimsPending_eq, claimsPending_eq, ← made.length_eq, ← List.countP_eq_length_filter]
  simp only [claimedState, setSightings, pendingCount]
  change (s.cell.sightings.map (claimedAs s done res)).countP _ = _
  rw [List.countP_map]
  have split (xs : List Sighting) (all : ∀ x ∈ xs, x ∈ done → isSeen x = true) :
      xs.countP ((fun x => !isSeen x) ∘ claimedAs s done res) =
        xs.countP (fun x => !isSeen x) + xs.countP (· ∈ done) := by
    induction xs with
    | nil => rfl
    | cons x xs ih =>
      have here := all x List.mem_cons_self
      have seen := isSeen_claimedAs (s := s) (done := done) (res := res) (x := x)
      rw [List.countP_cons, List.countP_cons, List.countP_cons,
        ih fun y mem => all y (List.mem_cons_of_mem x mem)]
      by_cases mem : x ∈ done <;> cases look : isSeen x <;> simp_all <;> omega
  exact split _ fun x _ mem => (h.mem x mem).2.1

theorem passesSeven_claimedState {l : LotRecord} : passesSeven (claimedState s done res) l ↔ passesSeven s l :=
  passesSeven_congr rfl rfl rfl rfl

/-- Whether a sighting is ELIGIBLE does not depend on the results found before. -/
theorem eligibility_claimedState (distinct : Distinct s.cell.sightings) (h : Claims s done)
    (res' : Sighting → Eligibility) (l : LotRecord) :
    eligibility (claimedState s done res) l = eligibility (claimedState s done res') l :=
  eligibility_congr rfl rfl rfl rfl rfl (by
    rw [claimsPending_claimedState distinct h, claimsPending_claimedState distinct h])

theorem eligible_claimedState (distinct : Distinct s.cell.sightings) (h : Claims s done) {l : LotRecord} :
    eligibility (claimedState s done res) l = .eligible ↔
      passesSeven s l ∧ s.cell.queue.length + claimsPending s.cell + done.length < 4 := by
  rw [eligible_iff, passesSeven_claimedState, claimsPending_claimedState distinct h, ← Nat.add_assoc]
  rfl

theorem judge_claimedState : judgeSightings (claimedState s done res) =
    claimedState s done fun x => eligibility (claimedState s done res) x.lot := by
  have each (x : Sighting) : (if isSeen (claimedAs s done res x) then
      { claimedAs s done res x with
        result := eligibility (claimedState s done res) (claimedAs s done res x).lot }
      else claimedAs s done res x) =
      claimedAs s done (fun x => eligibility (claimedState s done res) x.lot) x := by
    rw [claimedAs_lot]
    unfold claimedAs
    by_cases mem : x ∈ done
    · simp [mem, isSeen]
    · cases seen : isSeen x
      · simp [mem, seen]
      · have still : isSeen { x with result := res x } = true := seen
        simp [mem, still]
  have maps : ((claimedState s done res).cell.sightings.map fun x => if isSeen x then
      { x with result := eligibility (claimedState s done res) x.lot } else x) =
      s.cell.sightings.map (claimedAs s done fun x => eligibility (claimedState s done res) x.lot) := by
    change (s.cell.sightings.map (claimedAs s done res)).map _ = _
    rw [List.map_map]
    exact List.map_congr_left fun x _ => each x
  rw [judgeSightings, maps]
  rfl

theorem claimFirst_claimedState {e : Sighting → Eligibility} :
    claimFirst (claimedState s done res) (claimedAs s done e x) (claimedAs s done e y) = claimFirst s x y := by
  simp only [claimFirst, claimedAs_lot, claimedAs_firstHeard]
  rfl

/-- Claiming a sighting that is not yet claimed. -/
theorem claimSighting_claimedState (distinct : Distinct s.cell.sightings) (mem : x ∈ s.cell.sightings)
    (out : x ∉ done) (seen : isSeen x = true) (eligible : res x = .eligible) :
    claimSighting (claimedAs s done res x) (claimedState s done res) = claimedState s (done ++ [x]) res := by
  have each (y : Sighting) (my : y ∈ s.cell.sightings) : (if isLot (claimedAs s done res y).lot x.lot.lotId x.lot.index
      then { claimedAs s done res y with state := .pending (score s.cell x.lot) s.clock }
      else claimedAs s done res y) = claimedAs s (done ++ [x]) res y := by
    rw [claimedAs_lot]
    unfold claimedAs
    split
    · next here =>
      obtain rfl := eq_of_sameLot distinct my mem (isLot_iff.1 here)
      simp [out, seen, eligible]
    · next other =>
      have differ : y ≠ x := fun same => other (isLot_iff.2 (same ▸ ⟨rfl, rfl⟩))
      simp [differ]
  have maps : ((claimedState s done res).cell.sightings.map fun y => if isLot y.lot x.lot.lotId x.lot.index
      then { y with state := .pending (score s.cell x.lot) s.clock } else y) =
      s.cell.sightings.map (claimedAs s (done ++ [x]) res) := by
    change (s.cell.sightings.map (claimedAs s done res)).map _ = _
    rw [List.map_map]
    exact List.map_congr_left each
  have claimed : claimSighting (claimedAs s done res x) (claimedState s done res) =
      (setSightings (s.cell.sightings.map (claimedAs s (done ++ [x]) res)) s).setLink
        ((s.link.posts (done.map (claimFrame s))).posts [claimFrame s x]) := by
    rw [← maps, claimSighting, sendTo_eq, claimedAs_lot, claimedAs_stage]
    rfl
  rw [claimed, claimedState, List.map_append, posts_append]
  rfl

/-- A sighting that passes and is not yet claimed is among those that may be claimed, while there is room. -/
theorem mem_claimable (distinct : Distinct s.cell.sightings) (h : Claims s done) {e : Sighting → Eligibility}
    (judged : ∀ y, e y = eligibility (claimedState s done res) y.lot) (z : Sighting) :
    (z ∈ (claimedState s done e).cell.sightings.filter fun x => isSeen x && x.result == .eligible) ↔
      ∃ y ∈ s.cell.sightings, y ∉ done ∧ isSeen y = true ∧ passesSeven s y.lot ∧ claimedAs s done e y = z ∧
        e y = .eligible ∧ s.cell.queue.length + claimsPending s.cell + done.length < 4 := by
  rw [List.mem_filter]
  change z ∈ s.cell.sightings.map (claimedAs s done e) ∧ _ ↔ _
  rw [List.mem_map, Bool.and_eq_true, beq_iff_eq]
  constructor
  · rintro ⟨⟨y, my, rfl⟩, look, result⟩
    obtain ⟨out, seen⟩ := isSeen_claimedAs.1 look
    have own : e y = .eligible := by simpa [claimedAs, out, seen] using result
    obtain ⟨passes, low⟩ := (eligible_claimedState distinct h).1 (judged y ▸ own)
    exact ⟨y, my, out, seen, passes, rfl, own, low⟩
  · rintro ⟨y, my, out, seen, passes, rfl, own, low⟩
    exact ⟨⟨y, my, rfl⟩, isSeen_claimedAs.2 ⟨out, seen⟩, by simpa [claimedAs, out, seen] using own⟩

/-- The next sighting to be claimed joins those claimed so far. -/
theorem Claims.next (distinct : Distinct s.cell.sightings) (h : Claims s done) {e : Sighting → Eligibility}
    (judged : ∀ y, e y = eligibility (claimedState s done res) y.lot) {z : Sighting}
    (best : bestBy (claimFirst (claimedState s done e)) ((claimedState s done e).cell.sightings.filter fun x =>
      isSeen x && x.result == .eligible) = some z) :
    ∃ x, Claims s (done ++ [x]) ∧ claimSighting z (claimedState s done e) = claimedState s (done ++ [x]) e := by
  obtain ⟨x, mem, out, seen, passes, rfl, own, low⟩ :=
    (mem_claimable distinct h judged z).1 (mem_of_bestBy _ best)
  refine ⟨x, ⟨fun y my => ?_, ?_, fun y my look pass fresh y' my' => ?_, ?_⟩,
    claimSighting_claimedState distinct mem out seen own⟩
  · obtain my | my := List.mem_append.1 my
    · exact h.mem y my
    · exact List.mem_singleton.1 my ▸ ⟨mem, seen, passes⟩
  · refine List.pairwise_append.2 ⟨h.sorted, List.pairwise_singleton _ _, fun y my w mw => ?_⟩
    exact List.mem_singleton.1 mw ▸ h.first x mem seen passes out y my
  · obtain ⟨undone, differ⟩ := not_or.1 (List.mem_append.not.1 fresh)
    obtain my' | my' := List.mem_append.1 my'
    · exact h.first y my look pass undone y' my'
    · obtain rfl := List.mem_singleton.1 my'
      have eligible : e y = .eligible := judged y ▸ (eligible_claimedState distinct h).2 ⟨pass, low⟩
      have after := better_bestBy (claimFirst_asymm _) (claimFirst_trans _) best _
        ((mem_claimable distinct h judged _).2 ⟨y, my, undone, look, pass, rfl, eligible, low⟩)
      rw [claimFirst_claimedState] at after
      exact claimFirst_total (fun same => differ (by simp [eq_of_sameLot distinct my mem same])) after
  · have := h.room
    rw [List.length_append, List.length_singleton]
    omega

/-- With a claim for each free place the loop claims all that pass, or as many as there is room for. -/
theorem claimLoop_claimedState (distinct : Distinct s.cell.sightings) (n : Nat) (h : Claims s done)
    (fuel : 4 ≤ s.cell.queue.length + claimsPending s.cell + done.length + n) :
    ∃ claimed e, Claims s claimed ∧ claimLoop n (claimedState s done res) = claimedState s claimed e ∧
      (∀ y, e y = eligibility (claimedState s claimed e) y.lot) ∧
      ∀ y ∈ s.cell.sightings, isSeen y = true → passesSeven s y.lot → y ∉ claimed →
        s.cell.queue.length + claimsPending s.cell + claimed.length = 4 := by
  induction n generalizing done res with
  | zero =>
    refine ⟨done, _, h, judge_claimedState, fun y => eligibility_claimedState distinct h _ _, fun _ _ _ _ _ => ?_⟩
    have := h.room
    omega
  | succ n ih =>
    have judged : ∀ y, (fun x : Sighting => eligibility (claimedState s done res) x.lot) y =
      eligibility (claimedState s done res) y.lot := fun _ => rfl
    cases best : bestBy (claimFirst (judgeSightings (claimedState s done res)))
      ((judgeSightings (claimedState s done res)).cell.sightings.filter fun x =>
        isSeen x && x.result == .eligible) with
    | none =>
      rw [claimLoop_none best, judge_claimedState]
      refine ⟨done, _, h, rfl, fun y => eligibility_claimedState distinct h _ _, fun y my seen passes out => ?_⟩
      rw [judge_claimedState] at best
      by_contra low
      have room : s.cell.queue.length + claimsPending s.cell + done.length < 4 := lt_of_le_of_ne h.room low
      have there := (mem_claimable distinct h judged _).2 ⟨y, my, out, seen, passes, rfl,
        (eligible_claimedState distinct h).2 ⟨passes, room⟩, room⟩
      rw [bestBy_eq_none.1 best] at there
      exact absurd there List.not_mem_nil
    | some z =>
      rw [claimLoop_some best, judge_claimedState]
      rw [judge_claimedState] at best
      obtain ⟨x, claims, claimed⟩ := h.next distinct judged best
      rw [claimed]
      exact ih claims (by rw [List.length_append, List.length_singleton]; omega)

end

/-- None has been claimed yet. -/
theorem claimedState_nil : claimedState s [] Sighting.result = s := by
  have maps : s.cell.sightings.map (claimedAs s [] Sighting.result) = s.cell.sightings :=
    (List.map_congr_left fun x _ => claimedAs_nil _ fun _ => rfl).trans (List.map_id _)
  rw [claimedState, maps]
  rfl

theorem claims_nil (room : s.cell.queue.length + claimsPending s.cell ≤ 4) : Claims s [] :=
  ⟨List.forall_mem_nil _, .nil, fun _ _ _ _ _ => List.forall_mem_nil _, room⟩

end Sys2Proof.Machine
end

section
/-! PROOFS. Which sightings are claimed at the end of an event: the statement. -/
namespace Sys2Proof.Machine

variable {s t u v w : State}

/-! ## What follows the claims in an event -/

/-- The second state has come from the first without a change of what the claims have left and the checks read. -/
structure AfterClaims (v w : State) : Prop where
  start : w.start = v.start
  holds : w.holds = { v.holds with resync := w.holds.resync }
  link : ∃ rest, w.link = v.link.posts rest
  cell : (w.cell.sightings, w.cell.queue, w.cell.outbox) = (v.cell.sightings, v.cell.queue, v.cell.outbox)
  fits : fitHandler w.cell = fitHandler v.cell

theorem AfterClaims.refl (v : State) : AfterClaims v v := ⟨rfl, rfl, ⟨[], rfl⟩, rfl, rfl⟩

theorem AfterClaims.trans (h : AfterClaims u v) (k : AfterClaims v w) : AfterClaims u w where
  start := k.start.trans h.start
  holds := resync_trans h.holds k.holds
  link := by
    obtain ⟨fs, hl⟩ := h.link
    obtain ⟨gs, kl⟩ := k.link
    exact ⟨fs ++ gs, by rw [kl, hl, posts_append]⟩
  cell := k.cell.trans h.cell
  fits := k.fits.trans h.fits

theorem AfterClaims.eligibility (h : AfterClaims v w) (l : LotRecord) : eligibility w l = eligibility v l := by
  have cell := h.cell
  simp only [Prod.mk.injEq] at cell
  obtain ⟨sightings, queue, outbox⟩ := cell
  exact eligibility_congr h.start h.holds outbox h.fits queue (by rw [claimsPending_eq, claimsPending_eq, sightings])

theorem afterClaims_idleUpkeep (v : State) : AfterClaims v (idleUpkeep v) := by
  obtain ⟨i, e, kept⟩ := idleUpkeep_eq v
  rw [kept]
  exact ⟨rfl, rfl, ⟨[], rfl⟩, rfl, rfl⟩

theorem wantedTest_cases_free (v : State) : wantedTest v = v ∨
    v.cell.reservation = .none ∧ ∃ kit temp, wantedTest v = sendWanted kit temp v := by
  unfold wantedTest
  split
  · next on =>
    simp only [Bool.and_eq_true, beq_iff_eq] at on
    split
    · exact .inr ⟨on.1.1.2, _, _, rfl⟩
    · exact .inl rfl
  · exact .inl rfl

theorem afterClaims_wantedTest (v : State) : AfterClaims v (wantedTest v) := by
  obtain none | ⟨free, kit, temp, sent⟩ := wantedTest_cases_free v
  · rw [none]
    exact .refl v
  · rw [sent]
    by_cases zones : wantedZones v.start.config.zoneMask = []
    · rw [sendWanted_of_no_zone zones, raise_eq]
      exact ⟨rfl, rfl, ⟨[], rfl⟩, rfl, rfl⟩
    · rw [sendWanted_of_zones zones]
      refine ⟨rfl, rfl, ⟨_, rfl⟩, rfl, ?_⟩
      simp only [fitHandler, free]
      rfl

theorem afterClaims_settlePermit (before v : State) : AfterClaims v (settlePermit before v) := by
  unfold settlePermit
  split
  · rw [sendPermit_eq]
    exact ⟨rfl, rfl, ⟨_, rfl⟩, rfl, rfl⟩
  · exact .refl v

theorem afterClaims_settleRest (before v : State) : AfterClaims v (settleRest before v) := by
  obtain ⟨gs, m, o, -, -, -, handled⟩ := settleHandler_eq before v
  rw [settleRest, handled]
  exact ⟨rfl, rfl, ⟨gs, rfl⟩, rfl, rfl⟩

/-- At an ACTIVE CELL the claims come after the resync test, and before all else. -/
theorem afterClaims_settle (before : State) (active : s.isActive = true) (cell : s.start.role = .cell) :
    AfterClaims (claimLoop 4 (settleHolds before s)) (settle before s) := by
  have start : (settleHolds before s).start = s.start := (keeps_settleHolds (.refl s)).start
  have part : settleCell before (settleHolds before s) =
      settlePermit before (wantedTest (idleUpkeep (claimLoop 4 (settleHolds before s)))) :=
    if_pos (by simpa [State.isActive, State.isRole, start, cell] using active)
  unfold settle
  rw [part]
  exact (((afterClaims_idleUpkeep _).trans (afterClaims_wantedTest _)).trans (afterClaims_settlePermit before _)).trans
    (afterClaims_settleRest before _)

/-! ## None is left ELIGIBLE -/

theorem pendingCount_lt_map {xs : List Sighting} {f : Sighting → Sighting}
    (pending : ∀ x, isSeen x = false → isSeen (f x) = false) {z : Sighting} (mem : z ∈ xs) (seen : isSeen z = true)
    (claimed : isSeen (f z) = false) : pendingCount xs < pendingCount (xs.map f) := by
  have le (ys : List Sighting) : pendingCount ys ≤ pendingCount (ys.map f) := by
    rw [pendingCount, pendingCount, List.countP_map]
    exact List.countP_mono_left fun x _ out => by simpa using pending x (by simpa using out)
  obtain ⟨ys, zs, rfl⟩ := List.append_of_mem mem
  have first := le ys
  have last := le zs
  simp only [pendingCount, List.map_append, List.map_cons, List.countP_append, List.countP_cons, seen, claimed,
    Bool.not_true, Bool.not_false, Bool.false_eq_true, if_true, if_false] at *
  omega

theorem claimsPending_judge (s : State) : claimsPending (judgeSightings s).cell = claimsPending s.cell := by
  rw [claimsPending_eq, claimsPending_eq]
  change (s.cell.sightings.map _).countP _ = s.cell.sightings.countP _
  rw [List.countP_map]
  refine congrArg (List.countP · _) (funext fun x => ?_)
  change (!isSeen (if isSeen x then { x with result := eligibility s x.lot } else x)) = !isSeen x
  split <;> rfl

theorem claimsPending_claim_lt {z : Sighting} (mem : z ∈ s.cell.sightings) (seen : isSeen z = true) :
    claimsPending s.cell < claimsPending (claimSighting z s).cell := by
  have sightings : (claimSighting z s).cell.sightings = s.cell.sightings.map fun x =>
      if isLot x.lot z.lot.lotId z.lot.index then { x with state := .pending (score s.cell z.lot) s.clock } else x := by
    simp only [claimSighting, updateSighting, setSightings, sendTo_cell]
    simp
  rw [claimsPending_eq, claimsPending_eq, sightings]
  refine pendingCount_lt_map (fun x out => ?_) mem seen ?_
  · split
    · rfl
    · exact out
  · rw [if_pos (isLot_iff.2 ⟨rfl, rfl⟩)]
    rfl

theorem result_of_judged {x : Sighting} (mem : x ∈ (judgeSightings s).cell.sightings) (seen : isSeen x = true) :
    x.result = eligibility s x.lot := by
  change x ∈ s.cell.sightings.map _ at mem
  obtain ⟨y, -, rfl⟩ := List.mem_map.1 mem
  split at seen
  · next look => rw [if_pos look]
  · next look => exact absurd seen look

/-- With a claim for each free place the loop leaves no SEEN sighting ELIGIBLE. -/
theorem claimLoop_none_eligible (n : Nat) (s : State)
    (fuel : 4 ≤ s.cell.queue.length + claimsPending s.cell + n) :
    ∀ x ∈ (claimLoop n s).cell.sightings, isSeen x = true → x.result ≠ .eligible := by
  induction n generalizing s with
  | zero =>
    intro x mem seen eligible
    rw [result_of_judged mem seen, eligible_iff] at eligible
    omega
  | succ n ih =>
    cases best : bestBy (claimFirst (judgeSightings s)) ((judgeSightings s).cell.sightings.filter fun x =>
        isSeen x && x.result == .eligible) with
    | none =>
      rw [claimLoop_none best]
      rw [bestBy_eq_none, List.filter_eq_nil_iff] at best
      exact fun x mem seen eligible => best x mem (by simp [seen, eligible])
    | some z =>
      obtain ⟨mem, may⟩ := List.mem_filter.1 (mem_of_bestBy _ best)
      have more := claimsPending_claim_lt mem (Bool.and_eq_true_iff.1 may).1
      rw [claimsPending_judge] at more
      have queue : (claimSighting z (judgeSightings s)).cell.queue = s.cell.queue := by
        rw [claimSighting_eq]
        rfl
      rw [claimLoop_some best]
      exact ih _ (by rw [queue]; omega)

/-! ## The statement -/

/-- The sightings claimed at the end of an event, and what the event's end makes of the table and the queue. -/
theorem settle_claims (before : State) (active : s.isActive = true) (cell : s.start.role = .cell)
    (right : CellQueueRight s) : ∃ claimed, Claims s claimed ∧
      (∀ y ∈ s.cell.sightings, isSeen y = true → passesSeven s y.lot → y ∉ claimed →
        s.cell.queue.length + claimsPending s.cell + claimed.length = 4) ∧
      (settle before s).cell.sightings = s.cell.sightings.map
        (claimedAs s claimed fun x => eligibility (settle before s) x.lot) ∧
      ∃ rest, (settle before s).link =
        ((settleHolds before s).link.posts (claimed.map (claimFrame s))).posts rest := by
  obtain ⟨r, asked, -, -, -, held⟩ := settleHolds_eq before s
  let u := (setResync r s).setLink (s.link.posts asked)
  have after := afterClaims_settle before active cell
  rw [held] at after ⊢
  have fuel : 4 ≤ u.cell.queue.length + claimsPending u.cell + ([] : List Sighting).length + 4 := Nat.le_add_left _ _
  obtain ⟨claimed, e, claims, made, judged, full⟩ := claimLoop_claimedState (s := u) right.2.2.1 4
    (res := Sighting.result) (claims_nil right.1) fuel
  rw [claimedState_nil] at made
  rw [show claimLoop 4 ((setResync r s).setLink (s.link.posts asked)) = claimedState u claimed e from made] at after
  refine ⟨claimed, ⟨fun x mem => ?_, claims.sorted, fun y my seen passes => claims.first y my seen passes, claims.room⟩,
    fun y my seen passes => full y my seen passes, ?_, after.link⟩
  · exact claims.mem x mem
  · have sightings := (Prod.mk.injEq _ _ _ _ ▸ after.cell).1
    rw [sightings]
    refine List.map_congr_left fun x _ => ?_
    have own : e x = eligibility (settle before s) x.lot := by rw [judged, after.eligibility]
    simp only [claimedAs, own]
    rfl

/-- Settles O15. -/
theorem everyEligibleSightingIsClaimed : Obligations.EveryEligibleSightingIsClaimed := by
  refine ⟨fun s l => ?_, score_spelled, claimFirst_iff, fun before s active cell => ⟨?_, fun right => ?_⟩⟩
  · dsimp only
    rw [← lotMatched_iff]
    simp only [← fitHandler_eq_some, ← Option.eq_none_iff_forall_ne_some]
    exact eligibility_spelled s l
  · have after := afterClaims_settle before active cell
    have sightings := (Prod.mk.injEq _ _ _ _ ▸ after.cell).1
    rw [sightings]
    exact claimLoop_none_eligible 4 _ (Nat.le_add_left _ _)
  · obtain ⟨claimed, claims, full, sightings, rest, link⟩ := settle_claims before active cell right
    obtain ⟨asked, one, same, requests, queue, off⟩ := settleHolds_asked before s
    refine ⟨claimed, fun x mem => ?_, claims.sorted, claims.room, fun y my ⟨seen, passes⟩ out =>
      ⟨full y my seen passes out, claims.first y my seen passes out⟩, sightings, asked, one, same, fun changed => ?_,
      requests, fun on room => ?_⟩
    · obtain ⟨mx, seen, passes⟩ := claims.mem x mem
      exact ⟨mx, seen, passes⟩
    · rw [← settleHolds_of_changed (not_and_or.1 changed), queue]
    · obtain ⟨more, -, grown, -⟩ := grows_posts ((settleHolds before s).link.posts (claimed.map (claimFrame s))) rest
      refine ⟨more, ?_⟩
      rw [link, grown.queue, posts_queue (off.not.2 on), queue]
      · rfl
      · rw [queue, List.length_append, List.length_map]
        omega

end Sys2Proof.Machine
end

section
/-! PROOFS. The byte layouts read back (spec/11): numbers, codes and records. -/
namespace Sys2Proof.Machine

/-! ## Numbers in bytes -/

@[simp] theorem byte_toNat (n : Nat) : (byte n).toNat = n % 256 := by simp [byte]

/-- The number at the front of some bytes, in one to four bytes. -/
theorem field_here (n : Nat) (r : List Byte) : field (be1 n ++ r) 0 1 = n % 256 ∧
    field (be2 n ++ r) 0 2 = n % 65536 ∧ field (be3 n ++ r) 0 3 = n % 16777216 ∧
    field (be4 n ++ r) 0 4 = n % 4294967296 := by
  simp [field, num, be1, be2, be3, be4]
  omega

/-- A field behind a number of one to four bytes. -/
theorem field_after (n o w : Nat) (r : List Byte) : field (be1 n ++ r) (o + 1) w = field r o w ∧
    field (be2 n ++ r) (o + 2) w = field r o w ∧ field (be3 n ++ r) (o + 3) w = field r o w ∧
    field (be4 n ++ r) (o + 4) w = field r o w := by
  simp [field, be1, be2, be3, be4]

/-- The number that is all there is. -/
theorem field_last (n : Nat) : field (be1 n) 0 1 = n % 256 ∧ field (be2 n) 0 2 = n % 65536 ∧
    field (be4 n) 0 4 = n % 4294967296 := by
  simp [field, num, be1, be2, be4]
  omega

/-- A field behind some bytes. -/
theorem field_behind (pre r : List Byte) (o w : Nat) : field (pre ++ r) (pre.length + o) w = field r o w := by
  rw [field, field, ← List.drop_drop, List.drop_left]

/-! ## What fits -/

theorem fits1_iff {n : Nat} : fits1 n = true ↔ n < 256 := by simp [fits1]
theorem fits2_iff {n : Nat} : fits2 n = true ↔ n < 65536 := by simp [fits2]
theorem fits3_iff {n : Nat} : fits3 n = true ↔ n < 16777216 := by simp [fits3]
theorem fits4_iff {n : Nat} : fits4 n = true ↔ n < 4294967296 := by simp [fits4]
theorem fitsNibble_iff {n : Nat} : fitsNibble n = true ↔ n < 16 := by simp [fitsNibble]
theorem fitsTemp_iff {t : Int} : fitsTemp t = true ↔ -32768 ≤ t ∧ t < 32768 := by simp [fitsTemp]

/-- A temperature read back from its two bytes. -/
theorem temp_of_be {t : Int} (fits : fitsTemp t = true) : (if (t % 65536).toNat % 65536 < 32768 then
    (((t % 65536).toNat % 65536 : Nat) : Int) else (((t % 65536).toNat % 65536 : Nat) : Int) - 65536) = t := by
  rw [fitsTemp_iff] at fits
  split <;> omega

/-- A mask read back from its bytes. -/
theorem mask_of_be (m : Mask16) : BitVec.ofNat 16 (m.toNat % 65536) = m := by
  rw [Nat.mod_eq_of_lt m.isLt, BitVec.ofNat_toNat, BitVec.setWidth_eq]

theorem sites_of_be (m : SiteMask) : BitVec.ofNat 8 (m.toNat % 256) = m := by
  rw [Nat.mod_eq_of_lt m.isLt, BitVec.ofNat_toNat, BitVec.setWidth_eq]

/-- The sublot byte read back. -/
theorem sublot_of_be {i c : Nat} (hi : i < 16) (hc : c < 16) :
    (i % 16 * 16 + c % 16) % 256 / 16 = i ∧ (i % 16 * 16 + c % 16) % 256 % 16 = c := by omega

/-! ## Codes -/

/-- The codes of the enumerated fields read back, also as a byte holds them. -/
theorem scopeOf_code (x : Scope) : scopeOf (scopeCode x % 256) = some x := by cases x <;> rfl
theorem stationStateOf_code (x : StationState) : stationStateOf (stationStateCode x % 256) = some x := by
  cases x <;> rfl
theorem roleOf_code (x : Role) : roleOf (roleCode x % 256) = some x := by cases x <;> rfl
theorem holdStateOf_code (x : HoldState) : holdStateOf (holdStateCode x % 256) = some x := by cases x <;> rfl
theorem holdReasonOf_code (x : HoldReason) : holdReasonOf (holdReasonCode x % 256) = some x := by cases x <;> rfl
theorem dispositionOf_code (x : Disposition) : dispositionOf (dispositionCode x % 256) = some x := by cases x <;> rfl
theorem completionResultOf_code (x : CompletionResult) :
    completionResultOf (completionResultCode x % 256) = some x := by cases x <;> rfl
theorem acceptAnswerOf_code (x : AcceptAnswer) : acceptAnswerOf (acceptAnswerCode x % 256) = some x := by
  cases x <;> rfl
theorem revokeReasonOf_code (x : RevokeReason) : revokeReasonOf (revokeReasonCode x % 256) = some x := by
  cases x <;> rfl
theorem returnReasonOf_code (x : ReturnReason) : returnReasonOf (returnReasonCode x % 256) = some x := by
  cases x <;> rfl
theorem reserveResultOf_code (x : ReserveResult) : reserveResultOf (reserveResultCode x % 256) = some x := by
  cases x <;> rfl
theorem bindResultOf_code (x : BindResult) : bindResultOf (bindResultCode x % 256) = some x := by cases x <;> rfl
theorem unbindReasonOf_code (x : UnbindReason) : unbindReasonOf (unbindReasonCode x % 256) = some x := by
  cases x <;> rfl
theorem relStateOf_code (x : RelState) : relStateOf (relStateCode x % 256) = some x := by cases x <;> rfl
theorem soakStateOf_code (x : SoakState) : soakStateOf (soakStateCode x % 256) = some x := by cases x <;> rfl
theorem siteStatusOf_code (x : SiteStatus) : siteStatusOf (siteStatusCode x % 256) = some x := by cases x <;> rfl

/-- One to three flags in a byte read back. -/
theorem flag_of_be (a : Bool) : (flagCode a % 256).testBit 0 = a := by cases a <;> rfl

theorem flags_of_be (a b : Bool) : ((flagCode a + 2 * flagCode b) % 256).testBit 0 = a ∧
    ((flagCode a + 2 * flagCode b) % 256).testBit 1 = b := by
  cases a <;> cases b <;> decide

theorem statusFlags_of_be (b : StatusBody) : (statusFlags b % 256).testBit 0 = b.ready ∧
    (statusFlags b % 256).testBit 1 = b.reachedValid ∧ (statusFlags b % 256).testBit 2 = b.jam := by
  simp only [statusFlags]
  cases b.ready <;> cases b.reachedValid <;> cases b.jam <;> decide

/-! ## Records -/

theorem readLot_bytes {l : LotRecord} (wf : l.wf = true) (r : List Byte) : readLot (lotBytes l ++ r) = l := by
  simp only [LotRecord.wf, Bool.and_eq_true, fits1_iff, fits2_iff, fits4_iff, fitsNibble_iff] at wf
  obtain ⟨⟨⟨⟨⟨⟨⟨⟨⟨⟨lotId, index⟩, count⟩, product⟩, program⟩, kit⟩, temp⟩, quantity⟩, group⟩, priority⟩, pack⟩ := wf
  simp only [readLot, lotBytes, sublotByte, fieldTemp, beTemp, List.append_assoc, field_here, field_after,
    sublot_of_be index count, temp_of_be temp, Nat.mod_eq_of_lt, lotId, product, program, kit, quantity, group,
    priority, pack]

theorem readHold_bytes {x : HoldRec} (wf : x.wf = true) (r : List Byte) : readHold (holdBytes x ++ r) = some x := by
  simp only [HoldRec.wf, Bool.and_eq_true, fits1_iff, fits2_iff, fits4_iff] at wf
  obtain ⟨⟨⟨⟨key, generation⟩, origin⟩, detail⟩, trigger⟩ := wf
  simp only [readHold, holdBytes, List.append_assoc, field_here, field_after, scopeOf_code, holdStateOf_code,
    holdReasonOf_code, Nat.mod_eq_of_lt, key, generation, origin, detail, trigger]

theorem reasons_of_fits {m : Mask16} (fits : fitsReasons m = true) : m &&& 0x0FFF#16 = m := by
  simp only [fitsReasons, beq_iff_eq] at fits
  have split : m = (m &&& 0x0FFF#16) ||| (m &&& 0xF000#16) := by
    rw [← BitVec.and_or_distrib_left]
    exact BitVec.and_allOnes.symm
  rw [fits, BitVec.or_zero] at split
  exact split.symm

theorem readCompletion_bytes {c : Completion} (wf : c.wf = true) (r : List Byte) :
    readCompletion (completionBytes c ++ r) = some c := by
  simp only [Completion.wf, Bool.and_eq_true, fits1_iff, fits2_iff, fits3_iff, fits4_iff, fitsNibble_iff] at wf
  obtain ⟨⟨⟨⟨⟨⟨⟨⟨⟨⟨⟨⟨⟨lotId, index⟩, count⟩, product⟩, program⟩, quantity⟩, pack⟩, cell⟩, tested⟩, good⟩,
    unretested⟩, excess⟩, passes⟩, reasons⟩ := wf
  simp only [readCompletion, completionBytes, completionHead, completionTail, sublotByte, beMask, fieldMask,
    List.append_assoc, field_here, field_after, completionResultOf_code, sublot_of_be index count, mask_of_be,
    reasons_of_fits reasons, Nat.mod_eq_of_lt, Option.map_some, lotId, product, program, quantity, pack, cell, tested,
    good, unretested, excess, passes]

theorem readRelease_bytes {x : ReleaseRec} (wf : x.wf = true) (r : List Byte) :
    readRelease (releaseBytes x ++ r) = x := by
  simp only [ReleaseRec.wf, Bool.and_eq_true, fits1_iff, fits2_iff, fits4_iff] at wf
  obtain ⟨⟨⟨⟨⟨⟨⟨lotId, product⟩, count⟩, tested⟩, good⟩, yield⟩, sequence⟩, code⟩ := wf
  simp only [readRelease, releaseBytes, releaseHead, releaseFlags, List.append_assoc, field_here, field_after,
    flags_of_be, Nat.mod_eq_of_lt, lotId, product, count, tested, good, yield, sequence, code]

/-! ## Lists of records -/

/-- Hold records that follow one another are read one by one. -/
theorem readHolds_bytes {xs : List HoldRec} (wf : ∀ x ∈ xs, x.wf = true) (pre : List Byte) :
    readHolds (pre ++ xs.flatMap holdBytes) pre.length xs.length = some xs := by
  induction xs generalizing pre with
  | nil => rfl
  | cons x xs ih =>
    have rest := ih (fun y mem => wf y (List.mem_cons_of_mem x mem)) (pre ++ holdBytes x)
    rw [List.append_assoc, List.length_append, show (holdBytes x).length = 15 from rfl] at rest
    rw [List.flatMap_cons, List.length_cons, readHolds, List.drop_left, readHold_bytes (wf x List.mem_cons_self), rest]

/-- Site statuses that follow one another are read one by one. -/
theorem readSites_bytes (xs : List SiteStatus) (pre r : List Byte) :
    readSites (pre ++ xs.flatMap (fun st => be1 (siteStatusCode st)) ++ r) pre.length xs.length = some xs := by
  induction xs generalizing pre with
  | nil => rfl
  | cons x xs ih =>
    have rest := ih (pre ++ be1 (siteStatusCode x))
    have here := field_behind pre (be1 (siteStatusCode x) ++ xs.flatMap (fun st => be1 (siteStatusCode st)) ++ r) 0 1
    rw [List.length_append, show (be1 (siteStatusCode x)).length = 1 from rfl] at rest
    simp only [List.append_assoc, field_here, Nat.add_zero] at here rest
    simp only [List.flatMap_cons, List.length_cons, readSites, List.append_assoc, here, siteStatusOf_code, rest]

/-- A byte for each of some numbers, read back at its place. -/
theorem field_flatMap_be1 (pre r : List Byte) (xs : List Nat) (i : Nat) (low : i < xs.length) :
    field (pre ++ xs.flatMap be1 ++ r) (pre.length + i) 1 = xs[i] % 256 := by
  rw [List.append_assoc, field_behind]
  induction xs generalizing i with
  | nil => exact absurd low (Nat.not_lt_zero i)
  | cons x xs ih =>
    rw [List.flatMap_cons, List.append_assoc]
    cases i with
    | zero => simp only [field_here, List.getElem_cons_zero]
    | succ i => simpa only [field_after, List.getElem_cons_succ] using ih i (Nat.lt_of_succ_lt_succ low)

/-! ## Payloads -/

theorem readFit_bytes {f : HandlerFit} (wf : f.wf = true) (r : List Byte) : readFit (fitBytes f ++ r) 0 = f := by
  simp only [HandlerFit.wf, Bool.and_eq_true, fits1_iff] at wf
  obtain ⟨⟨⟨kit, low⟩, high⟩, sites⟩ := wf
  simp only [readFit, fitBytes, fieldTemp, beTemp, List.append_assoc, field_here, field_after, Nat.zero_add,
    temp_of_be low, temp_of_be high, Nat.mod_eq_of_lt, kit, sites]

theorem readFit_behind {f : HandlerFit} (wf : f.wf = true) (n : Nat) (r : List Byte) :
    readFit (be1 n ++ (fitBytes f ++ r)) 1 = f := by
  have shift : readFit (be1 n ++ (fitBytes f ++ r)) 1 = readFit (fitBytes f ++ r) 0 := by
    simp only [readFit, fieldTemp, field_after, Nat.zero_add]
  rw [shift, readFit_bytes wf]

theorem readBlock_bytes {b : BeaconBody} (wf : b.block.wf = true) :
    readBlock (payloadBytes (.beacon b)) = some b.block := by
  obtain ⟨state, zones, count, digest, block⟩ := b
  cases block with
  | cell b r l =>
    simp only [BeaconBlock.wf, Bool.and_eq_true, fits1_iff] at wf
    obtain ⟨⟨bound, reserved⟩, load⟩ := wf
    simp only [readBlock, payloadBytes, blockBytes, blockRole, beMask, List.append_assoc, field_here, field_after,
      field_last, roleOf_code, Nat.mod_eq_of_lt, bound, reserved, load]
    rfl
  | handler st c k lo hi n m =>
    simp only [BeaconBlock.wf, Bool.and_eq_true, fits1_iff] at wf
    obtain ⟨⟨⟨⟨cell, kit⟩, low⟩, high⟩, sites⟩ := wf
    simp only [readBlock, payloadBytes, blockBytes, blockRole, beMask, beTemp, fieldTemp, fieldSites,
      List.append_assoc, field_here, field_after, field_last, roleOf_code, relStateOf_code, temp_of_be low,
      temp_of_be high, sites_of_be, Nat.mod_eq_of_lt, cell, kit, sites]
    rfl
  | stage w z =>
    simp only [BeaconBlock.wf, Bool.and_eq_true, fits1_iff] at wf
    obtain ⟨waiting, zone⟩ := wf
    simp only [readBlock, payloadBytes, blockBytes, blockRole, beMask, List.append_assoc, field_here, field_after,
      field_last, roleOf_code, Nat.mod_eq_of_lt, waiting, zone]
    rfl
  | pack n =>
    simp only [BeaconBlock.wf, fits1_iff] at wf
    simp only [readBlock, payloadBytes, blockBytes, blockRole, beMask, List.append_assoc, field_here, field_after,
      field_last, roleOf_code, Nat.mod_eq_of_lt, wf]
    rfl

theorem readBeacon_bytes {b : BeaconBody} (wf : b.wf = true) :
    readBeacon (payloadBytes (.beacon b)) = some (.beacon b) := by
  simp only [BeaconBody.wf, Bool.and_eq_true, fits1_iff, fits2_iff] at wf
  obtain ⟨⟨count, digest⟩, block⟩ := wf
  rw [readBeacon, readBlock_bytes block]
  simp only [payloadBytes, beMask, fieldMask, List.append_assoc, field_here, field_after, stationStateOf_code,
    mask_of_be, Nat.mod_eq_of_lt, count, digest]

theorem readStatusBody_bytes {b : StatusBody} (wf : b.wf = true) :
    readStatusBody (payloadBytes (.handlerStatus b)) = some (.handlerStatus b) := by
  simp only [StatusBody.wf, Bool.and_eq_true, beq_iff_eq, fits1_iff] at wf
  obtain ⟨⟨reached, sites⟩, jams⟩ := wf
  let pre := be1 (statusFlags b) ++ be1 (soakStateCode b.soak) ++ beTemp b.reached ++ be1 b.mask.toNat
  let codes := b.sites.flatMap fun st => be1 (siteStatusCode st)
  have whole : payloadBytes (.handlerStatus b) = pre ++ codes ++ be1 b.jamCount := rfl
  have read := readSites_bytes b.sites pre (be1 b.jamCount)
  have codes_length : codes.length = 8 := (Laws.F.length_pieces _ 1 (fun _ => rfl) b.sites).trans (by omega)
  have count := field_behind (pre ++ codes) (be1 b.jamCount) 0 1
  rw [List.length_append, codes_length] at count
  rw [readStatusBody, whole, show 8 = b.sites.length from sites.symm, show 5 = pre.length from rfl, read,
    show 13 = pre.length + 8 + 0 from rfl, count]
  simp only [pre, beTemp, fieldTemp, fieldSites, List.append_assoc, field_here, field_after, field_last,
    soakStateOf_code, statusFlags_of_be, temp_of_be reached, sites_of_be, Nat.mod_eq_of_lt, jams]

theorem readPermit_bytes {p : Permit} (wf : p.wf = true) : readPermit (payloadBytes (.permit p)) = some (.permit p) := by
  simp only [Permit.wf, Bool.and_eq_true, fits1_iff, fits4_iff] at wf
  obtain ⟨⟨⟨lotId, index⟩, kit⟩, temp⟩ := wf
  have run : flagCode p.run % 256 ≤ 1 ∧ (flagCode p.run % 256 == 1) = p.run := by cases p.run <;> decide
  have last : (be2 (p.temp % 65536).toNat) = be2 (p.temp % 65536).toNat ++ [] := (List.append_nil _).symm
  simp only [readPermit, payloadBytes, beTemp, fieldTemp, List.append_assoc, field_here, field_after, field_last,
    temp_of_be temp, run, if_true, Nat.mod_eq_of_lt, lotId, index, kit]

/-- A payload of the layouts reads back from its bytes. -/
theorem readKnown_bytes {p : Payload} (wf : p.wf = true) (typed : ∀ k bs, p ≠ .raw k bs) :
    readKnown (kindCode p) (payloadBytes p) = some p := by
  cases p with
  | beacon b => exact readBeacon_bytes wf
  | handlerStatus b => exact readStatusBody_bytes wf
  | permit q => exact readPermit_bytes wf
  | offer l =>
    have read := readLot_bytes wf []
    rw [List.append_nil] at read
    exact congrArg (fun l => some (Payload.offer l)) read
  | lotDone c =>
    have read := readCompletion_bytes wf []
    rw [List.append_nil] at read
    exact congrArg (Option.map Payload.lotDone) read
  | release x =>
    have read := readRelease_bytes wf []
    rw [List.append_nil] at read
    exact congrArg (fun x => some (Payload.release x)) read
  | hold x =>
    have read := readHold_bytes wf []
    rw [List.append_nil] at read
    exact congrArg (Option.map Payload.hold) read
  | raw k bs => exact absurd rfl (typed k bs)
  | holdList total start count xs =>
    simp only [Payload.wf, Bool.and_eq_true, fits1_iff, List.all_eq_true] at wf
    obtain ⟨⟨⟨⟨⟨total_fits, start_fits⟩, count_fits⟩, -⟩, -⟩, records⟩ := wf
    have read := readHolds_bytes records (be1 total ++ be1 start ++ be1 count)
    have length : (xs.flatMap holdBytes).length = 15 * xs.length := Laws.F.length_pieces _ 15 (fun _ => rfl) xs
    have number : ((be1 total ++ be1 start ++ be1 count ++ xs.flatMap holdBytes).length - 3) / 15 = xs.length := by
      simp only [List.length_append, length, be1, List.length_singleton]
      omega
    rw [show (be1 total ++ be1 start ++ be1 count).length = 3 from rfl] at read
    simp only [kindCode, readKnown, payloadBytes, number, read, Option.map_some]
    simp only [List.append_assoc, field_here, field_after, Nat.mod_eq_of_lt, total_fits, start_fits, count_fits]
  | handlerAvailable f m =>
    simp only [Payload.wf, Bool.and_eq_true, fits2_iff] at wf
    obtain ⟨fit, minutes⟩ := wf
    have length : (fitBytes f).length = 6 := rfl
    have behind := field_behind (fitBytes f) (be2 m) 0 2
    rw [length] at behind
    simp only [kindCode, readKnown, payloadBytes, readFit_bytes fit, behind, field_last, Nat.mod_eq_of_lt, minutes]
  | bindReply r f m =>
    have behind := field_behind (be1 (bindResultCode r) ++ fitBytes f) (be1 m.toNat) 0 1
    rw [show (be1 (bindResultCode r) ++ fitBytes f).length = 7 from rfl] at behind
    simp only [Nat.add_zero] at behind
    simp only [kindCode, readKnown, payloadBytes, fieldSites, behind]
    simp only [List.append_assoc, field_here, field_last, readFit_behind wf, bindResultOf_code, sites_of_be,
      Option.map_some]
  | _ =>
    simp only [Payload.wf, fitsLot, Bool.and_eq_true, fits1_iff, fits2_iff, fits4_iff] at wf
    simp only [kindCode, readKnown, readClear, payloadBytes, beTemp, fieldTemp, List.append_assoc, field_here,
      field_after, field_last, scopeOf_code, dispositionOf_code, acceptAnswerOf_code, revokeReasonOf_code,
      returnReasonOf_code, reserveResultOf_code, unbindReasonOf_code, siteStatusOf_code, flag_of_be, temp_of_be,
      Option.map_some, Nat.mod_eq_of_lt, wf]

end Sys2Proof.Machine
end

section
/-! PROOFS. Frames and transactions read back: a frame from the bits it is sent in, a command from its twenty
bytes. -/
namespace Sys2Proof.Machine

variable {s : State}

/-! ## Frames -/

/-- A payload of the layouts has a length its kind allows. -/
theorem lengthAllowed_bytes {p : Payload} (wf : p.wf = true) (typed : ∀ k bs, p ≠ .raw k bs) :
    lengthAllowed (kindCode p) (payloadBytes p).length = true := by
  cases p with
  | beacon b => cases b with | mk _ _ _ _ block => cases block <;> rfl
  | holdList total start count xs =>
    simp only [Payload.wf, Bool.and_eq_true, decide_eq_true_eq] at wf
    obtain ⟨⟨⟨-, some⟩, few⟩, -⟩ := wf
    have length := Laws.F.length_pieces holdBytes 15 (fun _ => rfl) xs
    simp only [payloadBytes, be1, List.length_append, List.length_cons, List.length_nil, length]
    obtain h | h | h : xs.length = 1 ∨ xs.length = 2 ∨ xs.length = 3 := by omega
    all_goals rw [h]; rfl
  | handlerStatus b =>
    simp only [Payload.wf, StatusBody.wf, Bool.and_eq_true, beq_iff_eq] at wf
    obtain ⟨⟨-, sites⟩, -⟩ := wf
    have length := Laws.F.length_pieces (fun st => be1 (siteStatusCode st)) 1 (fun _ => rfl) b.sites
    simp only [payloadBytes, be1, beTemp, be2, List.length_append, List.length_cons, List.length_nil] at length ⊢
    rw [length, sites]
    rfl
  | raw k bs => exact absurd rfl (typed k bs)
  | _ => rfl

theorem readPayload_bytes {p : Payload} (wf : p.wf = true) (typed : ∀ k bs, p ≠ .raw k bs) :
    readPayload (kindCode p) (payloadBytes p) = p := by
  rw [readPayload, if_pos (lengthAllowed_bytes wf typed), readKnown_bytes wf typed, Option.getD_some]

/-- No payload is longer than 48 bytes. -/
theorem le_of_lengthAllowed {kind len : Nat} (h : lengthAllowed kind len = true) : len ≤ 48 := by
  unfold lengthAllowed at h
  split at h
  all_goals simp only [Bool.or_eq_true, beq_iff_eq, Bool.false_eq_true] at h
  all_goals omega

theorem kindCode_lt {p : Payload} (wf : p.wf = true) : kindCode p < 256 := by
  cases p with
  | raw k bs =>
    simp only [Payload.wf, Bool.and_eq_true, fits1_iff] at wf
    exact wf.1
  | _ => exact Nat.le_of_ble_eq_true rfl

theorem addrTypeOf_code {t : AddrType} {v : Nat} (fits : v < 64) :
    addrTypeOf ((addrTypeCode t * 64 + v % 64) % 256 / 64) = t ∧ (addrTypeCode t * 64 + v % 64) % 256 % 64 = v := by
  have code : addrTypeCode t < 4 := by cases t <;> decide
  have read : addrTypeOf (addrTypeCode t) = t := by cases t <;> rfl
  have quotient : (addrTypeCode t * 64 + v % 64) % 256 / 64 = addrTypeCode t := by omega
  rw [quotient, read]
  exact ⟨rfl, by omega⟩

theorem fresh_of_be (b : Bool) : (flagCode b * 128 % 256).testBit 7 = b := by cases b <;> decide

section
variable {h : Header} {p : Payload}

/-- The whole frame as numbers and payload, its start byte too. -/
theorem frameBytes_eq (h : Header) (p : Payload) : frameBytes h p = be1 0xA5 ++ (be1 (kindCode p) ++
    (be1 (addrTypeCode h.addr.type * 64 + h.addr.value % 64) ++ (be1 h.source ++ (be1 (flagCode h.fresh * 128) ++
      (be1 (payloadBytes p).length ++ (payloadBytes p ++ be2 (crc16 (frameBody h p)).toNat)))))) := by
  simp only [frameBytes, frameBody, List.append_assoc]
  rfl

theorem field_length (fits : (payloadBytes p).length < 256) :
    field (frameBytes h p) 5 1 = (payloadBytes p).length := by
  rw [frameBytes_eq]
  simp only [field_after, field_here, Nat.mod_eq_of_lt fits]

theorem length_frameBytes (h : Header) (p : Payload) : (frameBytes h p).length = 6 + (payloadBytes p).length + 2 := by
  rw [frameBytes_eq]
  simp only [List.length_append, be1, be2, List.length_cons, List.length_nil]
  omega

theorem framingOk_frameBytes (fits : (payloadBytes p).length ≤ 48) :
    framingOk { bytes := frameBytes h p, stopFault := false } = true := by
  have len := field_length (h := h) (Nat.lt_of_le_of_lt fits (by decide))
  simp only [framingOk, len, length_frameBytes, fits, Bool.not_false, Bool.true_and, Bool.and_eq_true,
    decide_eq_true_eq, beq_self_eq_true, and_true]
  exact ⟨by omega, rfl⟩

theorem length_frameBody (h : Header) (p : Payload) : (frameBody h p).length = 5 + (payloadBytes p).length := by
  simp only [frameBody, List.length_append, be1, List.length_cons, List.length_nil]

theorem checkOk_frameBytes (fits : (payloadBytes p).length < 256) : checkOk (frameBytes h p) = true := by
  have body : receivedBody (frameBytes h p) = frameBody h p := by
    rw [receivedBody, field_length fits, ← length_frameBody h p]
    exact List.take_left
  have check := field_behind (startByte :: frameBody h p) (be2 (crc16 (frameBody h p)).toNat) 0 2
  rw [show (startByte :: frameBody h p).length + 0 = 6 + (payloadBytes p).length by
    rw [List.length_cons, length_frameBody]; omega] at check
  rw [checkOk, body, field_length fits, beq_iff_eq]
  refine (Eq.trans check ?_).symm
  rw [(field_last _).2.1, Nat.mod_eq_of_lt (crc16 (frameBody h p)).isLt]

theorem readHeader_frameBytes (wf : h.wf = true) : readHeader (frameBytes h p) = h := by
  simp only [Header.wf, Bool.and_eq_true, decide_eq_true_eq, fits1_iff] at wf
  obtain ⟨value, source⟩ := wf
  rw [frameBytes_eq]
  simp only [readHeader, field_after, field_here, addrTypeOf_code value, fresh_of_be, Nat.mod_eq_of_lt source]

theorem readFramePayload_frameBytes (wf : p.wf = true) (typed : ∀ k bs, p ≠ .raw k bs) :
    readFramePayload (frameBytes h p) = p := by
  have fits := le_of_lengthAllowed (lengthAllowed_bytes wf typed)
  have kind : field (frameBytes h p) 1 1 = kindCode p := by
    rw [frameBytes_eq]
    simp only [field_after, field_here, Nat.mod_eq_of_lt (kindCode_lt wf)]
  have payload : (frameBytes h p).drop 6 = payloadBytes p ++ be2 (crc16 (frameBody h p)).toNat := by
    rw [frameBytes_eq]
    rfl
  rw [readFramePayload, kind, payload, field_length (Nat.lt_of_le_of_lt fits (by decide)), List.take_left,
    readPayload_bytes wf typed]

end

/-- Settles O18: the bytes are collected as they were sent, pass the checks, and read back field by field. -/
theorem framesReadBack : Obligations.FramesReadBack := by
  intro h p s hwf pwf typed
  have fits := le_of_lengthAllowed (lengthAllowed_bytes pwf typed)
  have body : receiveBytes (received { levels := lineLevels (frameBytes h p) }) = receiveFrame h p := by
    funext v
    rw [received_lineLevels]
    simp only [receiveBytes, framingOk_frameBytes fits, checkOk_frameBytes (Nat.lt_of_le_of_lt fits (by decide)),
      readHeader_frameBytes hwf, readFramePayload_frameBytes pwf typed]
    unfold receiveFrame
    cases receiving v <;> rfl
  exact congrArg (fun f => Host.Outcome.next (event f s)) body

/-! ## Transactions -/

theorem length_commandFields_le {c : PortCommand} (wf : c.wf = true) : (commandFields c).length ≤ 18 := by
  cases c with
  | binReport m bins =>
    simp only [PortCommand.wf, Bool.and_eq_true, beq_iff_eq] at wf
    obtain ⟨eight, -⟩ := wf
    have length := Laws.F.length_pieces be1 1 (fun _ => rfl) bins
    simp only [commandFields, List.length_append, length, eight, be1, List.length_singleton]
    decide
  | limitSetB product pairs jamLimit =>
    simp only [PortCommand.wf, Bool.and_eq_true, beq_iff_eq] at wf
    obtain ⟨⟨⟨-, four⟩, -⟩, -⟩ := wf
    have length := Laws.F.length_pieces (fun x : Nat × Nat => be1 x.1 ++ be2 x.2) 3 (fun _ => rfl) pairs
    rw [commandFields, List.length_append, List.length_append, length, four]
    exact Nat.le_of_ble_eq_true rfl
  | _ => exact Nat.le_of_ble_eq_true rfl

/-- A command reads back from its code and its fields, whatever follows them. -/
theorem readCommand_fields {c : PortCommand} (wf : c.wf = true) (r : List Byte) :
    readCommand (commandCode c) (commandFields c ++ r) = some c := by
  cases c with
  | lotArrived l => exact congrArg (fun l => some (PortCommand.lotArrived l)) (readLot_bytes wf r)
  | binReport m bins =>
    simp only [PortCommand.wf, Bool.and_eq_true, beq_iff_eq, List.all_eq_true, fits1_iff] at wf
    obtain ⟨eight, fits⟩ := wf
    have read : (List.range 8).map (fun i => field (be1 m.toNat ++ bins.flatMap be1 ++ r) (i + 1) 1) = bins := by
      refine List.ext_getElem (by simp [eight]) fun i low _ => ?_
      have here := field_flatMap_be1 (be1 m.toNat) r bins i (by simpa [eight] using low)
      rw [Nat.add_comm] at here
      rw [List.getElem_map, List.getElem_range]
      exact here.trans (Nat.mod_eq_of_lt (fits _ (List.getElem_mem _)))
    simp only [readCommand, commandCode, commandFields, read]
    simp only [fieldSites, List.append_assoc, field_here, sites_of_be]
  | limitSetB product pairs jamLimit =>
    simp only [PortCommand.wf, Bool.and_eq_true, beq_iff_eq, List.all_eq_true, fits1_iff, fits2_iff] at wf
    obtain ⟨⟨⟨product_fits, four⟩, fits⟩, jam⟩ := wf
    obtain ⟨a, b, c, d, rfl⟩ : ∃ a b c d, pairs = [a, b, c, d] := by
      match pairs, four with
      | [a, b, c, d], _ => exact ⟨a, b, c, d, rfl⟩
    simp only [List.mem_cons, List.not_mem_nil, or_false, forall_eq_or_imp, forall_eq] at fits
    simp only [readCommand, readPairs, commandCode, commandFields, List.flatMap_cons, List.flatMap_nil,
      List.append_nil, List.append_assoc, field_here, field_after, Nat.mod_eq_of_lt, product_fits, jam, fits]
  | _ =>
    simp only [PortCommand.wf, LimitPartA.wf, fitsLot, Bool.and_eq_true, fits1_iff, fits2_iff, fits4_iff] at wf
    simp only [readCommand, withScope, readPartA, commandCode, commandFields, beKey, beLot, beTemp, beMask, fieldTemp,
      fieldMask, fieldSites, List.append_assoc, field_here, field_after, Nat.zero_add, scopeOf_code, dispositionOf_code,
      mask_of_be, sites_of_be, temp_of_be, Option.map_some, Nat.mod_eq_of_lt, wf]

theorem commandCode_lt (c : PortCommand) : commandCode c < 256 := by
  cases c <;> exact Nat.le_of_ble_eq_true rfl

theorem length_padTo (n : Nat) (bs : List Byte) : (padTo n bs).length = n := by
  simp only [padTo, List.length_append, List.length_take, List.length_replicate]
  omega

section
variable {c : PortCommand}

theorem echoOf_commandBytes (e : Nat) : echoOf { bytes := commandBytes c, extraEdges := e } = commandCode c := by
  simp only [echoOf, commandBytes, List.append_assoc, field_here, Nat.mod_eq_of_lt (commandCode_lt c)]

theorem length_commandHead : (be1 (commandCode c) ++ padTo 18 (commandFields c)).length = 19 := by
  rw [List.length_append, length_padTo]
  rfl

theorem edgesOf_commandBytes : edgesOf { bytes := commandBytes c, extraEdges := 0 } = 160 := by
  simp only [edgesOf, commandBytes, List.length_append, length_padTo]
  rfl

theorem crc_commandBytes : crc8 ((commandBytes c).take 19) = (commandBytes c).getD 19 0 := by
  have length := length_commandHead (c := c)
  simp only [commandBytes]
  rw [List.take_left' length, List.getD_eq_getElem?_getD, List.getElem?_append_right length.le, length]
  rfl

theorem readCommand_commandBytes (wf : c.wf = true) :
    readCommand (commandCode c) ((commandBytes c).drop 1) = some c := by
  have padded : padTo 18 (commandFields c) = commandFields c ++ List.replicate (18 - (commandFields c).length) 0 := by
    rw [padTo, List.take_of_length_le (length_commandFields_le wf)]
  have bytes : (commandBytes c).drop 1 = padTo 18 (commandFields c) ++
      [crc8 (be1 (commandCode c) ++ padTo 18 (commandFields c))] := rfl
  rw [bytes, padded, List.append_assoc]
  exact readCommand_fields wf _

end

/-- Settles O19: the twenty bytes pass the LENGTH and CHECK checks and read back field by field. -/
theorem transactionsReadBack : Obligations.TransactionsReadBack := by
  intro c s wf
  have body : transactBytes { bytes := commandBytes c, extraEdges := 0 } = transact c := by
    funext v
    rw [transactBytes, edgesOf_commandBytes, echoOf_commandBytes, readCommand_commandBytes wf, transact]
    simp only [crc_commandBytes, ne_eq, not_true_eq_false, if_false]
    unfold transact
    split_ifs <;> rfl
  exact congrArg (fun f => Host.Outcome.next (event f s)) body

end Sys2Proof.Machine
end

section
/-! PROOFS. The line: access and sending (R8 to R13). -/
namespace Sys2Proof.Machine

variable {s t : State}

/-- An event out of reset. -/
theorem event_of_running {body : State → State} (running : s.pins.inReset = false) :
    event body s = settle s (body s) := by simp [event, running]

/-- An event out of reset, when its body is known. -/
theorem next_event {body : State → State} (running : s.pins.inReset = false) (is : body s = t) :
    (Host.Outcome.next (event body s) : Host.Outcome State Fault Refusal) = .next (settle s t) := by
  rw [event_of_running running, is]

/-- Settles O20. -/
theorem lineAccessAndSending : Obligations.LineAccessAndSending := by
  intro s running
  have ran {body : State → State} {t : State} (is : body s = t) := next_event running is
  refine ⟨fun joining => ran ?_, fun l p counting => ran ?_, fun l f q waiting counting queue => ran ?_,
    fun f q sending queue off => ran ?_, fun f q sending queue => ran ?_, fun sending => ran ?_,
    fun disturbing few => ran ?_, fun disturbing many => ran ?_, fun l backoff counting => ran ?_⟩
  · rw [joinLine, if_pos joining]
  · rw [carrier, counting]
    rfl
  · rw [beginAttempt, waiting, counting, queue]
    rfl
  · have same : endClean s = offerWatches f.payload (s.setLink { s.link with
        last := s.start.number, queue := q, tx := if q.isEmpty then .empty else .waiting,
        attempts := 0, line := .counting s.start.number, onWire := [] }) := by
      rw [endClean, sending, queue]
      rfl
    rw [same]
    exact offerWatches_of_disarmed _ _ off
  · rw [endClean, sending, queue]
    rfl
  · rw [collide, if_pos sending]
  · rw [endDisturbance, if_pos disturbing]
    exact if_neg (by omega)
  · rw [endDisturbance, if_pos disturbing]
    exact if_pos (by omega)
  · rw [roundOver, backoff, counting]
    rfl

end Sys2Proof.Machine
end

section
/-! PROOFS. What the receiver collects, and the checks of a transmission (R1, R14). -/
namespace Sys2Proof.Machine

variable {s t : State}

/-! ## What the receiver collects (R1) -/

/-- Fewer than ten recessive bit times end nothing. -/
theorem untilSilence_append {ls : List Level} {run : Nat} (short : run + ls.length ≤ 9) (rest : List Level) :
    ∃ k ≤ 9, untilSilence run (ls ++ rest) = ls ++ untilSilence k rest := by
  induction ls generalizing run with
  | nil => exact ⟨run, short, rfl⟩
  | cons l ls ih =>
    simp only [List.length_cons] at short
    cases l with
    | dominant =>
      obtain ⟨k, nine, same⟩ := ih (run := 0) (by omega)
      exact ⟨k, nine, by rw [List.cons_append, untilSilence, same, List.cons_append]⟩
    | recessive =>
      obtain ⟨k, nine, same⟩ := ih (run := run + 1) (by omega)
      exact ⟨k, nine, by rw [List.cons_append, untilSilence, if_neg (by omega), same, List.cons_append]⟩

/-- A byte's levels: its start bit, and nine more. -/
theorem byteLevels_eq (b : Byte) :
    ∃ eight, eight.length = 8 ∧ byteLevels b = .dominant :: (eight ++ [.recessive]) := ⟨_, rfl, rfl⟩

theorem untilSilence_bytes (bs : List Byte) (run : Nat) (nine : run ≤ 9) (rest : List Level) :
    ∃ k ≤ 9, untilSilence run (lineLevels bs ++ rest) = lineLevels bs ++ untilSilence k rest := by
  induction bs generalizing run with
  | nil => exact ⟨run, nine, rfl⟩
  | cons b bs ih =>
    obtain ⟨eight, length, levels⟩ := byteLevels_eq b
    obtain ⟨k, k9, first⟩ := untilSilence_append (ls := eight ++ [.recessive]) (run := 0)
      (by simp [length]) (lineLevels bs ++ rest)
    obtain ⟨m, m9, others⟩ := ih k k9
    refine ⟨m, m9, ?_⟩
    rw [show lineLevels (b :: bs) = byteLevels b ++ lineLevels bs from rfl, levels]
    simp only [List.append_assoc, List.cons_append] at *
    rw [untilSilence, first, others]

theorem collect_bytes (bs : List Byte) (rest : List Level) : collect none (lineLevels bs ++ rest) =
    { collect none rest with bytes := bs ++ (collect none rest).bytes } := by
  induction bs with
  | nil => rfl
  | cons b bs ih =>
    rw [show lineLevels (b :: bs) = byteLevels b ++ lineLevels bs from rfl, List.append_assoc, collect_byteLevels, ih]
    rfl

theorem collect_some {ls : List Level} {bits : List Bool} (eight : bits.length + ls.length ≤ 8) (rest : List Level) :
    collect (some bits) (ls ++ rest) = collect (some (bits ++ ls.map bitOfLevel)) rest := by
  induction ls generalizing bits with
  | nil => simp
  | cons l ls ih =>
    simp only [List.length_cons] at eight
    rw [List.cons_append, collect.eq_def]
    simp only
    rw [if_pos (by omega), ih (by simp only [List.length_append, List.length_singleton]; omega)]
    simp

theorem received_of_stopFault (bs : List Byte) (b : Byte) (rest : List Level) :
    received { levels := lineLevels bs ++ (byteLevels b).take 9 ++ .dominant :: rest } =
      { bytes := bs, stopFault := true } := by
  obtain ⟨eight, length, levels⟩ := byteLevels_eq b
  have nine : (byteLevels b).take 9 = .dominant :: eight := by
    rw [levels, List.take_succ_cons, List.take_left' length]
  obtain ⟨k, -, before⟩ := untilSilence_bytes bs 0 (Nat.zero_le _) (.dominant :: (eight ++ .dominant :: rest))
  obtain ⟨m, -, within⟩ := untilSilence_append (ls := eight) (run := 0) (by omega) (.dominant :: rest)
  have fault : collect none (.dominant :: (eight ++ .dominant :: untilSilence 0 rest)) =
      { bytes := [], stopFault := true } := by
    rw [collect, collect_some (by simp [length]), collect, if_neg (by simp [length])]
  rw [received, nine, List.append_assoc, List.cons_append, before, untilSilence, within, untilSilence, collect_bytes,
    fault, List.append_nil]

/-- Recessive bit times up to the tenth, and nothing after. -/
theorem untilSilence_replicate {k m : Nat} (nine : k ≤ 9) (many : 9 - k < m) (rest : List Level) :
    untilSilence k (List.replicate m .recessive ++ rest) = List.replicate (9 - k) .recessive := by
  induction m generalizing k with
  | zero => omega
  | succ m ih =>
    rw [List.replicate_succ, List.cons_append, untilSilence]
    split
    · next last => simp [last]
    · next more =>
      rw [ih (by omega) (by omega), ← List.replicate_succ]
      congr 1
      omega

theorem collect_replicate (m : Nat) : collect none (List.replicate m .recessive) = { bytes := [], stopFault := false } := by
  induction m with
  | zero => rfl
  | succ m ih => rw [List.replicate_succ, collect, ih]

theorem received_of_silence (bs : List Byte) (rest : List Level) :
    received { levels := lineLevels bs ++ List.replicate 10 .recessive ++ rest } =
      { bytes := bs, stopFault := false } := by
  obtain ⟨k, nine, before⟩ := untilSilence_bytes bs 0 (Nat.zero_le _) (List.replicate 10 .recessive ++ rest)
  rw [received, List.append_assoc, before, untilSilence_replicate nine (by omega), collect_bytes, collect_replicate,
    List.append_nil]

/-! ## The checks of a transmission (R14) -/

theorem field_one (bs : List Byte) (i : Nat) : field bs i 1 = (bs.getD i 0#8).toNat := by
  rw [field, List.getD_eq_getElem?_getD]
  cases h : bs[i]? with
  | none =>
    rw [List.drop_eq_nil_of_le (List.getElem?_eq_none_iff.1 h)]
    rfl
  | some b =>
    obtain ⟨low, rfl⟩ := List.getElem?_eq_some_iff.1 h
    rw [List.drop_eq_getElem_cons low, List.take_succ_cons, List.take_zero]
    simp [num]

theorem field_two {bs : List Byte} {i : Nat} (low : i + 1 < bs.length) :
    field bs i 2 = 256 * (bs.getD i 0#8).toNat + (bs.getD (i + 1) 0#8).toNat := by
  have first : i < bs.length := by omega
  rw [field, List.drop_eq_getElem_cons first, List.drop_eq_getElem_cons low, List.take_succ_cons, List.take_succ_cons,
    List.take_zero]
  simp [num, first, low, Nat.mul_comm]

theorem kindCode_readKnown {k : Nat} {bs : List Byte} {p : Payload} (read : readKnown k bs = some p) : kindCode p = k := by
  unfold readKnown at read
  split at read <;> simp only [Option.map_eq_some_iff, Option.some.injEq, readBeacon, readClear, readPermit,
    readStatusBody, reduceCtorEq] at read
  all_goals
    first
    | (obtain ⟨a, -, rfl⟩ := read; rfl)
    | (split at read <;> cases read; rfl)

theorem kindCode_readPayload (k : Nat) (bs : List Byte) : kindCode (readPayload k bs) = k := by
  unfold readPayload
  split
  · cases read : readKnown k bs with
    | none => rfl
    | some p => exact kindCode_readKnown read
  · rfl

theorem crc16_eq (bs : List Byte) : crc16 bs = (bs.flatMap byteBits).foldl crc16Bit 0#16 := by
  rw [crc16, List.foldl_flatMap]

theorem framingOk_iff (rx : Reception) : framingOk rx = true ↔ rx.stopFault = false ∧ 6 ≤ rx.bytes.length ∧
    (rx.bytes.getD 0 0#8).toNat = 0xA5 ∧ (rx.bytes.getD 5 0#8).toNat ≤ 48 ∧
    rx.bytes.length = 6 + (rx.bytes.getD 5 0#8).toNat + 2 := by
  have start : rx.bytes.headD 0 = startByte ↔ (rx.bytes.getD 0 0#8).toNat = 0xA5 := by
    rw [List.headD_eq_head?_getD, List.head?_eq_getElem?, ← List.getD_eq_getElem?_getD, startByte]
    exact BitVec.toNat_inj.symm
  simp only [framingOk, field_one, Bool.and_eq_true, Bool.not_eq_true', decide_eq_true_eq, beq_iff_eq, start, and_assoc]

theorem checkOk_iff {rx : Reception} (framing : framingOk rx = true) : checkOk rx.bytes = true ↔
    (crc16 ((rx.bytes.drop 1).take (5 + (rx.bytes.getD 5 0#8).toNat))).toNat =
      256 * (rx.bytes.getD (6 + (rx.bytes.getD 5 0#8).toNat) 0#8).toNat +
        (rx.bytes.getD (7 + (rx.bytes.getD 5 0#8).toNat) 0#8).toNat := by
  obtain ⟨-, -, -, -, length⟩ := (framingOk_iff rx).1 framing
  rw [checkOk, receivedBody, field_one, field_two (by omega), beq_iff_eq, Nat.add_right_comm 6]

theorem addrTypeOf_div (n : Nat) : addrTypeOf (n / 64) =
    if n < 64 then .toStation else if n < 128 then .toAll else if n < 192 then .toZone else .type3 := by
  rcases Nat.lt_or_ge n 64 with low | low
  · rw [if_pos low, Nat.div_eq_of_lt low, addrTypeOf]
  rw [if_neg (by omega)]
  rcases Nat.lt_or_ge n 128 with one | one
  · rw [if_pos one, show n / 64 = 1 by omega, addrTypeOf]
  rw [if_neg (by omega)]
  rcases Nat.lt_or_ge n 192 with two | two
  · rw [if_pos two, show n / 64 = 2 by omega, addrTypeOf]
  obtain ⟨m, more⟩ : ∃ m, n / 64 = m + 3 := ⟨n / 64 - 3, by omega⟩
  rw [if_neg (by omega), more, addrTypeOf] <;> omega

theorem testBit_seven (b : Byte) : b.toNat.testBit 7 = true ↔ 128 ≤ b.toNat := by
  rw [Nat.testBit_eq_decide_div_mod_eq, decide_eq_true_iff]
  omega

/-- A transmission taken while the station receives. -/
theorem exec_transmissionEnd {line : Transmission} (running : s.pins.inReset = false)
    (is : receiveBytes (received line) s = t) : exec (.transmissionEnd line) s = .next (settle s t) :=
  next_event running is

/-- Settles O21. -/
theorem transmissionsAreChecked : Obligations.TransmissionsAreChecked := by
  refine ⟨received_lineLevels, received_of_stopFault, received_of_silence, fun line s joining => ?_, crc16_eq,
    fun rx => ⟨framingOk_iff rx, checkOk_iff, fun _ => ⟨?_, ?_, ?_, ?_, ?_⟩⟩, fun h p => ?_,
    fun line s running receives => ?_⟩
  · have deaf : receiveBytes (received line) s = s := by simp [receiveBytes, receiving, joining]
    change Host.Outcome.next (event _ s) = _
    rw [event, deaf]
  · rw [readFramePayload, kindCode_readPayload, field_one]
  · simp only [readHeader, field_one, addrTypeOf_div]
  · simp only [readHeader, field_one]
  · simp only [readHeader, field_one]
  · simp only [readHeader, field_one, testBit_seven]
  · intro named allowed
    have isNamed : (match h.addr.type with
        | .toStation => within 1 40 h.addr.value
        | .toAll => true
        | .toZone => h.addr.value ≤ 15
        | .type3 => false : Bool) = true ↔ named := by
      cases type : h.addr.type <;> simp [named, type, within_iff]
    have isAllowed : (!kindKnown (kindCode p) || addrAllowed (kindCode p) h.addr.type) = true ↔ allowed := by
      simp only [allowed]
      generalize kindCode p = k
      rcases Nat.lt_or_ge k 27 with known | unknown
      · interval_cases k <;> simp [kindKnown, addrAllowed]
      · obtain ⟨m, rfl⟩ := Nat.exists_eq_add_of_le' unknown
        exact iff_of_true (by simp [kindKnown]) trivial
    rw [addressOk, Bool.and_eq_true, Bool.and_eq_true]
    exact (and_congr (and_congr isNamed within_iff) isAllowed).trans and_assoc
  · intro rx count frame latch
    have taken : receiveBytes rx s = if !framingOk rx then latchFraming (unqualified s)
        else if !checkOk rx.bytes then latchCheck (unqualified s) else frame := by
      rw [receiveBytes, receives]
      rfl
    refine ⟨fun bad => exec_transmissionEnd running ?_, fun good bad => exec_transmissionEnd running ?_,
      fun good right bad => exec_transmissionEnd running ?_, fun good right => exec_transmissionEnd running ?_⟩
    · rw [taken, bad]
      rfl
    · rw [taken, good, bad]
      rfl
    · rw [taken, good, right]
      simp only [frame, receiveFrame, receives, bad]
      rfl
    · rw [taken, good, right]
      rfl

end Sys2Proof.Machine
end

section
/-! PROOFS. The hand-on of a qualified frame (R4 to R6, R15): for whom it is, its kind, its ranges. -/
namespace Sys2Proof.Machine

variable {s t : State}

/-! ## The ranges of the payloads (R15) -/

theorem tempOk_iff {u : Int} : tempOk u = true ↔ -60 ≤ u ∧ u ≤ 200 := by simp [tempOk]

theorem siteCountOk_iff {n : Nat} : siteCountOk n = true ↔ n = 1 ∨ n = 2 ∨ n = 4 ∨ n = 8 := by
  simp [siteCountOk, or_assoc]

theorem lotOk_iff {l i : Nat} : lotOk l i = true ↔ (1 ≤ l ∧ l ≤ 4294967295) ∧ 1 ≤ i ∧ i ≤ 4 := by
  simp [lotOk, within_iff]

theorem sublotOk_iff {i n : Nat} : sublotOk i n = true ↔ (1 ≤ i ∧ i ≤ 4) ∧ (1 ≤ n ∧ n ≤ 4) ∧ i ≤ n := by
  simp [sublotOk, within_iff, and_assoc]

theorem fitOk_iff {f : HandlerFit} : fitOk f = true ↔ (-60 ≤ f.tempMin ∧ f.tempMin ≤ 200) ∧
    (-60 ≤ f.tempMax ∧ f.tempMax ≤ 200) ∧ (f.sites = 1 ∨ f.sites = 2 ∨ f.sites = 4 ∨ f.sites = 8) := by
  simp only [fitOk, Bool.and_eq_true, tempOk_iff, siteCountOk_iff, and_assoc]

theorem keyOk_iff {sc : Scope} {k : Nat} : keyOk sc k = true ↔ match sc with
    | .lot => 1 ≤ k ∧ k ≤ 4294967295 | .product => 1 ≤ k ∧ k ≤ 65535 | .group => 1 ≤ k ∧ k ≤ 31
    | .program => 1 ≤ k ∧ k ≤ 65535 := by
  cases sc <;> exact within_iff

theorem holdRecOk_iff {r : HoldRec} : holdRecOk r = true ↔ keyOk r.scope r.key = true ∧
    (1 ≤ r.generation ∧ r.generation ≤ 65535) ∧ (1 ≤ r.origin ∧ r.origin ≤ 40) ∧ r.detail ≤ 16 ∧
    (r.scope = .lot → r.trigger = 0) := by
  simp only [holdRecOk, generationOk, stationOk, Bool.and_eq_true, within_iff, decide_eq_true_eq, Bool.or_eq_true,
    bne_iff_ne, beq_iff_eq, and_assoc, ← imp_iff_not_or, ne_eq]

theorem mem_siteCountOf {n top : Nat} : siteCountOf s n = some top ↔
    (s.cell.binding.state ≠ .none ∧ s.cell.binding.handler = n ∧ s.cell.binding.fit.sites ≠ 0) ∧
        top = s.cell.binding.fit.sites ∨
      ¬(s.cell.binding.state ≠ .none ∧ s.cell.binding.handler = n ∧ s.cell.binding.fit.sites ≠ 0) ∧
        ∃ b st c k lo hi m, (peerAt s.peers n).beacon = some b ∧ b.block = .handler st c k lo hi top m := by
  unfold siteCountOf
  split
  · next copied => simp [copied, eq_comm]
  · next bare =>
    simp only [bare, false_and, not_false_eq_true, true_and, false_or]
    constructor
    · split
      · next heard => exact fun same => by cases same; exact ⟨_, _, _, _, _, _, _, heard, rfl⟩
      · exact fun no => nomatch no
    · rintro ⟨⟨_, _, _, _, _⟩, st, c, k, lo, hi, m, heard, rfl⟩
      rw [heard]

theorem statusOk_iff {top : Option Nat} {b : StatusBody} : statusOk top b = true ↔
    (b.reachedValid = true → -60 ≤ b.reached ∧ b.reached ≤ 200) ∧ (b.reachedValid = false → b.reached = 0) ∧
      ∀ n, 1 ≤ n → n ≤ 8 → b.mask.getLsbD (n - 1) = true ∨ (∃ m, top = some m ∧ m < n) →
        b.sites.getD (n - 1) .up = .up := by
  have sites : (siteNumbers.all fun n =>
      !(maskHas b.mask n || aboveSites top n) || b.sites.getD (n - 1) .up == .up) = true ↔
      ∀ n, 1 ≤ n → n ≤ 8 → b.mask.getLsbD (n - 1) = true ∨ (∃ m, top = some m ∧ m < n) →
        b.sites.getD (n - 1) .up = .up := by
    simp only [List.all_eq_true, mem_siteNumbers]
    refine forall_congr' fun n => and_imp.trans (imp_congr_right fun low => imp_congr_right fun _ => ?_)
    cases top <;> simp [aboveSites, maskHas, imp_iff_not_or, Nat.ne_of_gt low]
  rw [statusOk, Bool.and_eq_true, sites, ← and_assoc]
  refine and_congr_left' ?_
  cases b.reachedValid <;> simp [tempOk_iff]

theorem permitOk_iff {q : Permit} : permitOk q = true ↔ q.lotId = 0 ∧ q.index = 0 ∧ q.kit = 0 ∧ q.temp = 0 ∨
    q.lotId ≠ 0 ∧ lotOk q.lotId q.index = true ∧ tempOk q.temp = true := by
  unfold permitOk
  split
  · next idle => simp [idle, and_assoc]
  · next names => simp [names]

theorem blockOk_iff {k : BeaconBlock} : blockOk k = true ↔ match k with
    | .cell n r l => n ≤ 40 ∧ r ≤ 40 ∧ l ≤ 5
    | .handler _ c _ lo hi n _ => c ≤ 40 ∧ (-60 ≤ lo ∧ lo ≤ 200) ∧ (-60 ≤ hi ∧ hi ≤ 200) ∧
        (n = 1 ∨ n = 2 ∨ n = 4 ∨ n = 8)
    | .stage w z => w ≤ 64 ∧ z ≤ 15
    | .pack n => n ≤ 32 := by
  cases k <;> simp only [blockOk, Bool.and_eq_true, decide_eq_true_eq, tempOk_iff, siteCountOk_iff, and_assoc]

/-! ## Steps 4 to 6 of R6 -/

theorem forThisStation_iff {h : Header} : forThisStation s h = true ↔ h.addr.type = .toAll ∨
    h.addr.type = .toStation ∧ h.addr.value = s.start.number ∧ 1 ≤ s.start.number ∧ s.start.number ≤ 40 ∨
    h.addr.type = .toZone ∧ s.start.config.zoneMask.getLsbD h.addr.value = true := by
  cases type : h.addr.type <;> simp [forThisStation, type, State.numberValid, State.own]
  tauto

/-- A frame that qualifies is heard and offered to the watch slots before steps 4 to 6. -/
theorem receiveFrame_of_other {h : Header} {p : Payload} (receives : receiving s = true) (addr : addressOk h p = true)
    (other : h.source ≠ s.start.number) : receiveFrame h p s =
      qualify h p (offerWatches p (hear h.source h.fresh (s.setLink (s.link.afterTransmission h.source)))) := by
  have another : ¬h.source = s.own := other
  simp [receiveFrame, receives, addr, takeFrame, another]

/-- Settles O22. -/
theorem qualifiedFramesAreHandedOn : Obligations.QualifiedFramesAreHandedOn := by
  refine ⟨fun h s => forThisStation_iff, fun k r => ⟨by simp [kindKnown], ?_⟩, ?_, fun h p s receives addr other => ?_⟩
  · rcases Nat.lt_or_ge k 27 with known | unknown
    · interval_cases k <;> simp [takenBy]
    · obtain ⟨m, rfl⟩ := Nat.exists_eq_add_of_le' unknown
      exact iff_of_false (fun no => nomatch no) id
  · intro s source p in_ id word station index sublot temp count key record fit copied siteCount code right
    have isKey (sc : Scope) (k : Nat) : keyOk sc k = true ↔ key sc k :=
      keyOk_iff.trans (by cases sc <;> rfl)
    have isRecord (r : HoldRec) : holdRecOk r = true ↔ record r := by rw [holdRecOk_iff, isKey]
    have isFit (f : HandlerFit) : fitOk f = true ↔ fit f := fitOk_iff
    refine ⟨by cases p <;> rfl, ?_⟩
    cases p with
    | beacon b =>
      have parts : contentOk s source (.beacon b) = true ↔
          (b.state = .learning ∨ b.state = .active) ∧ b.holdCount ≤ 24 ∧ blockOk b.block = true := by
        simp only [contentOk, beaconOk, Bool.and_eq_true, Bool.or_eq_true, beq_iff_eq, decide_eq_true_eq, and_assoc]
      obtain ⟨state, zones, holdCount, digest, block⟩ := b
      exact parts.trans (and_congr_right' (and_congr_right' (blockOk_iff.trans (by cases block <;> rfl))))
    | offer l =>
      simp only [contentOk, lotRecordOk, Bool.and_eq_true, within_iff, sublotOk_iff, tempOk_iff, stationOk, Nat.zero_le,
        true_and, and_assoc, right, id, word, in_, temp, sublot, index, station]
    | claim l i _ _ | accept l i _ _ | revoke l i _ | return_ l i _ | doneTaken l i => exact lotOk_iff
    | grant l i c _ =>
      simp only [contentOk, Bool.and_eq_true, lotOk_iff, stationOk, within_iff, and_assoc, right, id, index, in_, station]
    | lotDone c =>
      simp only [contentOk, completionOk, Bool.and_eq_true, within_iff, sublotOk_iff, stationOk, and_assoc, right, id,
        word, in_, sublot, index, station]
    | release r =>
      simp only [contentOk, releaseOk, Bool.and_eq_true, within_iff, decide_eq_true_eq, and_assoc, right, id, word, in_,
        index]
    | hold r => exact isRecord r
    | clear sc k g d n =>
      have clears : (d ≠ .none ∧ (d = .resume ∨ sc = .lot)) ↔
          (d = .resume ∨ sc = .lot ∧ (d = .scrap ∨ d = .retest)) := by cases d <;> simp
      simp only [contentOk, clearOk, generationOk, stationOk, Bool.and_eq_true, isKey, within_iff, bne_iff_ne,
        Bool.or_eq_true, beq_iff_eq, and_assoc, right, word, in_, station, ← clears]
    | holdListReq i | holdListNone t i => simp [contentOk, right]
    | holdList t i n rs =>
      simp only [contentOk, holdListOk, Bool.and_eq_true, within_iff, beq_iff_eq, decide_eq_true_eq, List.all_eq_true,
        isRecord, and_assoc, right, in_]
    | handlerWanted k u => simp only [contentOk, Bool.and_eq_true, within_iff, tempOk_iff, right, in_, temp]
    | handlerAvailable f _ | bindReply _ f _ => exact isFit f
    | reserve | reserveReply _ _ | bindReq _ | unbind _ => exact iff_of_true rfl trivial
    | bindConfirm _ n => exact siteCountOk_iff
    | permit q =>
      rw [show contentOk s source (.permit q) = permitOk q from rfl, permitOk_iff, lotOk_iff, tempOk_iff, and_assoc]
    | handlerStatus b => exact statusOk_iff.trans (by simp only [mem_siteCountOf]; rfl)
    | siteDown n r => simp [contentOk, within_iff, right, in_]
    | raw _ _ => exact iff_of_false (fun no => nomatch no) fun no => no
  · rw [receiveFrame_of_other receives addr other, qualify]
    refine ⟨fun foreign => ?_, fun mine unknown => ?_, fun mine known other => ?_, fun mine taken bad => ?_,
      fun mine taken good => ?_⟩
    · rw [foreign]
      rfl
    · rw [mine, unknown]
      rfl
    · rw [mine, known, other]
      rfl
    · rw [mine, kindKnown_of_takenBy taken, taken, bad]
      rfl
    · rw [mine, kindKnown_of_takenBy taken, taken, good]
      rfl

end Sys2Proof.Machine
end

section
/-! PROOFS. A frame with the station's own number (R17), and what entry to SILENT stops (R25). -/
namespace Sys2Proof.Machine

variable {s t : State}

theorem isLive_false_iff : s.isLive = false ↔ s.start.station ≠ .learning ∧ s.start.station ≠ .active := by
  simp [State.isLive]

theorem raise_of_room {e : Event} (room : s.port.events.length < 32) : raise e s =
    s.setPort { s.port with events := s.port.events ++ [{ event := e, time := s.clock }] } := if_pos room

@[simp] theorem timed_none (c : Instr) : timed none c = [] := rfl

theorem timer_of_mem_timed {d : Option Nat} {c : Instr} {x : Nat × Instr} (mem : x ∈ timed d c) : x.2 = c := by
  cases d with
  | none => cases mem
  | some d => rw [List.mem_singleton.1 mem]

/-! ## Entry to SILENT -/

@[simp] theorem enterSilent_start (c : SilentCause) (s : State) :
    (enterSilent c s).start = { s.start with station := .silent, cause := c, learning := none } := rfl
@[simp] theorem enterSilent_stage (c : SilentCause) (s : State) : (enterSilent c s).stage = s.stage.stopTimers := rfl
@[simp] theorem enterSilent_cell (c : SilentCause) (s : State) : (enterSilent c s).cell = s.cell.stopTimers := rfl
@[simp] theorem enterSilent_handler (c : SilentCause) (s : State) :
    (enterSilent c s).handler = s.handler.stopTimers := rfl
@[simp] theorem enterSilent_resync (c : SilentCause) (s : State) :
    (enterSilent c s).holds.resync = s.holds.resync.stop := rfl

/-- An entry of a table whose timers were stopped runs none. -/
theorem findEntry_stopped {l i : Nat} {e : StageEntry} (stopped : s.stage = t.stage.stopTimers)
    (found : findEntry s l i = some e) : e.window = none ∧ e.accept = none := by
  rw [findEntry, stopped] at found
  obtain ⟨old, -, rfl⟩ := List.mem_map.1 (List.mem_of_find?_eq_some found)
  exact ⟨rfl, rfl⟩

theorem stageTimers_stopped (stopped : s.stage = t.stage.stopTimers) : stageTimers s = [] := by
  have windows (l i : Nat) : windowTimer s l i = none := by
    unfold windowTimer
    split
    · next e found => simp [(findEntry_stopped stopped found).1]
    · rfl
  have accepts (l i : Nat) : acceptTimer s l i = none := by
    unfold acceptTimer
    split
    · next e found => cases e.state <;> simp [(findEntry_stopped stopped found).2]
    · rfl
  have offer : s.stage.offerTimer = none := by rw [stopped]; rfl
  simp [stageTimers, windows, accepts, offer]

theorem cellTimers_stopped (silent : s.isActive = false) (stopped : s.cell = t.cell.stopTimers) :
    cellTimers s = [] := by
  have ages (x : Sighting) : ageingMoment s x = none := by simp [ageingMoment, silent]
  have lapses (x : Sighting) : lapseMoment s x = none := by
    unfold lapseMoment
    split
    · simp [silent]
    · rfl
  have search : replyWindow s.cell.reservation = none ∧ replyTimer s.cell.reservation = none ∧
      cellDeadline s.cell.reservation = none := by
    rw [stopped]
    cases held : t.cell.reservation <;> simp [Cell.stopTimers, held, replyWindow, replyTimer, cellDeadline]
  obtain ⟨window, reply, deadline⟩ := search
  have bind : cellBindTimer s = none := by simp [cellBindTimer, stopped, Cell.stopTimers]
  simp only [cellTimers, ages, lapses, window, reply, deadline, bind, timed_none, List.append_nil]
  simp [stopped, Cell.stopTimers]

theorem handlerTimers_stopped (stopped : s.handler = t.handler.stopTimers) : handlerTimers s = [] := by
  simp [handlerTimers, handlerBindTimer, orphanTimerOf, soakTimerOf, graceTimerOf, stopped, Handler.stopTimers]

/-- At a SILENT station that stopped its timers the loss timers alone run. -/
theorem runningTimers_of_silent {c : SilentCause} {x : Nat × Instr} (mem : x ∈ runningTimers (enterSilent c s)) :
    ∃ n, x.2 = .lossTimerExpiry n := by
  rw [runningTimers, stageTimers_stopped (enterSilent_stage c s), cellTimers_stopped rfl (enterSilent_cell c s),
    handlerTimers_stopped (enterSilent_handler c s), List.append_nil, List.append_nil, List.append_nil] at mem
  have silent : learningTimer (enterSilent c s) = none := rfl
  have asked : answerTimer (enterSilent c s) = none := rfl
  rw [commonTimers, silent, asked, show (enterSilent c s).peers.beaconTimer = none from rfl,
    show (enterSilent c s).holds.resync.spacing = none from rfl, timed_none, timed_none, timed_none, timed_none,
    List.nil_append, List.nil_append, List.nil_append, List.nil_append, List.mem_flatMap] at mem
  obtain ⟨i, -, mem⟩ := mem
  exact ⟨i + 1, timer_of_mem_timed mem⟩

theorem runningTimers_raise (e : Event) (s : State) : runningTimers (raise e s) = runningTimers s := by
  rw [raise_eq]
  rfl

/-! ## A frame with the station's own number -/

theorem numberValid_of_addressOk {h : Header} {p : Payload} (addr : addressOk h p = true)
    (own : h.source = s.start.number) : s.numberValid = true := by
  rw [addressOk, Bool.and_eq_true, Bool.and_eq_true, stationOk, within_iff, own] at addr
  simp [State.numberValid, addr.1.2]

theorem receiveFrame_of_own {h : Header} {p : Payload} (receives : receiving s = true) (addr : addressOk h p = true)
    (own : h.source = s.start.number) :
    receiveFrame h p s = duplicate (s.setLink (s.link.afterTransmission h.source)) := by
  have valid := numberValid_of_addressOk addr own
  have same : h.source = s.own := own
  simp [receiveFrame, receives, addr, takeFrame, valid, same]

/-- Settles O23. -/
theorem duplicateNumberSilences : Obligations.DuplicateNumberSilences := by
  intro h p s receives addr own
  refine ⟨_, receiveFrame_of_own receives addr own, ?_⟩
  cases live : s.isLive with
  | false =>
    rw [show duplicate (s.setLink (s.link.afterTransmission h.source)) = (s.setLink { s.link.afterTransmission h.source
      with latches := { s.link.latches with dupId := true } }) from if_neg (by simp [live])]
    exact ⟨rfl, rfl, rfl, rfl, (fun no => nomatch no), fun _ => ⟨rfl, rfl⟩, (fun _ _ no => nomatch no), rfl, rfl, rfl,
      rfl, rfl, fun _ => ⟨rfl, rfl, rfl⟩, fun no => nomatch no⟩
  | true =>
    rw [show duplicate (s.setLink (s.link.afterTransmission h.source)) = raise .dupId (enterSilent .dupId
      (s.setLink { s.link.afterTransmission h.source with latches := { s.link.latches with dupId := true } })) from
      if_pos (by simp [live])]
    refine ⟨by simp; rfl, by simp; rfl, by simp; rfl, ?_, fun _ => ⟨by simp, by simp; rfl, by simp; rfl, by simp; rfl,
      fun room => ?_⟩, (fun no => nomatch no), fun x mem _ => ?_, by simp; rfl, by simp; rfl, by simp; rfl, by simp; rfl,
      by simp; rfl, (fun no => nomatch no), fun _ => ⟨by simp; rfl, by simp; rfl, ⟨_, by simp; rfl, ?_⟩, by simp; rfl⟩⟩
    · unfold raise
      split <;> rfl
    · rw [raise_of_room (by exact room)]
      rfl
    · rw [runningTimers_raise] at mem
      exact runningTimers_of_silent mem
    · refine ⟨fun k u cs m held => ?_, fun k u n cs m held => ?_, fun n f m held => ?_, fun held => ?_⟩ <;>
        simp [held]

end Sys2Proof.Machine
end

section
/-! PROOFS. The BEACON: its fields, its timer, and the place it takes in the transmit queue (R13, R27, R28). -/
namespace Sys2Proof.Machine

variable {s t : State}

/-- The BEACON's frame in the transmit queue. -/
def beaconFrame (b : BeaconBody) : QFrame := { addr := { type := .toAll, value := 0 }, payload := .beacon b }

theorem postBeacon_of_replaced {b : BeaconBody} {q : List QFrame}
    (place : s.link.replacedBeacon (beaconFrame b) = some q) :
    postBeacon b s = s.setLink { s.link with queue := q } := by
  rw [beaconFrame] at place
  simp only [postBeacon, place]

theorem postBeacon_of_none {b : BeaconBody}
    (none : s.link.replacedBeacon (beaconFrame b) = none) :
    postBeacon b s = post { type := .toAll, value := 0 } (.beacon b) s := by
  rw [beaconFrame] at none
  simp only [postBeacon, none, sendAll]

theorem replaceBeacon_of_first {f old : QFrame} {pre rest : List QFrame} (beacon : isBeacon old.payload = true)
    (first : ∀ g ∈ pre, isBeacon g.payload = false) :
    replaceBeacon f (pre ++ old :: rest) = some (pre ++ f :: rest) := by
  induction pre with
  | nil => simp [replaceBeacon, beacon]
  | cons g pre ih => simp [replaceBeacon, first g, ih fun x mem => first x (.tail _ mem)]

theorem replaceBeacon_of_none {f : QFrame} {q : List QFrame} (none : ∀ g ∈ q, isBeacon g.payload = false) :
    replaceBeacon f q = .none := by
  induction q with
  | nil => rfl
  | cons g q ih => simp [replaceBeacon, none g, ih fun x mem => none x (.tail _ mem)]

theorem headAttempted_iff {l : Link} :
    l.headAttempted = true ↔ l.attempts ≠ 0 ∨ l.tx = .sending ∨ l.tx = .disturbing := by
  simp only [Link.headAttempted, Bool.or_eq_true, beq_iff_eq, bne_iff_ne]
  tauto

/-- The first BEACON of the queue waits unattempted: another stands before it, or it is a head not attempted. -/
theorem replacedBeacon_of_first {l : Link} {f old : QFrame} {pre rest : List QFrame}
    (queue : l.queue = pre ++ old :: rest) (beacon : isBeacon old.payload = true)
    (first : ∀ g ∈ pre, isBeacon g.payload = false) (waits : pre = [] → l.headAttempted = false) :
    l.replacedBeacon f = some (pre ++ f :: rest) := by
  rw [Link.replacedBeacon, queue]
  cases pre with
  | nil => simpa [waits] using replaceBeacon_of_first (pre := []) beacon first
  | cons g pre =>
    have place := replaceBeacon_of_first (f := f) (rest := rest) beacon fun x mem => first x (.tail g mem)
    simp [replaceBeacon, first g, place]

theorem replacedBeacon_of_head {l : Link} {f head : QFrame} {rest : List QFrame} (queue : l.queue = head :: rest)
    (attempted : l.headAttempted = true) : l.replacedBeacon f = (replaceBeacon f rest).map (head :: ·) := by
  simp [Link.replacedBeacon, queue, attempted]

theorem beaconExpiry_eq (d : Nat) (timer : s.peers.beaconTimer = some d) :
    expire s.peers.beaconTimer beaconExpiry s =
      (postBeacon (beaconNow (s.advanceTo d)) (s.advanceTo d)).setPeers
        { (postBeacon (beaconNow (s.advanceTo d)) (s.advanceTo d)).peers with
          beaconTimer := some (max s.now d + s.start.config.beaconInterval * 1000) } := by
  rw [timer, expire, beaconExpiry, State.after, postBeacon_now, postBeacon_beaconMs]
  rfl

/-- Settles O24. -/
theorem beaconsArePostedAndReplaced : Obligations.BeaconsArePostedAndReplaced := by
  refine ⟨fun s => ⟨rfl, rfl, rfl, rfl, fun cell => ?_, fun handler => ?_, fun e => lotHeld_iff, fun stage => ?_,
    fun pack => ?_⟩, fun d s running timer => ⟨_, rfl, next_event running (beaconExpiry_eq d timer)⟩,
    fun b s pre rest old queue beacon first waits => ?_, fun b s none => ?_, fun b s head rest queue attempted => ⟨?_, ?_⟩⟩
  · refine ⟨beaconedHandler s.cell.binding, reservedHandler s.cell.reservation, ?_, fun bound => ?_, fun free => ?_,
      fun n f d held => ?_, fun free => ?_⟩
    · simp only [beaconNow, roleBlock, cell, load]
      cases s.cell.active <;> rfl
    · rcases bound with bound | bound <;> simp [beaconedHandler, bound]
    · rcases free with free | free <;> simp [beaconedHandler, free]
    · simp [reservedHandler, held]
    · unfold reservedHandler
      split
      · next held => exact absurd held (free _ _ _)
      · rfl
  · refine ⟨siteMask s, by simp [beaconNow, roleBlock, handler], fun n low high => ?_⟩
    have at_n := maskHas_siteMask (s := s) (n := n)
    simpa [maskHas, low, high] using at_n
  · simp [beaconNow, roleBlock, stage, offerable]
  · simp only [beaconNow, roleBlock, pack]
    rfl
  · exact postBeacon_of_replaced (replacedBeacon_of_first queue beacon first fun head => by
      simp [Link.headAttempted, waits head])
  · refine postBeacon_of_none ?_
    cases queue : s.link.queue with
    | nil => simp [Link.replacedBeacon, queue]
    | cons head rest =>
      rw [queue] at none
      cases attempted : s.link.headAttempted with
      | true => simp [replacedBeacon_of_head queue attempted, replaceBeacon_of_none fun g mem => none g (.tail _ mem)]
      | false => simp [Link.replacedBeacon, queue, attempted, replaceBeacon_of_none none]
  · intro none
    exact postBeacon_of_none (by
      rw [replacedBeacon_of_head queue (headAttempted_iff.2 attempted), replaceBeacon_of_none none]
      rfl)
  · rintro pre old post rfl beacon first
    exact postBeacon_of_replaced (by
      rw [replacedBeacon_of_head queue (headAttempted_iff.2 attempted), replaceBeacon_of_first beacon first]
      rfl)

end Sys2Proof.Machine
end

section
/-! PROOFS. The watch slots a frame is offered to (R180). -/
namespace Sys2Proof.Machine

variable {s t : State}

theorem set_getD_self {α : Type} (l : List α) (n : Nat) (d : α) : l.set n (l.getD n d) = l := by
  refine List.ext_getElem? fun i => ?_
  rw [List.getElem?_set]
  split
  · next same =>
    subst same
    split
    · next low => simp [List.getD_eq_getElem?_getD, low]
    · next high => exact (List.getElem?_eq_none (by omega)).symm
  · rfl

/-- The hit of a slot on a frame that names some keys. -/
def slotHit (s : State) (kind : Nat) (keys : List (Scope × Nat)) (n : Nat) : Option EventRec :=
  ((s.port.watches.getD n none).filter fun w => keys.contains w).map fun w =>
    { event := .watchHit n kind w.1 w.2, time := s.clock }

/-- A slot as a frame leaves it. -/
def slotLeft (keys : List (Scope × Nat)) (w : Option (Scope × Nat)) : Option (Scope × Nat) :=
  w.filter fun w => !keys.contains w

/-- The port once a frame was offered to some of the slots. -/
def portOffered (s : State) (kind : Nat) (keys : List (Scope × Nat)) (ns : List Nat) : Port :=
  { s.port with
    watches := ns.foldl (fun ws n => ws.set n (slotLeft keys (ws.getD n none))) s.port.watches,
    events := s.port.events ++ (ns.filterMap (slotHit s kind keys)).take (32 - s.port.events.length),
    overflowed := s.port.overflowed ||
      decide (32 - s.port.events.length < (ns.filterMap (slotHit s kind keys)).length) }

theorem portOffered_of_hit {kind n : Nat} {keys : List (Scope × Nat)} {w : Scope × Nat}
    (armed : s.port.watches.getD n none = some w) (named : keys.contains w = true) : portOffered s kind keys [n] =
    { s.port with
      watches := s.port.watches.set n none,
      events := s.port.events ++
        [{ event := .watchHit n kind w.1 w.2, time := s.clock : EventRec }].take (32 - s.port.events.length),
      overflowed := s.port.overflowed || decide (32 - s.port.events.length < 1) } := by
  have hit : slotHit s kind keys n = some { event := .watchHit n kind w.1 w.2, time := s.clock } := by
    rw [slotHit, armed, Option.filter_some, if_pos named]
    rfl
  have left : slotLeft keys (some w) = none := by rw [slotLeft, Option.filter_some, if_neg (by rw [named]; decide)]
  rw [portOffered, List.filterMap_cons, hit, List.foldl_cons, armed, left]
  rfl

theorem portOffered_of_miss {kind n : Nat} {keys : List (Scope × Nat)}
    (missed : ∀ w, s.port.watches.getD n none = some w → keys.contains w = false) :
    portOffered s kind keys [n] = s.port := by
  have none : slotHit s kind keys n = none ∧ slotLeft keys (s.port.watches.getD n none) = s.port.watches.getD n none := by
    rw [slotHit, slotLeft]
    cases armed : s.port.watches.getD n none with
    | none => exact ⟨rfl, rfl⟩
    | some w =>
      have away := missed w armed
      rw [Option.filter_some, Option.filter_some, if_neg (by rw [away]; decide), if_pos (by rw [away]; decide)]
      exact ⟨rfl, rfl⟩
  obtain ⟨miss, left⟩ := none
  rw [portOffered, List.filterMap_cons, miss, List.foldl_cons, left, set_getD_self]
  simp

theorem offerSlot_eq (kind : Nat) (keys : List (Scope × Nat)) (s : State) (n : Nat) :
    offerSlot kind keys s n = s.setPort (portOffered s kind keys [n]) := by
  unfold offerSlot
  split
  · next w armed =>
    split
    · next named =>
      rw [portOffered_of_hit armed named, modifyAt_eq_set _ none, raise]
      split
      · next room =>
        have here : s.port.events.length < 32 := room
        rw [List.take_of_length_le (by simp; omega), decide_eq_false (by omega), Bool.or_false]
        rfl
      · next full =>
        have here : ¬s.port.events.length < 32 := full
        rw [show 32 - s.port.events.length = 0 by omega, List.take_zero, List.append_nil, decide_eq_true (by omega),
          Bool.or_true]
        rfl
    · next unnamed =>
      rw [portOffered_of_miss fun v held => by cases armed.symm.trans held; simpa using unnamed]
      rfl
  · next free =>
    rw [portOffered_of_miss fun v held => by cases free.symm.trans held]
    rfl

/-- A slot is as it was once another was offered the frame. -/
theorem slotHit_of_ne {kind n m : Nat} {keys : List (Scope × Nat)} (apart : n ≠ m) :
    slotHit (s.setPort (portOffered s kind keys [n])) kind keys m = slotHit s kind keys m := by
  have same : (portOffered s kind keys [n]).watches.getD m none = s.port.watches.getD m none := by
    simp [portOffered, List.getD_eq_getElem?_getD, List.getElem?_set_ne apart]
  rw [slotHit, slotHit, ← same]
  rfl

theorem portOffered_cons {kind n : Nat} {keys : List (Scope × Nat)} {ns : List Nat} (fresh : n ∉ ns) :
    portOffered (s.setPort (portOffered s kind keys [n])) kind keys ns = portOffered s kind keys (n :: ns) := by
  have hits : ns.filterMap (slotHit (s.setPort (portOffered s kind keys [n])) kind keys) =
      ns.filterMap (slotHit s kind keys) :=
    List.filterMap_congr fun m mem => slotHit_of_ne fun same => fresh (same ▸ mem)
  rw [portOffered, hits]
  rw [portOffered, portOffered, show n :: ns = [n] ++ ns from rfl, List.filterMap_append, List.foldl_append]
  generalize [n].filterMap (slotHit s kind keys) = now
  generalize ns.filterMap (slotHit s kind keys) = later
  have events : s.port.events ++ now.take (32 - s.port.events.length) ++
      later.take (32 - (s.port.events ++ now.take (32 - s.port.events.length)).length) =
      s.port.events ++ (now ++ later).take (32 - s.port.events.length) := by
    rw [List.append_assoc, List.take_append, List.length_append, List.length_take]
    congr 3
    omega
  have fulls : (s.port.overflowed || decide (32 - s.port.events.length < now.length) ||
      decide (32 - (s.port.events ++ now.take (32 - s.port.events.length)).length < later.length)) =
      (s.port.overflowed || decide (32 - s.port.events.length < (now ++ later).length)) := by
    rw [Bool.or_assoc, List.length_append, List.length_append, List.length_take]
    congr 1
    rw [Bool.eq_iff_iff, Bool.or_eq_true, decide_eq_true_iff, decide_eq_true_iff, decide_eq_true_iff]
    omega
  simp only [State.setPort_port, Port.mk.injEq, true_and, and_true]
  exact ⟨events, fulls⟩

theorem foldl_offerSlot (kind : Nat) (keys : List (Scope × Nat)) (ns : List Nat) (apart : ns.Nodup) (s : State) :
    ns.foldl (offerSlot kind keys) s = s.setPort (portOffered s kind keys ns) := by
  induction ns generalizing s with
  | nil =>
    simp [portOffered]
    rfl
  | cons n ns ih =>
    obtain ⟨fresh, apart⟩ := List.nodup_cons.1 apart
    rw [List.foldl_cons, ih apart, offerSlot_eq, portOffered_cons fresh]
    rfl

theorem offerWatches_eq (p : Payload) (s : State) :
    offerWatches p s = s.setPort (portOffered s (kindCode p) (watchKeys p) [0, 1, 2, 3]) :=
  foldl_offerSlot _ _ _ (by decide) s

/-- One slot armed, on a key the frame names. -/
theorem offerWatches_of_one {p : Payload} {n : Nat} {w : Scope × Nat} (low : n < 4)
    (armed : s.port.watches = [none, none, none, none].set n (some w)) (named : w ∈ watchKeys p)
    (room : s.port.events.length < 32) : offerWatches p s = s.setPort { s.port with
      watches := [none, none, none, none],
      events := s.port.events ++ [{ event := .watchHit n (kindCode p) w.1 w.2, time := s.clock }] } := by
  have hit : (watchKeys p).contains w = true := List.contains_iff_mem.2 named
  have left : slotLeft (watchKeys p) (some w) = none := by rw [slotLeft, Option.filter_some, hit]; rfl
  have kept : slotLeft (watchKeys p) none = none := rfl
  have takes : List.take (32 - s.port.events.length)
      [({ event := .watchHit n (kindCode p) w.1 w.2, time := s.clock } : EventRec)] = _ :=
    List.take_of_length_le (by simp; omega)
  have fits : decide (32 - s.port.events.length < 1) = false := decide_eq_false (by omega)
  have hits : [0, 1, 2, 3].filterMap (slotHit s (kindCode p) (watchKeys p)) =
      [{ event := .watchHit n (kindCode p) w.1 w.2, time := s.clock }] := by
    have miss {m : Nat} (apart : m ≠ n) (below : m < 4) : slotHit s (kindCode p) (watchKeys p) m = none := by
      have free : s.port.watches.getD m none = none := by
        rw [armed, List.getD_eq_getElem?_getD, List.getElem?_set_ne apart.symm]
        interval_cases m <;> rfl
      rw [slotHit, free]
      rfl
    have struck : slotHit s (kindCode p) (watchKeys p) n =
        some { event := .watchHit n (kindCode p) w.1 w.2, time := s.clock } := by
      have held : s.port.watches.getD n none = some w := by
        rw [armed]
        interval_cases n <;> rfl
      rw [slotHit, held, Option.filter_some, hit]
      rfl
    interval_cases n <;> simp [miss, struck]
  rw [offerWatches_eq, portOffered, hits, takes, List.length_singleton, fits, Bool.or_false]
  interval_cases n <;> simp [armed, left, kept]

theorem mem_watchKeys {p : Payload} {w : Scope × Nat} (typed : ∀ k bs, p ≠ .raw k bs) : w ∈ watchKeys p ↔
    (∃ l, p = .offer l ∧ (w = (.lot, l.lotId) ∨ w = (.product, l.product) ∨
      w = (.group, l.group) ∨ w = (.program, l.program))) ∨
    (∃ c, p = .lotDone c ∧ (w = (.lot, c.lotId) ∨ w = (.product, c.product) ∨ w = (.program, c.program))) ∨
    (∃ r, p = .release r ∧ (w = (.lot, r.lotId) ∨ w = (.product, r.product))) ∨
    (∃ r, p = .hold r ∧ w = (r.scope, r.key)) ∨
    ∃ t i n rs r, p = .holdList t i n rs ∧ r ∈ rs ∧ w = (r.scope, r.key) := by
  cases p with
  | raw k bs => exact absurd rfl (typed k bs)
  | holdList t i n rs => simp [watchKeys, eq_comm]
  | _ => simp [watchKeys]

/-- A qualified frame of a PRESENT peer whose fresh mark it does not newly set. -/
theorem receiveFrame_of_present {h : Header} {p : Payload} (receives : receiving s = true)
    (addr : addressOk h p = true) (other : h.source ≠ s.start.number)
    (present : (peerAt s.peers h.source).presence = .present)
    (fresh : h.fresh = true → (peerAt s.peers h.source).fresh = true) :
    receiveFrame h p s = qualify h p (offerWatches p (heard h s)) := by
  rw [receiveFrame_of_other receives addr other]
  congr 2
  exact hear_of_present _ _ _ present fresh

@[simp] theorem offerWatches_start (p : Payload) (s : State) : (offerWatches p s).start = s.start := by
  rw [offerWatches_eq]
  rfl

theorem forThisStation_congr {h : Header} (same : t.start = s.start) : forThisStation t h = forThisStation s h := by
  simp only [forThisStation, State.numberValid, State.own, same]

theorem exec_release {h : Header} {r : ReleaseRec} (running : s.pins.inReset = false)
    (is : receiveFrame h (.release r) s = t) : exec (.release h r) s = .next (settle s t) := next_event running is

theorem endClean_eq {f : QFrame} {q : List QFrame} (sending : s.link.tx = .sending) (queue : s.link.queue = f :: q) :
    endClean s = offerWatches f.payload (s.setLink { s.link with
      last := s.start.number, queue := q, tx := if q.isEmpty then .empty else .waiting,
      attempts := 0, line := .counting s.start.number, onWire := [] }) := by
  rw [endClean, sending, queue]
  rfl

/-- Settles O25. -/
theorem framesHitTheWatches : Obligations.FramesHitTheWatches := by
  refine ⟨fun h r s running receives addr other present fresh => ?_, fun p w typed => mem_watchKeys typed,
    fun p s sizes => ?_, fun h i p s is running receives addr other present fresh => ?_,
    fun f q n w s running sending queue low armed named room => ?_⟩
  · have unread (t : State) : qualify h (.release r) t = t := by
      unfold qualify
      split
      · rfl
      · rfl
    have hears := (receiveFrame_of_present receives addr other present fresh).trans (unread _)
    refine ⟨fun off => exec_release running (hears.trans (offerWatches_of_disarmed _ _ off)),
      fun n w low armed named room => exec_release running (hears.trans ?_)⟩
    exact offerWatches_of_one low armed (by simpa [watchKeys] using named) room
  · obtain ⟨-, four, -⟩ := sizes
    intro named left hits room
    have lefts : [0, 1, 2, 3].foldl (fun ws n => ws.set n (slotLeft (watchKeys p) (ws.getD n none))) s.port.watches =
        left := by
      obtain ⟨a, b, c, d, are⟩ := List.length_eq_four.1 four
      rw [show left = s.port.watches.map (Option.filter fun w => !named w) from rfl, are]
      rfl
    rw [offerWatches_eq, portOffered, lefts]
    rfl
  · have hears := receiveFrame_of_present receives addr other present fresh
    have start : (offerWatches p (heard h s)).start = s.start := by simp
    have runs {t : State} (goes : qualify h p (offerWatches p (heard h s)) = t) : exec i s = .next (settle s t) := by
      rw [← next_event running (hears.trans goes)]
      rcases is with ⟨l, rfl, rfl⟩ | ⟨c, rfl, rfl⟩ | ⟨r, rfl, rfl⟩ | ⟨r, rfl, rfl⟩ | ⟨u, k, n, rs, rfl, rfl⟩ <;> rfl
    have known : kindKnown (kindCode p) = true := by
      rcases is with ⟨l, rfl, rfl⟩ | ⟨c, rfl, rfl⟩ | ⟨r, rfl, rfl⟩ | ⟨r, rfl, rfl⟩ | ⟨u, k, n, rs, rfl, rfl⟩ <;> rfl
    rw [qualify, forThisStation_congr start, known, start] at runs
    refine ⟨fun away => runs ?_, fun mine taken bad => runs ?_, fun mine taken good => runs ?_⟩
    · rcases away with away | away
      · rw [away]
        rfl
      · rw [away]
        simp
    · rw [mine, taken, bad]
      rfl
    · rw [mine, taken, good]
      rfl
  · refine next_event running ((endClean_eq sending queue).trans ?_)
    exact offerWatches_of_one low armed named room

end Sys2Proof.Machine
end

section
/-! PROOFS. LEARNING ends, RESTART, and a frame at the peer directory (R24, R26, R29). -/
namespace Sys2Proof.Machine

variable {s t u : State}

/-! ## What the end of an event leaves -/

theorem settle_untouched (before s : State) :
    ((settle before s).pins.inReset, (settle before s).pins.jamIn, (settle before s).start, (settle before s).now,
      (settle before s).peers, (settle before s).limits, (settle before s).stage, (settle before s).pack,
      (settle before s).pending) =
    (s.pins.inReset, s.pins.jamIn, s.start, s.now, s.peers, s.limits, s.stage, s.pack, s.pending) := by
  obtain ⟨_, settled, -⟩ := settle_settledBy before s
  exact settled.untouched

@[simp] theorem settle_peers (before s : State) : (settle before s).peers = s.peers := by
  have same := settle_untouched before s
  simp only [Prod.mk.injEq] at same
  exact same.2.2.2.2.1

@[simp] theorem settle_limits (before s : State) : (settle before s).limits = s.limits := by
  have same := settle_untouched before s
  simp only [Prod.mk.injEq] at same
  exact same.2.2.2.2.2.1

@[simp] theorem settle_stage (before s : State) : (settle before s).stage = s.stage := by
  have same := settle_untouched before s
  simp only [Prod.mk.injEq] at same
  exact same.2.2.2.2.2.2.1

@[simp] theorem settle_pack (before s : State) : (settle before s).pack = s.pack := by
  have same := settle_untouched before s
  simp only [Prod.mk.injEq] at same
  exact same.2.2.2.2.2.2.2.1

theorem settle_holds (before s : State) :
    (settle before s).holds = { s.holds with resync := (settle before s).holds.resync } := by
  obtain ⟨_, settled, -⟩ := settle_settledBy before s
  exact settled.holds

theorem settle_cell (before s : State) : (settle before s).cell = { s.cell with
    sightings := (settle before s).cell.sightings, active := (settle before s).cell.active,
    reservation := (settle before s).cell.reservation, idleTimer := (settle before s).cell.idleTimer,
    idleElapsed := (settle before s).cell.idleElapsed, wantedSpacing := (settle before s).cell.wantedSpacing } := by
  obtain ⟨_, settled, -⟩ := settle_settledBy before s
  exact settled.cell

@[simp] theorem settle_records (before s : State) : (settle before s).holds.records = s.holds.records := by
  rw [settle_holds]

@[simp] theorem settle_overflow (before s : State) : (settle before s).holds.overflow = s.holds.overflow := by
  rw [settle_holds]

@[simp] theorem settle_queue (before s : State) : (settle before s).cell.queue = s.cell.queue := by
  rw [settle_cell]

/-! ## A peer heard (R29) -/

section
variable {n : Nat} {fresh : Bool}
  (heard : updatePeer n (·.heard s.clock (s.now + 3 * s.beaconMs) fresh) s = u)
include heard

theorem hear_of_unknown (unknown : (peerAt s.peers n).presence = .unknown) : hear n fresh s = u := by
  simp only [hear, heard, unknown]

theorem hear_of_unchanged (present : (peerAt s.peers n).presence = .present)
    (same : fresh = false ∨ (peerAt s.peers n).fresh = true) : hear n fresh s = u := by
  cases fresh <;> simp_all [hear]

theorem hear_of_restart (known : (peerAt s.peers n).presence ≠ .unknown) (new : fresh = true)
    (old : (peerAt s.peers n).fresh = false) : hear n fresh s = noticeRestart n u := by
  subst new
  cases presence : (peerAt s.peers n).presence with
  | unknown => exact absurd presence known
  | present => simp only [hear, heard, presence, old]
  | lost => simp only [hear, heard, presence, old]

theorem hear_of_back (lost : (peerAt s.peers n).presence = .lost)
    (same : fresh = false ∨ (peerAt s.peers n).fresh = true) : hear n fresh s = noticeBack n u := by
  cases fresh <;> simp_all [hear]

end

/-- Settles O29. -/
theorem hearingAPeer : Obligations.HearingAPeer := by
  intro n fresh s low high e u
  have entry : peerAt s.peers n = s.peers.table.getD (n - 1) PeerEntry.reset := by
    rw [peerAt, nth1]
    split
    · omega
    · rfl
  have heard : updatePeer n (·.heard s.clock (s.now + 3 * s.beaconMs) fresh) s = u := by
    rw [updatePeer, modifyAt_eq_set _ PeerEntry.reset, ← entry]
    rfl
  exact ⟨hear_of_unknown heard, hear_of_unchanged heard, hear_of_restart heard, hear_of_back heard⟩

/-! ## LEARNING ends (R24) -/

/-- The station's tables as ACTIVE finds them, before the resync conditions are tested. -/
def activated (s : State) : State :=
  let active := s.setStart { s.start with station := .active, learning := none }
  if s.start.role = .stage then active.setStage { s.stage with offerTimer := s.after (s.own * 25) } else active

theorem enterActive_eq (s : State) : enterActive s = resyncTest (activated s) := by
  simp only [enterActive, activated, State.isRole, beq_iff_eq]
  rfl

/-- Settles O27. -/
theorem learningEndsInActive : Obligations.LearningEndsInActive := by
  intro d s running learning timer
  have expires : expire (learningTimer s) enterActive s = resyncTest (activated (s.advanceTo d)) := by
    rw [learningTimer, if_pos learning, timer, expire, enterActive_eq]
  obtain ⟨r, asked, -, -, tested⟩ := resyncTest_eq (activated (s.advanceTo d))
  refine ⟨_, next_event running (expires.trans tested), ?_⟩
  simp only [settle_start, settle_now, settle_peers, settle_limits, settle_pack, settle_records, settle_overflow,
    settle_queue, settle_stage]
  by_cases stage : s.start.role = .stage
  · rw [activated, if_pos (show (s.advanceTo d).start.role = .stage from stage), if_pos stage]
    exact ⟨rfl, rfl, rfl, rfl, rfl, rfl, rfl, rfl, rfl⟩
  · rw [activated, if_neg (show (s.advanceTo d).start.role ≠ .stage from stage), if_neg stage]
    exact ⟨rfl, rfl, rfl, rfl, rfl, rfl, rfl, rfl, rfl⟩

/-! ## RESTART (R26) -/

theorem mismatching_reset (h : HoldTable) : mismatching h PeerEntry.reset = false := rfl

theorem lowestMismatching_of_unheard (unheard : ∀ e ∈ s.peers.table, e = PeerEntry.reset) :
    lowestMismatching s = none := by
  rw [lowestMismatching, List.find?_eq_none.2, Option.map_none]
  rintro ⟨e, i⟩ mem
  rw [unheard e (List.fst_mem_of_mem_zipIdx mem)]
  exact Bool.false_ne_true

/-- The end of an event of a station that is not ACTIVE, with no peer to ask. -/
theorem settle_of_quiet (before : State) (idle : s.isActive = false) (target : requestTarget s = none)
    (lowest : lowestMismatching s = none) : settle before s =
      ((s.setHandler { s.handler with statusTimer := none, statusOwed := false }).setHolds
        { s.holds with resync := { s.holds.resync with spacing := none } }).setPins
        { s.pins with indexEn := false, event := !s.port.events.isEmpty } := by
  have asks : settleHolds before s = s := by
    unfold settleHolds
    split
    · rfl
    · exact resyncTest_of_no_target target
  have cell : settleCell before s = s := settleCell_of_idle before (by simp [idle])
  have handler : settleHandler before s = s.setHandler { s.handler with statusTimer := none, statusOwed := false } := by
    rw [settleHandler, if_neg (by simp [idle])]
  have timer : spacingTimer (s.setHandler { s.handler with statusTimer := none, statusOwed := false }) = none := by
    have none : lowestMismatching (s.setHandler { s.handler with statusTimer := none, statusOwed := false }) = none :=
      lowest
    rw [spacingTimer, none]
    simp
  have pins (u : State) (off : u.isActive = false) : indexConditions u = false := by simp [indexConditions, off]
  rw [settle, asks, cell, handler, spacingUpkeep, timer, settlePins, pins _ (by exact idle)]
  rfl

/-- The part restarted, before the JAM input is looked at. -/
def restarted (s : State) : State :=
  { State.fullReset s.start.number s.start.role false s.pins.jamIn s.pending with
    start := { s.start with
      station := .learning, cause := .none, learning := some (3 * (s.start.config.beaconInterval * 1000)) },
    link := { Link.reset with tx := .empty, line := .joining },
    peers := { PeerDir.reset with beaconTimer := some (s.start.number * 25) },
    limits := s.start.config.limits, handler := Handler.reset s.start.config.kit, port := Port.reset 0x0B }

theorem restarted_quiet (s : State) : requestTarget (restarted s) = none ∧ lowestMismatching (restarted s) = none := by
  have none : lowestMismatching (restarted s) = none :=
    lowestMismatching_of_unheard fun e mem => (List.mem_replicate.1 mem).2
  exact ⟨by rw [requestTarget, none]; rfl, none⟩

theorem restarted_pins (running : s.pins.inReset = false) (e : Bool) :
    { (restarted s).pins with indexEn := false, event := e } = { s.pins with indexEn := false, event := e } := by
  simp [restarted, State.fullReset, running]

theorem softRestart_eq (s : State) :
    softRestart s = if s.pins.jamIn then jamAsserted (restarted s) else restarted s := by
  have untested : resyncTest (restarted s) = restarted s := resyncTest_of_no_target (restarted_quiet s).1
  have left : softRestart s = (if (resyncTest (restarted s)).pins.jamIn then jamAsserted (resyncTest (restarted s))
      else resyncTest (restarted s)) := by
    have same : s.start.number * 25 = 0 + s.start.number * 25 := (Nat.zero_add _).symm
    have wait : 3 * (s.start.config.beaconInterval * 1000) = 0 + 3 * (s.start.config.beaconInterval * 1000) :=
      (Nat.zero_add _).symm
    rw [restarted, same, wait]
    rfl
  rw [left, untested]
  rfl

theorem jamAsserted_of_jam (jams : s.start.role = .handler ∧ s.isLive = true) (clear : s.handler.jamLatch = false)
    (unnamed : s.handler.jamLot.1 = 0) (room : s.port.events.length < 32) : jamAsserted s =
      (s.setHandler { s.handler with jamLatch := true }).setPort { s.port with
        events := s.port.events ++ [{ event := .jam 0 s.handler.jamLot.2, time := s.clock }] } := by
  rw [jamAsserted, if_pos (by simp [State.isRole, jams]), latchJam, clear, if_neg Bool.false_ne_true,
    raise_of_room (by exact room), unnamed]
  rfl

theorem jamAsserted_of_other (other : ¬s.start.role = .handler) : jamAsserted s = s :=
  if_neg (by simp [State.isRole, other])

/-- What RESTART leaves when no JAM is asserted. -/
theorem softRestart_of_calm (calm : ¬(s.start.role = .handler ∧ s.pins.jamIn = true)) :
    softRestart s = restarted s := by
  rw [softRestart_eq]
  split
  · next jam => exact jamAsserted_of_other fun role => calm ⟨role, jam⟩
  · rfl

theorem softRestart_of_jam (jams : s.start.role = .handler ∧ s.pins.jamIn = true) :
    softRestart s = ((restarted s).setHandler { Handler.reset s.start.config.kit with jamLatch := true }).setPort
      { Port.reset 0x0B with events := [{ event := .jam 0 0, time := 0 }] } := by
  rw [softRestart_eq, if_pos jams.2, jamAsserted_of_jam (s := restarted s) ⟨jams.1, rfl⟩ rfl rfl (Nat.zero_lt_succ 31)]
  rfl

/-- A command of every role, where the station state allows it or not. -/
theorem exec_restart (running : s.pins.inReset = false) (inUse : s.port.abandoned = false) :
    exec .restart s = .next (settle s (if available s .restart then setOutcome .start 0x0B (softRestart s)
      else setOutcome (.refused .state) 0x0B s)) := by
  refine next_event running ?_
  rw [transact, inUse, if_neg Bool.false_ne_true]
  cases may : available s .restart <;> simp [commandCode, codeOk, codeGroup, commandOk, availability, may, runCommand]

theorem available_restart_iff :
    available s .restart = true ↔ s.isLive = true ∨ s.start.station = .silent ∧ s.start.cause = .dupId := by
  simp [available]

/-- Settles O28. -/
theorem restartIsASoftRestart : Obligations.RestartIsASoftRestart := by
  intro s running inUse
  rw [exec_restart running inUse]
  refine ⟨fun may => ⟨_, rfl, ?_⟩, fun may => ?_⟩
  · rw [if_pos (available_restart_iff.2 may)]
    obtain ⟨target, lowest⟩ := restarted_quiet s
    by_cases jams : s.start.role = .handler ∧ s.pins.jamIn = true
    · rw [softRestart_of_jam jams, settle_of_quiet s rfl (by exact target) (by exact lowest)]
      exact ⟨rfl, rfl, rfl, rfl, rfl, rfl, rfl, rfl, rfl, rfl, rfl, rfl, rfl, rfl, rfl, rfl, rfl, rfl,
        fun _ => ⟨rfl, rfl⟩, fun calm => absurd jams calm, restarted_pins running _⟩
    · rw [softRestart_of_calm jams, settle_of_quiet s rfl (by exact target) (by exact lowest)]
      exact ⟨rfl, rfl, rfl, rfl, rfl, rfl, rfl, rfl, rfl, rfl, rfl, rfl, rfl, rfl, rfl, rfl, rfl, rfl,
        fun jam => absurd jam jams, fun _ => ⟨rfl, rfl⟩, restarted_pins running _⟩
  · rw [if_neg]
    rw [available_restart_iff]
    rcases may with start | ⟨silent, cause⟩
    · simp [State.isLive, start]
    · simp [State.isLive, silent, cause]

end Sys2Proof.Machine
end

section
/-! PROOFS. What the role blocks leave alone, and a peer that is lost (R31, R33). -/
namespace Sys2Proof.Machine

variable {s t u : State}

/-! ## What a role block may change -/

/-- A role block acts on its own records, the transmit queue and the event queue. -/
structure AtRole (s t : State) : Prop where
  pins : t.pins = s.pins
  start : t.start = s.start
  now : t.now = s.now
  peers : t.peers = s.peers
  holds : t.holds = s.holds
  limits : t.limits = s.limits

@[refl] theorem AtRole.refl (s : State) : AtRole s s := ⟨rfl, rfl, rfl, rfl, rfl, rfl⟩

theorem AtRole.trans (h : AtRole s t) (k : AtRole t u) : AtRole s u :=
  ⟨k.pins.trans h.pins, k.start.trans h.start, k.now.trans h.now, k.peers.trans h.peers, k.holds.trans h.holds,
    k.limits.trans h.limits⟩

theorem atRole_ite {c : Prop} [Decidable c] (yes : c → AtRole s t) (no : ¬c → AtRole s u) :
    AtRole s (if c then t else u) := by
  split
  · next h => exact yes h
  · next h => exact no h

theorem atRole_foldl {α : Type} {f : State → α → State} (xs : List α) (each : ∀ t x, AtRole t (f t x)) (s : State) :
    AtRole s (xs.foldl f s) := by
  induction xs generalizing s with
  | nil => rfl
  | cons x xs ih => exact (each s x).trans (ih _)

theorem atRole_raise (e : Event) (s : State) : AtRole s (raise e s) := by constructor <;> simp
theorem atRole_sendTo (n : Nat) (p : Payload) (s : State) : AtRole s (sendTo n p s) := by constructor <;> simp
theorem atRole_sendAll (p : Payload) (s : State) : AtRole s (sendAll p s) := by constructor <;> simp
theorem atRole_updateEntry (l i : Nat) (f : StageEntry → StageEntry) (s : State) : AtRole s (updateEntry l i f s) :=
  ⟨rfl, rfl, rfl, rfl, rfl, rfl⟩

theorem atRole_grantBest (l i : Nat) (s : State) : AtRole s (grantBest l i s) := by
  unfold grantBest
  split
  · rfl
  split
  · exact atRole_updateEntry _ _ _ s
  · exact (atRole_updateEntry _ _ _ s).trans (atRole_sendAll _ _)

theorem atRole_endGrant (l i n : Nat) (b : Bool) (s : State) : AtRole s (endGrant l i n b s) :=
  (atRole_ite (fun _ => atRole_updateEntry _ _ _ s) fun _ => .refl s).trans (atRole_grantBest _ _ _)

theorem atRole_stagePeerGone (n : Nat) (b : Bool) (s : State) : AtRole s (stagePeerGone n b s) :=
  atRole_foldl _ (fun t e => by
    unfold peerGoneEntry
    dsimp only
    split
    · exact atRole_updateEntry _ _ _ t
    · exact atRole_ite (fun _ => atRole_endGrant _ _ _ _ t) fun _ => atRole_updateEntry _ _ _ t
    · exact atRole_ite (fun _ => (atRole_updateEntry _ _ _ t).trans (atRole_raise _ _)) fun _ => .refl t
    · rfl
    · rfl) s

theorem atRole_setCell (c : Cell) (s : State) : AtRole s (s.setCell c) := ⟨rfl, rfl, rfl, rfl, rfl, rfl⟩
theorem atRole_setHandler (h : Handler) (s : State) : AtRole s (s.setHandler h) := ⟨rfl, rfl, rfl, rfl, rfl, rfl⟩

theorem atRole_tryCandidates (k : Nat) (temp : Int) (cs : List Candidate) (s : State) :
    AtRole s (tryCandidates k temp cs s) := by
  unfold tryCandidates
  split
  · exact (atRole_setCell _ s).trans (atRole_raise _ _)
  · exact (atRole_sendTo _ _ s).trans (atRole_setCell _ _)

theorem atRole_candidateOut (s : State) : AtRole s (candidateOut s) := by
  unfold candidateOut
  split
  · exact atRole_tryCandidates _ _ _ s
  · rfl

theorem atRole_reservationPeerGone (n : Nat) (b : Bool) (s : State) : AtRole s (reservationPeerGone n b s) := by
  unfold reservationPeerGone
  split
  · exact atRole_setCell _ s
  · exact atRole_ite (fun _ => atRole_candidateOut s) fun _ => atRole_setCell _ s
  · exact atRole_ite (fun _ => atRole_setCell _ s) fun _ => .refl s
  · rfl

theorem atRole_bindingPeerLost (n : Nat) (s : State) : AtRole s (bindingPeerLost n s) :=
  atRole_ite (fun _ => atRole_setCell _ s) fun _ => .refl s

theorem atRole_handlerPeerLost (n : Nat) (s : State) : AtRole s (handlerPeerLost n s) :=
  atRole_ite (fun _ => atRole_setHandler _ s) fun _ => .refl s

theorem atRole_roleLost (n : Nat) (s : State) : AtRole s (roleLost n s) := by
  unfold roleLost
  split
  · split
    · exact atRole_stagePeerGone n false s
    · exact ((atRole_setCell _ s).trans (atRole_reservationPeerGone n false _)).trans (atRole_bindingPeerLost n _)
    · exact atRole_handlerPeerLost n s
    · rfl
  · rfl

/-! ## The end of an event that changed no hold record -/

theorem cellUpkeep_holds (s : State) : (cellUpkeep s).holds = s.holds := by
  obtain ⟨xs, r, i, e, w, fs, p, -, -, -, -, kept⟩ := cellUpkeep_eq s
  rw [kept]
  rfl

theorem settleCell_holds (before s : State) : (settleCell before s).holds = s.holds := by
  by_cases on : s.isActive = true ∧ s.start.role = .cell
  · obtain ⟨sends, keeps⟩ := settleCell_of_active before on.1 on.2
    by_cases due : permitDue before s
    · rw [sends due, sendPermit_eq]
      exact cellUpkeep_holds s
    · rw [keeps due]
      exact cellUpkeep_holds s
  · rw [settleCell_of_idle before on]

theorem settle_holds_of_same {before : State} (digest : s.holds.digest = before.holds.digest)
    (length : s.holds.records.length = before.holds.records.length) :
    ∃ m, (settle before s).holds = { s.holds with resync := { s.holds.resync with spacing := m } } := by
  obtain ⟨fs, m, o, -, -, -, handled⟩ := settleHandler_eq before (settleCell before s)
  have same : (settleHandler before (settleCell before s)).holds = s.holds := by
    rw [handled]
    exact settleCell_holds before s
  refine ⟨spacingTimer (settleHandler before (settleCell before s)), ?_⟩
  rw [settle, settleHolds_of_same digest length, ← same]
  rfl

theorem settle_port_of_other {before : State} (other : s.start.role ≠ .cell) : (settle before s).port = s.port := by
  obtain ⟨r, asked, -, -, -, held⟩ := settleHolds_eq before s
  obtain ⟨fs, m, o, -, -, -, handled⟩ := settleHandler_eq before (settleHolds before s)
  have cell : settleCell before (settleHolds before s) = settleHolds before s :=
    settleCell_of_idle before fun on => other (by rw [held] at on; exact on.2)
  rw [settle, cell, handled, held]
  rfl

/-! ## A peer that is lost -/

theorem peerAt_of_low {d : PeerDir} {n : Nat} (low : 1 ≤ n) : peerAt d n = d.table.getD (n - 1) PeerEntry.reset := by
  rw [peerAt, nth1]
  split
  · omega
  · rfl

theorem roleLost_of_unheard {n : Nat} (off : s.isLive = false ∨ s.start.role = .pack) : roleLost n s = s := by
  unfold roleLost
  rcases off with off | off <;> simp [off]

theorem roleLost_of_cell {n : Nat} (live : s.isLive = true) (cell : s.start.role = .cell)
    (other : s.cell.binding.state = .bound → s.cell.binding.handler ≠ n) :
    roleLost n s = reservationPeerGone n false (sightingsPeerGone n s) := by
  have binding : (reservationPeerGone n false (sightingsPeerGone n s)).cell.binding = s.cell.binding := by
    have tried (k : Nat) (p : Int) (cs : List Candidate) (u : State) :
        (tryCandidates k p cs u).cell.binding = u.cell.binding := by
      unfold tryCandidates
      split <;> simp [setReservation]
    unfold reservationPeerGone candidateOut
    split
    · rfl
    · split
      · split
        · exact tried _ _ _ _
        · rfl
      · rfl
    · split <;> rfl
    · rfl
  unfold roleLost
  rw [if_pos live, cell]
  exact if_neg fun h => other (binding ▸ h.2) (binding ▸ h.1)

/-- A CELL's records without those of a peer. -/
def cellWithout (n : Nat) (r : Reservation) (s : State) : State := s.setCell { s.cell with
  sightings := s.cell.sightings.filter fun x => x.stage != n, reservation := r }

/-- What becomes of a search when a peer is lost. -/
def searchWithout (n : Nat) (s : State) : Reservation → State
  | .none => cellWithout n .none s
  | .collecting k p cs m => cellWithout n (.collecting k p (dropCandidate n cs) m) s
  | .reserving k p j cs m =>
    if j = n then tryCandidates k p (dropCandidate n cs) (sightingsPeerGone n s)
    else cellWithout n (.reserving k p j (dropCandidate n cs) m) s
  | .reserved j f m => cellWithout n (.reserved j f m) s

theorem reservationPeerGone_lost (n : Nat) (s : State) :
    reservationPeerGone n false (sightingsPeerGone n s) = searchWithout n s s.cell.reservation := by
  have same : (sightingsPeerGone n s).cell.reservation = s.cell.reservation := rfl
  unfold reservationPeerGone
  rw [same]
  cases search : s.cell.reservation with
  | none => simp only [searchWithout, cellWithout, ← search]; rfl
  | collecting k p cs m => rfl
  | reserving k p j cs m =>
    simp only [searchWithout]
    split
    · next here =>
      subst here
      simp only [candidateOut, same, search]
    · rfl
  | reserved j f m => simp only [searchWithout, cellWithout, ← search, Bool.and_false]; rfl

theorem tryCandidates_nil (n k : Nat) (p : Int) (s : State) :
    tryCandidates k p [] (sightingsPeerGone n s) = raise (.noHandler k p) (cellWithout n .none s) := rfl

theorem tryCandidates_cons (n k : Nat) (p : Int) (c : Candidate) (cs : List Candidate) (s : State) :
    tryCandidates k p (c :: cs) (sightingsPeerGone n s) = sendTo c.handler .reserve (cellWithout n
      (.reserving k p c.handler (c :: cs) (some (s.now + s.start.config.bindTimeout))) s) := by
  rw [tryCandidates, sendTo_eq, sendTo_eq]
  rfl

/-- The state in which the notice of a lost peer is given. -/
def silenced (n d : Nat) (s : State) : State :=
  (s.setNow (max s.now d)).setPeers { s.peers with
    table := s.peers.table.set (n - 1)
      { peerAt s.peers n with presence := .lost, lostLatch := true, beaconSince := false, lossTimer := none } }

theorem peerAt_set_same {d : PeerDir} {n : Nat} {e : PeerEntry} (low : 1 ≤ n) (high : n ≤ d.table.length) :
    peerAt { d with table := d.table.set (n - 1) e } n = e := by
  rw [peerAt_of_low low]
  simp [List.getD_eq_getElem?_getD, show n - 1 < d.table.length by omega]

theorem peerAt_set_other {d : PeerDir} {n m : Nat} {e : PeerEntry} (low : 1 ≤ n) (other : m ≠ n) :
    peerAt { d with table := d.table.set (n - 1) e } m = peerAt d m := by
  rw [peerAt, peerAt, nth1, nth1]
  split
  · rfl
  · simp [List.getD_eq_getElem?_getD, List.getElem?_set_ne (show n - 1 ≠ m - 1 by omega)]

theorem lossExpiry_eq {n d : Nat} (low : 1 ≤ n) (high : n ≤ 40) (present : (peerAt s.peers n).presence = .present)
    (timer : (peerAt s.peers n).lossTimer = some d) : lossExpiry n s = noticeLost n (silenced n d s) := by
  have runs : lossTimerOf s n = some d := by simp [lossTimerOf, stationOk, within, low, high, present, timer]
  rw [lossExpiry, runs, expire, losePeer, updatePeer, modifyAt_eq_set _ PeerEntry.reset, silenced, peerAt_of_low low]
  rfl

/-- Settles O31. -/
theorem silentPeersAreLost : Obligations.SilentPeersAreLost := by
  intro n d s running sizes low high present timer
  obtain ⟨table, -⟩ := sizes
  have role := atRole_roleLost n (silenced n d s)
  have holds : (noticeLost n (silenced n d s)).holds = (resyncPeerGone n s).holds := by
    simp only [noticeLost, raise_holds, resyncPeerGone, setResync, State.setHolds_holds, role.holds]
    rfl
  have start : (noticeLost n (silenced n d s)).start = s.start := by
    rw [noticeLost, raise_start]
    exact role.start
  have peers : (settle s (noticeLost n (silenced n d s))).peers = (silenced n d s).peers := by
    rw [settle_peers, noticeLost, raise_peers]
    exact role.peers
  refine ⟨_, next_event running (lossExpiry_eq low high present timer), ?_, ?_, fun m other => ?_, ?_,
    fun w waits peer => ?_, fun pack room => ?_, rfl, fun off => roleLost_of_unheard (by exact off), fun live cell other => ?_⟩
  · rw [settle_now, noticeLost, raise_now]
    exact role.now
  · rw [peers]
    exact peerAt_set_same low (by omega)
  · rw [peers]
    exact peerAt_set_other low other
  · rw [settle_records, holds]
    rfl
  · obtain ⟨m, settled⟩ := settle_holds_of_same (before := s) (s := noticeLost n (silenced n d s))
      (by rw [holds]; rfl) (by rw [holds]; rfl)
    rw [settled, holds]
    simp [resyncPeerGone, setResync, waits, peer]
  · have same : roleLost n (silenced n d s) = silenced n d s := roleLost_of_unheard (.inr pack)
    rw [settle_port_of_other (by rw [start, pack]; decide), noticeLost,
      same, raise_of_room (by exact room)]
    rfl
  · intro gone
    have lost : roleLost n (silenced n d s) = searchWithout n (silenced n d s) s.cell.reservation :=
      (roleLost_of_cell (s := silenced n d s) live cell other).trans (reservationPeerGone_lost _ _)
    refine ⟨fun search => ?_, fun k p cs m search => ?_, fun k p j cs m search apart => ?_, fun k p cs m search => ⟨?_, ?_⟩,
      fun j f m search => ?_⟩
    · rw [search] at lost
      exact lost
    · rw [search] at lost
      exact lost
    · rw [search, searchWithout, if_neg apart] at lost
      exact lost
    · intro all
      have empty : dropCandidate n cs = [] := List.filter_eq_nil_iff.2 fun c mem => by simp [all c mem]
      rw [search, searchWithout, if_pos rfl, empty] at lost
      exact lost
    · intro c rest left
      rw [search, searchWithout, if_pos rfl, show dropCandidate n cs = c :: rest from left, tryCandidates_cons] at lost
      exact lost
    · rw [search] at lost
      exact lost

end Sys2Proof.Machine
end

section
/-! PROOFS. A BEACON recorded, and what a CELL makes of it (R30, R86, R93). -/
namespace Sys2Proof.Machine

variable {s t u : State}

/-! ## The end of an event at the cell -/

theorem cellUpkeep_reservation (held : s.cell.reservation ≠ .none) :
    (cellUpkeep s).cell.reservation = s.cell.reservation := by
  obtain ⟨xs, claims, -, -, -, claimed⟩ := claimsMade_claimLoop Config.cellQueueSize s
  obtain ⟨i, e, kept⟩ := idleUpkeep_eq (claimLoop Config.cellQueueSize s)
  have same : (idleUpkeep (claimLoop Config.cellQueueSize s)).cell.reservation = s.cell.reservation := by
    rw [kept, claimed]
    rfl
  rw [cellUpkeep, wantedTest, same, if_neg (by simp [held]), same]

/-- A search under way is not touched by the end of an event (R75). -/
theorem settle_reservation {before : State} (held : s.cell.reservation ≠ .none) :
    (settle before s).cell.reservation = s.cell.reservation := by
  obtain ⟨r, asked, -, -, -, asks⟩ := settleHolds_eq before s
  have same : (settleHolds before s).cell = s.cell := by rw [asks]; rfl
  have cell : (settleCell before (settleHolds before s)).cell.reservation = s.cell.reservation := by
    have upkept : (cellUpkeep (settleHolds before s)).cell.reservation = s.cell.reservation := by
      rw [cellUpkeep_reservation (by rw [same]; exact held), same]
    by_cases on : (settleHolds before s).isActive = true ∧ (settleHolds before s).start.role = .cell
    · obtain ⟨sends, keeps⟩ := settleCell_of_active before on.1 on.2
      by_cases due : permitDue before (settleHolds before s)
      · rw [sends due, sendPermit_eq]
        exact upkept
      · rw [keeps due, upkept]
    · rw [settleCell_of_idle before on, same]
  obtain ⟨fs, m, o, -, -, -, handled⟩ := settleHandler_eq before (settleCell before (settleHolds before s))
  rw [settle, handled, ← cell]
  rfl

@[simp] theorem settle_binding (before s : State) : (settle before s).cell.binding = s.cell.binding := by
  rw [settle_cell]
@[simp] theorem settle_ready (before s : State) : (settle before s).cell.ready = s.cell.ready := by
  rw [settle_cell]
@[simp] theorem settle_permitTimer (before s : State) : (settle before s).cell.permitTimer = s.cell.permitTimer := by
  rw [settle_cell]

theorem settle_handler_rel (before s : State) : (settle before s).handler.rel = s.handler.rel := by
  obtain ⟨_, settled, -⟩ := settle_settledBy before s
  rw [settled.handler]

/-! ## A BEACON at the cell -/

/-- The copies of a handler as its BEACON gives them. -/
def refreshed (n : Nat) (k : BeaconBlock) (c : Cell) : Cell :=
  match k with
  | .handler _ _ kit lo hi sites mask =>
    { c with
      binding := if c.binding.state ≠ .none ∧ c.binding.handler = n then
          { c.binding with fit := { kit := kit, tempMin := lo, tempMax := hi, sites := sites }, mask := mask }
        else c.binding,
      reservation := match c.reservation with
        | .reserved m f d =>
          if m = n then .reserved m { kit := kit, tempMin := lo, tempMax := hi, sites := sites } d else .reserved m f d
        | r => r }
  | _ => c

theorem refreshCopies_eq (n : Nat) (k : BeaconBlock) (s : State) :
    refreshCopies n k s = s.setCell (refreshed n k s.cell) := by
  cases k with
  | handler st c kit lo hi sites mask =>
    simp only [refreshCopies, refreshed]
    by_cases bound : s.cell.binding.state ≠ .none ∧ s.cell.binding.handler = n
    · rw [if_pos bound, if_pos bound]
      cases search : s.cell.reservation with
      | reserved m f d => by_cases same : m = n <;> simp [setBinding, search, same, setReservation]
      | _ => simp [setBinding, search]
    · rw [if_neg bound, if_neg bound]
      cases search : s.cell.reservation with
      | reserved m f d =>
        by_cases same : m = n
        · simp only [if_pos same]
          rfl
        · simp only [if_neg same, ← search]
          rfl
      | _ => simp only [← search]; rfl
  | _ => rfl

/-- What the BEACON of a handler leads to at an ACTIVE CELL. -/
theorem cellBeacon_eq (n : Nat) (k : BeaconBlock) (s : State) : cellBeacon n k s =
    if s.isActive ∧ (refreshed n k s.cell).binding.handler = n then
      match (refreshed n k s.cell).binding.state with
      | .bound => if beaconAgrees s.own k then s.setCell (refreshed n k s.cell)
        else rebind .bound (s.setCell (refreshed n k s.cell))
      | .orphaned => rebind .orphaned (s.setCell (refreshed n k s.cell))
      | .none | .binding => s.setCell (refreshed n k s.cell)
    else s.setCell (refreshed n k s.cell) := by
  rw [cellBeacon, refreshCopies_eq] <;> rfl

/-- The cell once its binding has gone back to BINDING. -/
def reboundCell (prev : BindState) (moment : Nat) (c : Cell) : Cell :=
  { c with
    binding := { c.binding with state := .binding, prev := prev, first := false, timer := some moment },
    ready := false, permitTimer := none }

theorem rebind_eq (prev : BindState) (s : State) : rebind prev s =
    (s.setCell (reboundCell prev (s.now + s.start.config.bindTimeout) s.cell)).setLink
      (s.link.posts [frameTo s.cell.binding.handler (.bindReq 0)]) := by
  rw [rebind, sendTo_eq]
  rfl

/-- What a BEACON comes to at a cell: its copies, and perhaps a rebind. -/
theorem cellBeacon_cases (n : Nat) (k : BeaconBlock) (s : State) :
    cellBeacon n k s = s.setCell (refreshed n k s.cell) ∨
      (refreshed n k s.cell).binding.handler = n ∧ ∃ prev,
        cellBeacon n k s = rebind prev (s.setCell (refreshed n k s.cell)) := by
  rw [cellBeacon_eq]
  split
  · next mine =>
    split
    · split
      · exact .inl rfl
      · exact .inr ⟨mine.2, _, rfl⟩
    · exact .inr ⟨mine.2, _, rfl⟩
    · exact .inl rfl
    · exact .inl rfl
  · exact .inl rfl

theorem refreshed_handler (n : Nat) (k : BeaconBlock) (c : Cell) :
    (refreshed n k c).binding.handler = c.binding.handler ∧ (refreshed n k c).binding.state = c.binding.state ∧
      (refreshed n k c).queue = c.queue ∧ (c.binding.handler ≠ n → (refreshed n k c).binding = c.binding) := by
  cases k with
  | handler st h kit lo hi sites mask =>
    simp only [refreshed]
    split
    · next mine => exact ⟨rfl, rfl, trivial, fun other => absurd mine.2 other⟩
    · exact ⟨rfl, rfl, trivial, fun _ => rfl⟩
  | _ => exact ⟨rfl, rfl, rfl, fun _ => rfl⟩

/-- The state in which a BEACON reaches the cell. -/
def noted (h : Header) (b : BeaconBody) (s : State) : State :=
  updatePeer h.source (fun e => { e with beacon := some b, beaconSince := true }) (heard h s)

theorem deliverBeacon_eq (h : Header) (b : BeaconBody) (s : State) : ∃ r asked, asked.length ≤ 1 ∧
    ∃ w, w = (setResync r (noted h b s)).setLink ((noted h b s).link.posts asked) ∧
    deliverBeacon h.source b (heard h s) =
      if s.isLive = true ∧ s.start.role = .cell then cellBeacon h.source b.block w else w := by
  obtain ⟨r, asked, one, -, tested⟩ := resyncTest_eq (noted h b s)
  refine ⟨r, asked, one, _, rfl, ?_⟩
  have recorded : recordBeacon h.source b (heard h s) = _ := tested
  rw [deliverBeacon, recorded]
  simp only [State.isRole, Bool.and_eq_true, beq_iff_eq]
  rfl

/-- All that a BEACON changes beside the resync record: its peer's entry, the cell and the transmit queue. -/
theorem deliverBeacon_cases (h : Header) (b : BeaconBody) (s : State) : ∃ r c fs,
    deliverBeacon h.source b (heard h s) =
      ((setResync r (noted h b s)).setCell c).setLink ((noted h b s).link.posts fs) ∧
    c.queue = s.cell.queue ∧ (s.cell.binding.handler ≠ h.source → c.binding = s.cell.binding) := by
  obtain ⟨r, asked, -, w, rfl, delivered⟩ := deliverBeacon_eq h b s
  obtain ⟨-, -, queue, other⟩ := refreshed_handler h.source b.block s.cell
  rw [delivered]
  split
  · rcases cellBeacon_cases h.source b.block ((setResync r (noted h b s)).setLink ((noted h b s).link.posts asked)) with
      same | ⟨mine, prev, rebound⟩
    · exact ⟨r, refreshed h.source b.block s.cell, asked, by rw [same]; rfl, queue, other⟩
    · refine ⟨r, reboundCell prev (s.now + s.start.config.bindTimeout) (refreshed h.source b.block s.cell),
        asked ++ [frameTo (refreshed h.source b.block s.cell).binding.handler (.bindReq 0)], ?_, queue, fun away => ?_⟩
      · rw [rebound, rebind_eq, posts_append]
        rfl
      · have mine : (refreshed h.source b.block s.cell).binding.handler = h.source := mine
        rw [other away] at mine
        exact absurd mine away
  · exact ⟨r, s.cell, asked, rfl, rfl, fun _ => rfl⟩

theorem posts_last (l : Link) (fs : List QFrame) : (l.posts fs).last = l.last := by
  obtain ⟨more, -, grown, -⟩ := grows_posts l fs
  rw [grown.eq]

theorem settle_last (before s : State) : (settle before s).link.last = s.link.last := by
  obtain ⟨more, l, same, -⟩ := settle_link before s
  rw [same]

theorem mem_settle_queue {before : State} {f : QFrame} (mem : f ∈ s.link.queue) : f ∈ (settle before s).link.queue := by
  obtain ⟨more, l, same, -⟩ := settle_link before s
  rw [same]
  exact List.mem_append_left more mem

theorem afterTransmission_tx {l : Link} {n : Nat} (on : l.tx ≠ .off) : (l.afterTransmission n).tx ≠ .off := by
  simp only [Link.afterTransmission, txAfterCarrier, restingTx]
  split
  · split
    · split <;> decide
    · exact on
  all_goals exact on

theorem source_of_addressOk {h : Header} {p : Payload} (addr : addressOk h p = true) : 1 ≤ h.source ∧ h.source ≤ 40 := by
  rw [addressOk, Bool.and_eq_true, Bool.and_eq_true, stationOk, within_iff] at addr
  exact addr.1.2

theorem updatePeer_peers {n : Nat} {f : PeerEntry → PeerEntry} (low : 1 ≤ n) : (updatePeer n f s).peers =
    { s.peers with table := s.peers.table.set (n - 1) (f (peerAt s.peers n)) } := by
  rw [updatePeer, modifyAt_eq_set _ PeerEntry.reset, peerAt_of_low low]
  rfl

theorem noted_peers {h : Header} {b : BeaconBody} (low : 1 ≤ h.source) (high : h.source ≤ s.peers.table.length) :
    (noted h b s).peers = { s.peers with table := s.peers.table.set (h.source - 1) { peerAt s.peers h.source with
      presence := .present, fresh := h.fresh, lastHeard := some s.clock, beacon := some b, beaconSince := true,
      lossTimer := some (s.now + 3 * (s.start.config.beaconInterval * 1000)) } } := by
  rw [noted, updatePeer_peers low, heard, updatePeer_peers low, State.setLink_peers, peerAt_set_same low high]
  simp only [List.set_set]
  rfl

theorem cellBeacon_reservation (n : Nat) (k : BeaconBlock) (s : State) :
    (cellBeacon n k s).cell.reservation = (refreshed n k s.cell).reservation := by
  rcases cellBeacon_cases n k s with same | ⟨-, prev, rebound⟩
  · rw [same]
    rfl
  · rw [rebound, rebind_eq]
    rfl

/-- Settles O30. -/
theorem beaconsAreRecorded : Obligations.BeaconsAreRecorded := by
  intro h b s arrives sizes
  obtain ⟨table, -⟩ := sizes
  obtain ⟨running, -, addr, -⟩ := id arrives
  obtain ⟨low, high⟩ := source_of_addressOk addr
  have runs : exec (.beacon h b) s = .next (settle s (deliverBeacon h.source b (heard h s))) :=
    congrArg Host.Outcome.next (arrives_delivers arrives)
  obtain ⟨r, c, fs, delivered, queue, other⟩ := deliverBeacon_cases h b s
  refine ⟨_, runs, ?_, fun n away => ?_, ?_, ?_, ?_, ?_, ?_, ?_, ?_, ?_, ?_, fun _ away => ?_,
    fun st c k lo hi n m role active block => ?_⟩
  · rw [settle_peers, delivered, show (((setResync r (noted h b s)).setCell c).setLink _).peers = (noted h b s).peers from rfl,
      noted_peers low (by omega)]
    exact peerAt_set_same low (by omega)
  · rw [settle_peers, delivered, show (((setResync r (noted h b s)).setCell c).setLink _).peers = (noted h b s).peers from rfl,
      noted_peers low (by omega)]
    exact peerAt_set_other low away
  · rw [settle_peers, delivered]
    rfl
  · rw [settle_last, delivered]
    exact posts_last _ _
  · rw [settle_start, delivered]
    rfl
  · rw [settle_stage, delivered]
    rfl
  · rw [settle_pack, delivered]
    rfl
  · rw [settle_limits, delivered]
    rfl
  · rw [settle_records, delivered]
    rfl
  · rw [settle_queue, delivered]
    exact queue
  · rw [settle_handler_rel, delivered]
    rfl
  · rw [settle_binding, delivered]
    exact other away
  · obtain ⟨r, asked, one, w, is, delivered⟩ := deliverBeacon_eq h b s
    intro fit copied rebound
    have live : s.isLive = true := by
      simp only [State.isActive, beq_iff_eq] at active
      simp [State.isLive, active]
    have cell : w.cell = s.cell := by rw [is]; rfl
    have goes : deliverBeacon h.source b (heard h s) = cellBeacon h.source b.block w := by rw [delivered, if_pos ⟨live, role⟩]
    refine ⟨fun f d search => ?_, fun mine => ?_⟩
    · have held : (cellBeacon h.source b.block w).cell.reservation = .reserved h.source fit d := by
        simp [cellBeacon_reservation, cell, block, refreshed, search, fit]
      rw [goes, settle_reservation (by rw [held]; exact fun no => by cases no), held]
    have binding (bound : s.cell.binding.state ≠ .none) : (refreshed h.source b.block w.cell).binding = copied := by
      simp only [cell, block, refreshed, if_pos (And.intro bound mine)]
      rfl
    have cases_ (bound : s.cell.binding.state ≠ .none) : cellBeacon h.source b.block w =
        match s.cell.binding.state with
        | .bound => if beaconAgrees s.own b.block then w.setCell (refreshed h.source b.block w.cell)
          else rebind .bound (w.setCell (refreshed h.source b.block w.cell))
        | .orphaned => rebind .orphaned (w.setCell (refreshed h.source b.block w.cell))
        | .none | .binding => w.setCell (refreshed h.source b.block w.cell) := by
      rw [cellBeacon_eq, binding bound, if_pos ⟨by rw [is]; exact active, mine⟩, is] <;> rfl
    have agrees : beaconAgrees s.own b.block = true ↔
        (st = .binding ∨ st = .bound ∨ st = .orphaned) ∧ c = s.start.number := by
      simp [block, beaconAgrees, State.own, or_assoc]
    have rebinds (prev : BindState) (bound : s.cell.binding.state ≠ .none)
        (goes : deliverBeacon h.source b (heard h s) = rebind prev (w.setCell (refreshed h.source b.block w.cell))) :
        rebound prev := by
      rw [rebind_eq] at goes
      refine ⟨?_, ?_, ?_, fun on room => ?_⟩
      · rw [settle_binding, goes, is]
        exact congrArg (fun b : BindingPart => { b with
          state := .binding, prev := prev, first := false, timer := some (s.now + s.start.config.bindTimeout) })
          (is ▸ binding bound)
      · rw [settle_ready, goes]
        rfl
      · rw [settle_permitTimer, goes]
        rfl
      · refine mem_settle_queue ?_
        have head : (w.setCell (refreshed h.source b.block w.cell)).cell.binding.handler = h.source :=
          (congrArg BindingPart.handler (binding bound)).trans mine
        have asks : w.link = ((s.link.afterTransmission h.source).posts asked) := by rw [is]; rfl
        have few : w.link.queue.length ≤ s.link.queue.length + asked.length := by
          rw [asks]
          exact length_posts_le _ _
        have lit : w.link.tx ≠ .off := by
          rw [asks]
          exact posts_off.not.2 (afterTransmission_tx on)
        rw [goes, head]
        refine (posts_one_queue (f := frameTo h.source (.bindReq 0)) (l := w.link) (by omega) lit).symm ▸ ?_
        exact List.mem_append_right _ (List.mem_singleton.2 rfl)
    refine ⟨fun state => ?_, fun state same own => ?_, fun state differs => ?_, fun state => ?_⟩
    · have bound : s.cell.binding.state ≠ .none := by rw [state]; decide
      rw [settle_binding, goes, cases_ bound, state, ← binding bound]
      rfl
    · have bound : s.cell.binding.state ≠ .none := by rw [state]; decide
      rw [settle_binding, goes, cases_ bound, state, ← binding bound]
      exact congrArg (fun t : State => t.cell.binding) (if_pos (agrees.2 ⟨same, own⟩))
    · have bound : s.cell.binding.state ≠ .none := by rw [state]; decide
      refine rebinds .bound bound ?_
      rw [goes, cases_ bound, state]
      exact if_neg (agrees.not.2 differs)
    · have bound : s.cell.binding.state ≠ .none := by rw [state]; decide
      refine rebinds .orphaned bound ?_
      rw [goes, cases_ bound, state]

end Sys2Proof.Machine
end

section
/-! PROOFS. The hold list: storing, merging and clearing records (R142 to R145). -/
namespace Sys2Proof.Machine

variable {s t u : State}

/-! ## The record an eviction takes -/

/-- Before the one taken stand only elements it is better than. -/
theorem bestBy_split {α : Type} {better : α → α → Bool} {l : List α} {z : α} (best : bestBy better l = some z) :
    ∃ pre post, l = pre ++ z :: post ∧ ∀ x ∈ pre, better z x = true := by
  induction l with
  | nil => simp [bestBy] at best
  | cons x xs ih =>
    rw [bestBy] at best
    split at best
    · cases best
      exact ⟨[], xs, rfl, List.forall_mem_nil _⟩
    · next y found =>
      split at best
      · next ahead =>
        cases best
        obtain ⟨pre, post, rfl, all⟩ := ih found
        exact ⟨x :: pre, post, rfl, List.forall_mem_cons.2 ⟨ahead, all⟩⟩
      · cases best
        exact ⟨[], xs, rfl, List.forall_mem_nil _⟩

theorem keyBefore_asymm {a b : StoredHold} (h : keyBefore a b = true) : keyBefore b a = false := by
  rw [← Bool.not_eq_true]
  intro k
  have self := keyBefore_trans h k
  simp [keyBefore] at self

/-- The CLEARED record cleared earliest, the first of the list among equals. -/
theorem evictable_eq {v : StoredHold} (right : HoldsRight s) (mem : v ∈ s.holds.records)
    (cleared : v.hold.state = .cleared)
    (first : ∀ x ∈ s.holds.records, x.hold.state = .cleared →
      s.age (x.timeCleared.getD 0) < s.age (v.timeCleared.getD 0) ∨
        s.age (x.timeCleared.getD 0) = s.age (v.timeCleared.getD 0) ∧ (x = v ∨ keyBefore v x = true)) :
    evictable s = some v := by
  obtain ⟨sorted, -, -⟩ := right
  have candidate : v ∈ s.holds.records.filter fun r => r.hold.state == .cleared :=
    List.mem_filter.2 ⟨mem, by simp [cleared]⟩
  cases best : evictable s with
  | none =>
    rw [evictable, bestBy_eq_none] at best
    rw [best] at candidate
    cases candidate
  | some z =>
    obtain ⟨held, state⟩ := mem_of_evictable best
    have least := better_bestBy (fun a b h => by simp at h ⊢; omega) (fun a b c h k => by simp at h k ⊢; omega) best v
      candidate
    obtain ⟨pre, post, split, ahead⟩ := bestBy_split best
    have order := sorted.filter fun r => r.hold.state == .cleared
    rw [split] at candidate order
    rcases List.mem_append.1 candidate with before | after
    · have older := ahead v before
      have := first z held state
      simp at older
      omega
    · rcases List.mem_cons.1 after with same | later
      · rw [same]
      · have behind : keyBefore z v = true := (List.pairwise_cons.1 (List.pairwise_append.1 order).2.1).1 v later
        have := first z held state
        simp at least
        rcases this with younger | ⟨-, same | ahead⟩
        · omega
        · rw [same]
        · rw [keyBefore_asymm ahead] at behind
          cases behind

theorem evictable_none (force : ∀ x ∈ s.holds.records, x.hold.state = .inForce) : evictable s = none := by
  rw [evictable, bestBy_eq_none, List.filter_eq_nil_iff]
  intro x mem
  simp [force x mem]

/-! ## Storing -/

theorem storeNew_of_room {r : StoredHold} (room : s.holds.records.length < 24) :
    storeNew r s = some (setRecords (insertBy keyBefore r s.holds.records) s) := if_pos room

theorem storeNew_of_evictable {r v : StoredHold} (full : 24 ≤ s.holds.records.length) (evicts : evictable s = some v) :
    storeNew r s =
      some (setRecords (insertBy keyBefore r (s.holds.records.filter fun x => !sameKey x.hold v.hold)) s) := by
  rw [storeNew, if_neg (show ¬_ < Config.holdSize from Nat.not_lt.2 full), evicts]

theorem storeNew_of_full {r : StoredHold} (full : 24 ≤ s.holds.records.length)
    (force : ∀ x ∈ s.holds.records, x.hold.state = .inForce) : storeNew r s = none := by
  rw [storeNew, if_neg (show ¬_ < Config.holdSize from Nat.not_lt.2 full), evictable_none force]

theorem enterOverflow_of_in (over_ : s.holds.overflow = true) : enterOverflow s = s := if_pos over_

theorem enterOverflow_of_out (out : s.holds.overflow = false) (room : s.port.events.length < 32) :
    enterOverflow s = (s.setHolds { s.holds with overflow := true }).setPort { s.port with
      events := s.port.events ++ [{ event := .holdOverflow true (inForceCount s.holds.records), time := s.clock }] } := by
  rw [enterOverflow, if_neg (by simp [out]), raise_of_room (by exact room)]
  rfl

theorem enterOverflow_holds (s : State) : (enterOverflow s).holds = { s.holds with overflow := true } := by
  cases over_ : s.holds.overflow with
  | true => rw [enterOverflow_of_in over_, ← over_]
  | false => rw [enterOverflow, if_neg (by simp [over_]), raise_holds]; rfl

theorem leaveOverflow_holds (s : State) : (leaveOverflow s).holds =
    { s.holds with overflow := s.holds.overflow && decide (20 < inForceCount s.holds.records) } := by
  unfold leaveOverflow Config.overflowEnd
  split
  · next leaves =>
    rw [raise_holds]
    simp only [Bool.and_eq_true, decide_eq_true_eq] at leaves
    simp [leaves]
  · next stays =>
    simp only [Bool.and_eq_true, decide_eq_true_eq, not_and, Nat.not_le] at stays
    cases over_ : s.holds.overflow with
    | true => simp [stays over_, ← over_]
    | false => rw [Bool.false_and, ← over_]

theorem leaveOverflow_events (room : s.port.events.length < 32) : (leaveOverflow s).port.events = s.port.events ++
    (if s.holds.overflow = true ∧ inForceCount s.holds.records ≤ 20
      then [{ event := .holdOverflow false (inForceCount s.holds.records), time := s.clock }] else []) := by
  unfold leaveOverflow Config.overflowEnd
  simp only [Bool.and_eq_true, decide_eq_true_eq]
  split
  · rw [raise_of_room (by exact room)]
    rfl
  · exact (List.append_nil _).symm

/-! ## Merging (R142) -/

theorem mergeReplaces_iff {old new : HoldRec} : mergeReplaces old new = true ↔
    genNewer new.generation old.generation = true ∨
      new.generation = old.generation ∧ old.state = .inForce ∧ (new.state = .cleared ∨ new.origin < old.origin) := by
  simp [mergeReplaces, and_assoc]

/-- The list with a received record in the place of the stored one. -/
def replacedBy (r : HoldRec) (s : State) : State := setRecords (replaceRecord (stamp r s) s.holds.records) s

theorem mergeHold_of_stored {r : HoldRec} (fresh : findHold s.holds r.scope r.key = none)
    (stores : storeNew (stamp r s) s = some u) :
    mergeHold r s = if r.state = .inForce then (raise (placedEvent r) u, [{ scope := r.scope, key := r.key, added := true }])
      else (u, []) := by
  simp only [mergeHold, fresh, stores]

theorem mergeHold_of_full {r : HoldRec} (fresh : findHold s.holds r.scope r.key = none)
    (stores : storeNew (stamp r s) s = none) : mergeHold r s = (enterOverflow s, []) := by
  simp only [mergeHold, fresh, stores]

section
variable {r : HoldRec} {old : StoredHold} (found : findHold s.holds r.scope r.key = some old)
include found

theorem mergeHold_of_kept (kept : mergeReplaces old.hold r = false) : mergeHold r s = (s, []) := by
  simp only [mergeHold, found, kept, Bool.false_eq_true, if_false]

theorem mergeHold_of_replaced (replaces : mergeReplaces old.hold r = true) : mergeHold r s =
    match old.hold.state, r.state with
    | .inForce, .inForce => (replacedBy r s, [{ scope := r.scope, key := r.key, added := true }])
    | .inForce, .cleared => (leaveOverflow (raise (.holdCleared r.scope r.key r.generation .none) (replacedBy r s)),
        [{ scope := r.scope, key := r.key, added := false }])
    | .cleared, .inForce => (raise (placedEvent r) (replacedBy r s), [{ scope := r.scope, key := r.key, added := true }])
    | .cleared, .cleared => (replacedBy r s, []) := by
  simp only [mergeHold, found, replaces, if_true] <;> rfl

theorem mergeHold_of_cleared (replaces : mergeReplaces old.hold r = true) (force : old.hold.state = .inForce)
    (cleared : r.state = .cleared) : (mergeHold r s).1 =
      leaveOverflow (raise (.holdCleared r.scope r.key r.generation .none) (replacedBy r s)) := by
  rw [mergeHold_of_replaced found replaces, force, cleared]

theorem mergeHold_records (replaces : mergeReplaces old.hold r = true) : (mergeHold r s).1.holds.records =
      replaceRecord (stamp r s) s.holds.records ∧
    (mergeHold r s).1.holds.digest = digestOf (replaceRecord (stamp r s) s.holds.records) := by
  cases before : old.hold.state with
  | inForce =>
    cases after : r.state with
    | inForce =>
      rw [mergeHold_of_replaced found replaces, before, after]
      exact ⟨rfl, rfl⟩
    | cleared =>
      rw [mergeHold_of_cleared found replaces before after, leaveOverflow_holds, raise_holds]
      exact ⟨rfl, rfl⟩
  | cleared =>
    cases after : r.state with
    | inForce =>
      rw [mergeHold_of_replaced found replaces, before, after, raise_holds]
      exact ⟨rfl, rfl⟩
    | cleared =>
      rw [mergeHold_of_replaced found replaces, before, after]
      exact ⟨rfl, rfl⟩

end

/-- Settles O34. -/
theorem holdRecordsAreMerged : Obligations.HoldRecordsAreMerged := by
  intro r s room new placed m
  have stores {rs : List StoredHold} (fresh : findHold s.holds r.scope r.key = none)
      (stored : storeNew (stamp r s) s = some (setRecords rs s)) : m.holds.records = rs ∧
        m.holds.digest = digestOf m.holds.records ∧ m.holds.overflow = s.holds.overflow ∧
        m.port.events = s.port.events ++ (if r.state = .inForce then [placed] else []) := by
    by_cases force : r.state = .inForce
    · have is : m = raise (placedEvent r) (setRecords rs s) := by
        rw [show m = (mergeHold r s).1 from rfl, mergeHold_of_stored fresh stored, if_pos force]
      rw [is, raise_of_room (by exact (Nat.lt_succ_of_lt room)), if_pos force]
      exact ⟨rfl, rfl, rfl, rfl⟩
    · have is : m = setRecords rs s := by
        rw [show m = (mergeHold r s).1 from rfl, mergeHold_of_stored fresh stored, if_neg force]
      rw [is, if_neg force]
      exact ⟨rfl, rfl, rfl, (List.append_nil _).symm⟩
  refine ⟨fun fresh short => ?_, fun fresh full force => ?_, fun v mem fresh full right cleared first => ?_,
    fun old found force cleared newer => ?_, fun old found newer => ⟨?_, ?_, fun before after => ?_, fun same => ?_⟩,
    fun old found older kept => ?_⟩
  · obtain ⟨records, digest, -, events⟩ := stores fresh (storeNew_of_room short)
    exact ⟨records, digest, events⟩
  · have is : m = enterOverflow s := congrArg Prod.fst (mergeHold_of_full fresh (storeNew_of_full full force))
    rw [is]
    exact ⟨enterOverflow_holds s, enterOverflow_of_in, fun out => by rw [enterOverflow_of_out out (by omega)]; rfl⟩
  · exact stores fresh (storeNew_of_evictable full (evictable_eq right mem cleared first))
  · have is : m = leaveOverflow (raise (.holdCleared r.scope r.key r.generation .none) (replacedBy r s)) :=
      mergeHold_of_cleared found (mergeReplaces_iff.2 (newer.imp_right fun same => ⟨same, force, .inl cleared⟩)) force cleared
    have raised : raise (.holdCleared r.scope r.key r.generation .none) (replacedBy r s) = _ :=
      raise_of_room (by exact Nat.lt_succ_of_lt room)
    intro n
    have count : inForceCount (replacedBy r s).holds.records = n := by
      rw [show n = inForceCount m.holds.records from rfl, is, leaveOverflow_holds, raise_holds]
    rw [is, leaveOverflow_holds, raised, leaveOverflow_events (by simp [replacedBy, setRecords]; omega), ← count]
    exact ⟨rfl, List.append_assoc _ _ _⟩
  · exact (mergeHold_records found (mergeReplaces_iff.2 newer)).1
  · obtain ⟨records, digest⟩ := mergeHold_records found (mergeReplaces_iff.2 newer)
    exact digest.trans (congrArg digestOf records.symm)
  · have is : m = raise (placedEvent r) (replacedBy r s) := by
      rw [show m = (mergeHold r s).1 from rfl, mergeHold_of_replaced found (mergeReplaces_iff.2 newer), before, after]
    rw [is, raise_of_room (by exact (Nat.lt_succ_of_lt room))]
    rfl
  · have is : m = replacedBy r s := by
      rw [show m = (mergeHold r s).1 from rfl, mergeHold_of_replaced found (mergeReplaces_iff.2 newer), same]
      cases r.state <;> rfl
    rw [is]
    rfl
  · refine congrArg Prod.fst (mergeHold_of_kept found ?_)
    rw [← Bool.not_eq_true, mergeReplaces_iff, older]
    simpa using kept

end Sys2Proof.Machine
end

section
/-! PROOFS. Generations never go back, and the four outcomes of a CLEAR (R138, R143). -/
namespace Sys2Proof.Machine

variable {s t u : State} {sc : Scope} {key g : Nat}

/-! ## The order of generations -/

theorem genNewer_self (a : Nat) : genNewer a a = false := by
  rw [← Bool.not_eq_true, genNewer_iff]
  omega

theorem genNewer_asymm {a b : Nat} (h : genNewer a b = true) : genNewer b a = false := by
  rw [genNewer_iff] at h
  rw [← Bool.not_eq_true, genNewer_iff]
  omega

/-! ## What an operation of the list leaves under a key -/

/-- Under every key that had a record, the list has that record, none, or one whose generation is not older. -/
def NotOlder (rs us : List StoredHold) : Prop :=
  ∀ old ∈ rs, ∀ new ∈ us, old.hold.scope = new.hold.scope → old.hold.key = new.hold.key →
    genNewer old.hold.generation new.hold.generation = false

theorem notOlder_refl {rs : List StoredHold} (sorted : rs.Pairwise (fun a b => keyBefore a b = true)) :
    NotOlder rs rs := fun old mo new mn scope key => by
  rw [eq_of_sameKey sorted mo mn scope key]
  exact genNewer_self _

theorem notOlder_insert {rs us : List StoredHold} {r : StoredHold}
    (sorted : rs.Pairwise (fun a b => keyBefore a b = true)) (part : ∀ x ∈ us, x ∈ rs)
    (fresh : ∀ x ∈ rs, ¬(x.hold.scope = r.hold.scope ∧ x.hold.key = r.hold.key)) :
    NotOlder rs (insertBy keyBefore r us) := fun old mo new mn scope key => by
  rcases (mem_insertBy _ _ _ _).1 mn with rfl | mn
  · exact absurd ⟨scope, key⟩ (fresh old mo)
  · exact notOlder_refl sorted old mo new (part new mn) scope key

theorem notOlder_storeNew {r : StoredHold} (right : HoldsRight s) (stores : storeNew r s = some u)
    (fresh : findHold s.holds r.hold.scope r.hold.key = none) : NotOlder s.holds.records u.holds.records := by
  obtain ⟨sorted, -, -⟩ := right
  have absent := findHold_eq_none.1 fresh
  unfold storeNew at stores
  split at stores
  · cases stores
    exact notOlder_insert sorted (fun _ mem => mem) absent
  · split at stores
    · cases stores
      exact notOlder_insert sorted (fun _ mem => (List.mem_filter.1 mem).1) absent
    · cases stores

theorem notOlder_replaceRecord {r old : StoredHold} (right : HoldsRight s)
    (found : findHold s.holds r.hold.scope r.hold.key = some old)
    (newer : genNewer old.hold.generation r.hold.generation = false) :
    NotOlder s.holds.records (replaceRecord r s.holds.records) := fun x mx new mn scope key => by
  obtain ⟨sorted, -, -⟩ := right
  obtain ⟨mem, scope', key'⟩ := findHold_eq_some found
  obtain ⟨y, my, rfl⟩ := List.mem_map.1 mn
  by_cases same : sameKey y.hold r.hold = true
  · rw [if_pos same] at scope key ⊢
    rwa [eq_of_sameKey sorted mx mem (scope.trans scope'.symm) (key.trans key'.symm)]
  · rw [if_neg same] at scope key ⊢
    rw [eq_of_sameKey sorted mx my scope key]
    exact genNewer_self _

theorem notOlder_mergeHold {r : HoldRec} (right : HoldsRight s) :
    NotOlder s.holds.records (mergeHold r s).1.holds.records := by
  cases found : findHold s.holds r.scope r.key with
  | none =>
    cases stores : storeNew (stamp r s) s with
    | none =>
      rw [mergeHold_of_full found stores, enterOverflow_holds]
      exact notOlder_refl right.1
    | some u =>
      have kept := notOlder_storeNew right stores found
      rw [mergeHold_of_stored found stores]
      split
      · rw [raise_holds]
        exact kept
      · exact kept
  | some old =>
    cases replaces : mergeReplaces old.hold r with
    | false =>
      rw [mergeHold_of_kept found replaces]
      exact notOlder_refl right.1
    | true =>
      rw [(mergeHold_records found replaces).1]
      refine notOlder_replaceRecord right found ?_
      rcases mergeReplaces_iff.1 replaces with newer | ⟨same, -⟩
      · exact genNewer_asymm newer
      · rw [← same]
        exact genNewer_self _

/-! ## Clearing (R143) -/

theorem clearOutcome_of_some {old : StoredHold} (found : findHold s.holds sc key = some old) :
    clearOutcome s.holds sc key g =
      if old.hold.state = .inForce then (if genNewer old.hold.generation g then .stale else .applied)
      else if old.hold.generation = g || genNewer old.hold.generation g then .stale
      else .advanced := by
  simp only [clearOutcome, found]

/-- The list with the stored record made CLEARED. -/
def clearedBy (old : HoldRec) (g : Nat) (s : State) : State :=
  setRecords (replaceRecord (clearRecord old g s) s.holds.records) s

section
variable {d : Disposition} {n : Nat}

theorem applyClear_of_applied {old : StoredHold} (found : findHold s.holds sc key = some old)
    (outcome : clearOutcome s.holds sc key g = .applied) : applyClear sc key g d n s =
      (leaveOverflow (raise (.holdCleared sc key g d) (clearedBy old.hold g s)),
        [{ scope := sc, key := key, added := false }]) := by
  simp only [applyClear, outcome, found, clearedBy]

theorem applyClear_of_advanced {old : StoredHold} (found : findHold s.holds sc key = some old)
    (outcome : clearOutcome s.holds sc key g = .advanced) :
    applyClear sc key g d n s = (clearedBy old.hold g s, []) := by
  simp only [applyClear, outcome, found, clearedBy]

theorem applyClear_of_stale (outcome : clearOutcome s.holds sc key g = .stale) :
    applyClear sc key g d n s = (s, []) := by
  simp only [applyClear, outcome]

theorem applyClear_of_tombstone (fresh : findHold s.holds sc key = none)
    (stores : storeNew (stamp (tombstoneRec sc key g n) s) s = some u) : applyClear sc key g d n s = (u, []) := by
  simp only [applyClear, clearOutcome_tombstone.2 fresh, stores]

theorem applyClear_of_full (fresh : findHold s.holds sc key = none)
    (stores : storeNew (stamp (tombstoneRec sc key g n) s) s = none) :
    applyClear sc key g d n s = (enterOverflow s, []) := by
  simp only [applyClear, clearOutcome_tombstone.2 fresh, stores]

theorem notOlder_applyClear (right : HoldsRight s) :
    NotOlder s.holds.records (applyClear sc key g d n s).1.holds.records := by
  cases found : findHold s.holds sc key with
  | none =>
    cases stores : storeNew (stamp (tombstoneRec sc key g n) s) s with
    | none =>
      rw [applyClear_of_full found stores, enterOverflow_holds]
      exact notOlder_refl right.1
    | some u =>
      rw [applyClear_of_tombstone found stores]
      exact notOlder_storeNew right stores found
  | some old =>
    have replaced (newer : genNewer old.hold.generation g = false) :
        NotOlder s.holds.records (clearedBy old.hold g s).holds.records := by
      obtain ⟨-, scope, key⟩ := findHold_eq_some found
      exact notOlder_replaceRecord (r := clearRecord old.hold g s) right
        (by rw [← found]; simp [clearRecord, scope, key]) newer
    cases outcome : clearOutcome s.holds sc key g with
    | stale =>
      rw [applyClear_of_stale outcome]
      exact notOlder_refl right.1
    | tombstone => rw [clearOutcome_tombstone.1 outcome] at found; cases found
    | applied =>
      rw [applyClear_of_applied found outcome, leaveOverflow_holds, raise_holds]
      refine replaced ?_
      rw [clearOutcome_of_some found] at outcome
      split at outcome
      · split at outcome
        · cases outcome
        · next newer => simpa using newer
      · split at outcome <;> cases outcome
    | advanced =>
      rw [applyClear_of_advanced found outcome]
      refine replaced ?_
      rw [clearOutcome_of_some found] at outcome
      split at outcome
      · split at outcome <;> cases outcome
      · split at outcome
        · cases outcome
        · next newer => exact (by simpa using newer : _ ∧ genNewer old.hold.generation g = false).2

end

theorem announce_holds (r : HoldRec) (s : State) : (announce r s).holds = s.holds := by
  rw [announce, raise_holds]
  split <;> simp

theorem notOlder_placeCore {k : Nat} {rs : HoldReason} {dt tr : Nat} (right : HoldsRight s)
    (small : ∀ x ∈ s.holds.records, x.hold.generation < 65536) :
    NotOlder s.holds.records (placeCore sc k rs dt tr s).1.holds.records := by
  unfold placeCore
  split
  · next old found =>
    split
    · exact notOlder_refl right.1
    · rw [announce_holds]
      obtain ⟨mem, scope, key⟩ := findHold_eq_some found
      have low := small old mem
      exact notOlder_replaceRecord (r := stamp (placedRec s sc k (genSucc old.hold.generation) rs dt tr) s) right found
        (genNewer_asymm (genNewer_genSucc (by omega)))
  · next fresh =>
    dsimp only
    split
    · next u stores =>
      rw [announce_holds]
      exact notOlder_storeNew right stores fresh
    · rw [enterOverflow_holds, announce_holds]
      exact notOlder_refl right.1

/-- Settles O33. -/
theorem generationsNeverGoBack : Obligations.GenerationsNeverGoBack := by
  intro s t sc key old new right small found now did
  obtain ⟨mo, scope, key'⟩ := findHold_eq_some found
  obtain ⟨mn, scope', key''⟩ := findHold_eq_some now
  have kept : NotOlder s.holds.records t.holds.records := by
    rcases did with ⟨r, -, rfl⟩ | ⟨sc', k, g, d, n, -, rfl⟩ | ⟨sc', k, rs, dt, tr, rfl⟩
    · exact notOlder_mergeHold right
    · exact notOlder_applyClear right
    · exact notOlder_placeCore right small
  exact kept old mo new mn (scope.trans scope'.symm) (key'.trans key''.symm)

/-- Where the records of a list of one key are those replaced. -/
theorem replaceRecord_clearRecord {r : StoredHold} (right : HoldsRight s) (found : findHold s.holds sc key = some r) :
    replaceRecord (clearRecord r.hold g s) s.holds.records = s.holds.records.map fun x =>
      if x.hold.scope = sc ∧ x.hold.key = key
      then { hold := { x.hold with state := .cleared, generation := g }, timeCleared := some s.clock } else x := by
  obtain ⟨mem, scope, key'⟩ := findHold_eq_some found
  refine List.map_congr_left fun x mx => ?_
  have named : sameKey x.hold (clearRecord r.hold g s).hold = true ↔ x.hold.scope = sc ∧ x.hold.key = key := by
    simp [sameKey_iff, clearRecord, scope, key']
  by_cases same : x.hold.scope = sc ∧ x.hold.key = key
  · rw [if_pos (named.2 same), if_pos same,
      eq_of_sameKey right.1 mx mem (same.1.trans scope.symm) (same.2.trans key'.symm)]
    rfl
  · rw [if_neg (named.not.2 same), if_neg same]

/-- Settles O35. -/
theorem clearsHaveFourOutcomes : Obligations.ClearsHaveFourOutcomes := by
  intro sc key g n d s c stored
  refine ⟨fun fresh short => ?_, fun v mem right fresh full cleared first => ?_, fun fresh full force => ?_,
    fun r right found force newer => ?_, fun r right found cleared other newer => ?_, fun r found newer => ?_,
    fun r found cleared same => ?_⟩
  · have is : c = _ := congrArg Prod.fst (applyClear_of_tombstone fresh (storeNew_of_room short))
    rw [is]
    exact ⟨clearOutcome_tombstone.2 fresh, rfl, rfl, rfl, rfl⟩
  · have is : c = _ := congrArg Prod.fst (applyClear_of_tombstone fresh
      (storeNew_of_evictable full (evictable_eq right mem cleared first)))
    rw [is]
    exact ⟨clearOutcome_tombstone.2 fresh, rfl, rfl, rfl, rfl⟩
  · have is : c = enterOverflow s := congrArg Prod.fst (applyClear_of_full fresh (storeNew_of_full full force))
    rw [is]
    exact ⟨clearOutcome_tombstone.2 fresh, enterOverflow_holds s, enterOverflow_of_in,
      fun out room => by rw [enterOverflow_of_out out room]; rfl⟩
  · have outcome : clearOutcome s.holds sc key g = .applied := by simp [clearOutcome_of_some found, force, newer]
    have is : c = leaveOverflow (raise (.holdCleared sc key g d) (clearedBy r.hold g s)) :=
      congrArg Prod.fst (applyClear_of_applied found outcome)
    have records : c.holds.records = (clearedBy r.hold g s).holds.records := by rw [is, leaveOverflow_holds, raise_holds]
    refine ⟨outcome, records.trans (replaceRecord_clearRecord right found), ?_, fun room => ?_⟩
    · rw [records, is, leaveOverflow_holds, raise_holds]
      rfl
    · rw [records, is, raise_of_room (by exact Nat.lt_succ_of_lt room),
        leaveOverflow_events (by simp [clearedBy, setRecords]; omega)]
      exact List.append_assoc _ _ _
  · have outcome : clearOutcome s.holds sc key g = .advanced := by
      simp [clearOutcome_of_some found, cleared, newer, other]
    have is : c = clearedBy r.hold g s := congrArg Prod.fst (applyClear_of_advanced found outcome)
    exact ⟨outcome, by rw [is]; exact replaceRecord_clearRecord right found, by rw [is]; rfl⟩
  · have outcome : clearOutcome s.holds sc key g = .stale := by simp [clearOutcome_of_some found, newer]
    exact ⟨outcome, congrArg Prod.fst (applyClear_of_stale outcome)⟩
  · have outcome : clearOutcome s.holds sc key g = .stale := by simp [clearOutcome_of_some found, cleared, same]
    exact ⟨outcome, congrArg Prod.fst (applyClear_of_stale outcome)⟩

end Sys2Proof.Machine
end

section
/-! PROOFS. HOLD, CLEAR and HOLD-LIST-REQ as they arrive (R142, R143, R147, R151). -/
namespace Sys2Proof.Machine

variable {s t u : State} {h : Header} {sc : Scope} {key g n : Nat} {d : Disposition}

/-! ## What a frame that arrives comes to -/

theorem exec_hold {r : HoldRec} (arrives : Arrives h (.hold r) s) (is : deliverHold r (heard h s) = t) :
    exec (.hold h r) s = .next (settle s t) :=
  (congrArg Host.Outcome.next (arrives_delivers arrives)).trans (congrArg _ (congrArg _ is))

theorem exec_clear (arrives : Arrives h (.clear sc key g d n) s) (is : deliverClear sc key g d n (heard h s) = t) :
    exec (.clear h sc key g d n) s = .next (settle s t) :=
  (congrArg Host.Outcome.next (arrives_delivers arrives)).trans (congrArg _ (congrArg _ is))

theorem exec_holdListReq {i : Nat} (arrives : Arrives h (.holdListReq i) s)
    (is : answerRequest h.source i (heard h s) = t) : exec (.holdListReq h i) s = .next (settle s t) :=
  (congrArg Host.Outcome.next (arrives_delivers arrives)).trans (congrArg _ (congrArg _ is))

/-! ## The notice of a CLEAR -/

theorem noticeAfter_eq (before : Bool) (names : List NoticeKey) (s : State) :
    noticeAfter before names s = if names = [] ∧ s.holds.overflow = before then s else notice names s := by
  simp [noticeAfter]

theorem noticeAfter_of_names {before : Bool} {k : NoticeKey} {names : List NoticeKey} :
    noticeAfter before (k :: names) s = notice (k :: names) s := by
  rw [noticeAfter_eq, if_neg fun no => List.cons_ne_nil _ _ no.1]

theorem noticeAfter_of_same {before : Bool} (same : s.holds.overflow = before) : noticeAfter before [] s = s := by
  rw [noticeAfter_eq, if_pos ⟨rfl, same⟩]

theorem storeNew_overflow {r : StoredHold} (stores : storeNew r s = some u) : u.holds.overflow = s.holds.overflow := by
  unfold storeNew at stores
  split at stores
  · cases stores
    rfl
  · split at stores <;> cases stores
    rfl

/-- A tombstone that is found in the list was stored there, so that overflow stands. -/
theorem applyClear_tombstone (outcome : clearOutcome s.holds sc key g = .tombstone) :
    (applyClear sc key g d n s).2 = [] ∧ (findHold (applyClear sc key g d n s).1.holds sc key ≠ none →
      (applyClear sc key g d n s).1.holds.overflow = s.holds.overflow) := by
  have fresh := clearOutcome_tombstone.1 outcome
  cases stores : storeNew (stamp (tombstoneRec sc key g n) s) s with
  | none =>
    rw [applyClear_of_full fresh stores]
    refine ⟨rfl, fun found => absurd ?_ found⟩
    rw [enterOverflow_holds]
    exact fresh
  | some u =>
    rw [applyClear_of_tombstone fresh stores]
    exact ⟨rfl, fun _ => storeNew_overflow stores⟩

theorem clearNotice_tombstone (outcome : clearOutcome s.holds sc key g = .tombstone) :
    clearNotice .tombstone sc key s (applyClear sc key g d n s) =
      if (findHold (applyClear sc key g d n s).1.holds sc key).isSome then (applyClear sc key g d n s).1
      else notice [] (applyClear sc key g d n s).1 := by
  obtain ⟨none, stays⟩ := applyClear_tombstone (d := d) (n := n) outcome
  rw [clearNotice, none]
  cases found : findHold (applyClear sc key g d n s).1.holds sc key with
  | none => rfl
  | some r => exact (if_neg (by simp)).trans (noticeAfter_of_same (stays (by rw [found]; exact fun no => by cases no)))

/-- Settles O36. -/
theorem holdAndClearFramesAreTaken : Obligations.HoldAndClearFramesAreTaken := by
  refine ⟨fun h r s arrives => exec_hold arrives ?_, fun h sc key g n d s arrives outcome => exec_clear arrives ?_,
    fun h sc key g n d s arrives outcome => exec_clear arrives ?_,
    fun h sc key g n d s arrives outcome => exec_clear arrives ?_,
    fun h sc key g n d s arrives outcome => exec_clear arrives ?_⟩
  · rw [deliverHold, mergeWithNotice, noticeAfter_eq]
    rfl
  · cases found : findHold (heard h s).holds sc key with
    | none => rw [clearOutcome_tombstone.2 (by exact found)] at outcome; cases outcome
    | some old =>
      have changed := applyClear_of_applied (d := d) (n := n) (s := heard h s) found outcome
      rw [deliverClear, heard_holds, outcome, changed, afterClear, clearNotice, if_neg (by simp), noticeAfter_of_names]
      rfl
  · rw [deliverClear, heard_holds, outcome, applyClear_of_stale (by exact outcome), afterClear, clearNotice,
      if_neg (by simp)]
    exact noticeAfter_of_same rfl
  · rw [deliverClear, heard_holds, outcome, afterClear, clearNotice_tombstone (by exact outcome)]
    rfl
  · cases found : findHold (heard h s).holds sc key with
    | none => rw [clearOutcome_tombstone.2 (by exact found)] at outcome; cases outcome
    | some old =>
      have changed := applyClear_of_advanced (d := d) (n := n) (s := heard h s) found outcome
      rw [deliverClear, heard_holds, outcome, changed, afterClear, clearNotice, if_neg (by simp)]
      exact noticeAfter_of_same rfl

/-! ## HOLD-LIST-REQ (R151) -/

theorem answerFrames_eq (total : Nat) {fuel : Nat} (start : Nat) (rs : List HoldRec) (enough : rs.length ≤ 3 * fuel) :
    answerFrames total fuel start rs = (List.range ((rs.length + 2) / 3)).map fun k =>
      .holdList total (start + 3 * k) ((rs.drop (3 * k)).take 3).length ((rs.drop (3 * k)).take 3) := by
  induction fuel generalizing start rs with
  | zero =>
    rw [List.length_eq_zero_iff.1 (Nat.le_zero.1 enough)]
    rfl
  | succ fuel ih =>
    cases rs with
    | nil => rfl
    | cons r rs =>
      have more : ((r :: rs).length + 2) / 3 = (((r :: rs).drop 3).length + 2) / 3 + 1 := by
        simp only [List.length_cons, List.length_drop]
        omega
      rw [answerFrames, if_neg (by simp), ih _ _ (by simp only [List.length_cons, List.length_drop] at enough ⊢; omega), more,
        List.range_succ_eq_map, List.map_cons, List.map_map]
      congr 1
      refine List.map_congr_left fun k _ => ?_
      have next : 3 * (k + 1) = 3 + 3 * k := by omega
      simp only [Function.comp_apply, Nat.succ_eq_add_one, List.drop_drop, next, Nat.add_assoc]

/-- A station that is not live posts nothing at the end of an event. -/
theorem settle_link_of_dead {before : State} (dead : s.isLive = false) : (settle before s).link = s.link := by
  have idle : s.isActive = false := by
    cases station : s.start.station <;> simp [State.isLive, State.isActive, station] at dead ⊢
  have asks : settleHolds before s = s := by
    unfold settleHolds
    split
    · rfl
    · exact resyncTest_of_not_mayAsk (by simp [mayAsk, dead])
  have cell : settleCell before s = s := settleCell_of_idle before (by simp [idle])
  have handler : settleHandler before s = s.setHandler { s.handler with statusTimer := none, statusOwed := false } := by
    rw [settleHandler, if_neg (by simp [idle])]
  rw [settle, asks, cell, handler]
  rfl

/-- Settles O37. -/
theorem holdListRequestsAreAnswered : Obligations.HoldListRequestsAreAnswered := by
  refine ⟨fun h i s arrives silent => ?_, fun h i s arrives live few => ?_⟩
  · have dead : s.isLive = false := by simp [State.isLive, silent]
    refine ⟨exec_holdListReq arrives (by rw [answerRequest, heard_isLive, dead]; rfl), ?_⟩
    rw [settle_link_of_dead (by rw [heard_isLive]; exact dead)]
    rfl
  · intro n part
    have answers : answerRequest h.source i (heard h s) =
        if n ≤ i then sendTo h.source (.holdListNone n i) (heard h s)
        else (answerFrames n 24 i ((s.holds.records.drop i).map StoredHold.hold)).foldl (fun u p => sendTo h.source p u)
          (heard h s) := by
      rw [answerRequest, heard_isLive, live]
      rfl
    refine ⟨fun past => exec_holdListReq arrives (answers.trans (if_pos past)), fun short => ?_⟩
    have frames := answerFrames_eq n (fuel := 24) i ((s.holds.records.drop i).map StoredHold.hold)
      (by simp only [List.length_drop, List.length_map]; omega)
    rw [List.map_drop, List.length_drop, List.length_map] at frames
    simp only [List.drop_drop] at frames
    rw [if_neg (Nat.not_le.2 short), List.map_drop, frames, List.foldl_map] at answers
    exact exec_holdListReq arrives answers

end Sys2Proof.Machine
end

section
/-! PROOFS. HOLD-LIST and the resync record (R150 to R153). -/
namespace Sys2Proof.Machine

variable {s t u : State} {h : Header}

/-! ## Mismatching peers -/

theorem mismatching_iff {d : HoldTable} {e : PeerEntry} : mismatching d e = true ↔ e.presence = .present ∧
    e.beaconSince = true ∧ ∃ b, e.beacon = some b ∧ b.holdCount ≠ 0 ∧
      (b.holdCount ≠ d.records.length ∨ b.digest ≠ d.digest) := by
  unfold mismatching
  cases heard : e.beacon with
  | none => simp
  | some b =>
    simp only [Bool.and_eq_true, beq_iff_eq, Bool.or_eq_true, bne_iff_ne, Option.some.injEq, exists_eq_left', and_assoc]
    tauto

theorem mismatching_range {n : Nat} (bad : mismatching s.holds (peerAt s.peers n) = true) :
    1 ≤ n ∧ n - 1 < s.peers.table.length := by
  rw [peerAt, nth1] at bad
  split at bad
  · cases bad
  · refine ⟨by omega, ?_⟩
    by_contra far
    rw [List.getD_eq_getElem?_getD, List.getElem?_eq_none (by omega)] at bad
    cases bad

theorem peerAt_of_index {d : PeerDir} {i : Nat} (low : i < d.table.length) : peerAt d (1 + i) = d.table[i] := by
  rw [peerAt_of_low (by omega), Nat.add_sub_cancel_left, List.getD_eq_getElem?_getD, List.getElem?_eq_getElem low]
  rfl

/-- The lowest mismatching peer has no other below it. -/
theorem lowestMismatching_of_some {n : Nat} (lowest : lowestMismatching s = some n) :
    mismatching s.holds (peerAt s.peers n) = true ∧ ∀ m, m < n → mismatching s.holds (peerAt s.peers m) = false := by
  obtain ⟨⟨e, k⟩, found, rfl⟩ := Option.map_eq_some_iff.1 lowest
  obtain ⟨bad, i, low, here, before⟩ := List.find?_eq_some_iff_getElem.1 found
  rw [List.getElem_zipIdx, Prod.mk.injEq] at here
  obtain ⟨rfl, rfl⟩ := here
  rw [List.length_zipIdx] at low
  refine ⟨by rw [peerAt_of_index low]; exact bad, fun m less => ?_⟩
  by_contra worse
  obtain ⟨above, inside⟩ := mismatching_range (Bool.not_eq_false _ ▸ worse)
  have earlier := before (m - 1) (by omega)
  rw [List.getElem_zipIdx, ← peerAt_of_index inside, Nat.add_sub_cancel' above] at earlier
  simp [worse] at earlier

theorem lowestMismatching_eq_none :
    lowestMismatching s = none ↔ ∀ n, mismatching s.holds (peerAt s.peers n) = false := by
  refine ⟨fun none n => ?_, fun all => ?_⟩
  · by_contra bad
    obtain ⟨above, inside⟩ := mismatching_range (Bool.not_eq_false _ ▸ bad)
    have mem := List.getElem_mem (l := s.peers.table.zipIdx 1) (n := n - 1) (by simpa using inside)
    rw [List.getElem_zipIdx] at mem
    have fine := List.find?_eq_none.1 (Option.map_eq_none_iff.1 none) _ mem
    rw [← peerAt_of_index inside, Nat.add_sub_cancel' above] at fine
    exact bad (Bool.not_eq_true _ ▸ fine)
  · cases lowest : lowestMismatching s with
    | none => rfl
    | some n =>
      exact absurd ((lowestMismatching_of_some lowest).1.symm.trans (all n)) (by decide)

/-! ## The request (R150) -/

theorem spacingPassed_iff : spacingPassed s = true ↔
    ∀ t, s.holds.resync.lastRequest = some t → s.start.config.beaconInterval * 1000 ≤ s.age t := by
  unfold spacingPassed
  split
  · next none => simp [none]
  · next t asked =>
    rw [decide_eq_true_iff]
    simp [asked, State.beaconMs]

theorem mayAsk_iff : mayAsk s = true ↔ s.isLive = true ∧ s.holds.resync.waiting = none ∧
    ∀ t, s.holds.resync.lastRequest = some t → s.start.config.beaconInterval * 1000 ≤ s.age t := by
  rw [mayAsk, Bool.and_eq_true, Bool.and_eq_true, spacingPassed_iff, Option.isNone_iff_eq_none, and_assoc]

theorem requestTarget_of_continuation {n i : Nat} (goes : s.holds.resync.continuation = some (n, i))
    (bad : mismatching s.holds (peerAt s.peers n) = true) : requestTarget s = some (n, i) := by
  simp only [requestTarget, goes, bad, if_true]

theorem requestTarget_of_lowest
    (stops : ∀ p i, s.holds.resync.continuation = some (p, i) → mismatching s.holds (peerAt s.peers p) = false) :
    requestTarget s = (lowestMismatching s).map (·, 0) := by
  unfold requestTarget
  split
  · next n i goes => rw [stops n i goes, if_neg Bool.false_ne_true]
  · rfl

/-! ## The spacing timer at the end of an event -/

theorem spacingTimer_congr (start : t.start = s.start) (now : t.now = s.now) (peers : t.peers = s.peers)
    (holds : t.holds = s.holds) : spacingTimer t = spacingTimer s := by
  cases s
  cases t
  cases start
  cases now
  cases peers
  cases holds
  rfl

theorem atRole_setLink (l : Link) (s : State) : AtRole s (s.setLink l) := ⟨rfl, rfl, rfl, rfl, rfl, rfl⟩
theorem atRole_setPort (p : Port) (s : State) : AtRole s (s.setPort p) := ⟨rfl, rfl, rfl, rfl, rfl, rfl⟩

theorem atRole_cellUpkeep (s : State) : AtRole s (cellUpkeep s) := by
  obtain ⟨xs, r, i, e, w, fs, p, -, -, -, -, kept⟩ := cellUpkeep_eq s
  rw [kept]
  exact ((atRole_setCell _ s).trans (atRole_setLink _ _)).trans (atRole_setPort _ _)

theorem atRole_settleCell (before s : State) : AtRole s (settleCell before s) := by
  by_cases on : s.isActive = true ∧ s.start.role = .cell
  · obtain ⟨sends, keeps⟩ := settleCell_of_active before on.1 on.2
    by_cases due : permitDue before s
    · rw [sends due, sendPermit_eq]
      exact ((atRole_cellUpkeep s).trans (atRole_setCell _ _)).trans (atRole_setLink _ _)
    · rw [keeps due]
      exact atRole_cellUpkeep s
  · rw [settleCell_of_idle before on]

theorem atRole_settleHandler (before s : State) : AtRole s (settleHandler before s) := by
  obtain ⟨fs, m, o, -, -, -, handled⟩ := settleHandler_eq before s
  rw [handled]
  exact (atRole_setHandler _ s).trans (atRole_setLink _ _)

theorem settle_holds_eq (before s : State) : (settle before s).holds = { (settleHolds before s).holds with
    resync := { (settleHolds before s).holds.resync with spacing := spacingTimer (settleHolds before s) } } := by
  have role : AtRole (settleHolds before s)
      (settleHandler before (settleCell before (settleHolds before s))) :=
    (atRole_settleCell before _).trans (atRole_settleHandler before _)
  have spacing := spacingTimer_congr role.start role.now role.peers role.holds
  rw [settle, ← spacing, ← role.holds]
  rfl

/-- Settles O38. -/
theorem holdListsAreMergedAndResyncMoves : Obligations.HoldListsAreMergedAndResyncMoves := by
  refine ⟨fun h t i n rs s arrives => ?_, fun n t i c w s waits peer => ?_, fun n t i c s other => ?_,
    fun h t i w s arrives waits peer => ?_, fun w s running waits => ?_, fun d s running timer => ?_, fun s => ?_⟩
  · exact congrArg Host.Outcome.next (arrives_delivers arrives)
  · intro next
    have advances : resyncAdvance n t i c s = if t ≤ next then endRequest none s
        else setResync { s.holds.resync with
          waiting := some { w with next := next, total := some t, timer := s.now + s.beaconMs } } s := by
      rw [resyncAdvance, waits]
      exact if_pos peer
    rw [advances]
    refine ⟨fun done => if_pos done, fun more => (if_neg (Nat.not_le.2 more)).trans ?_⟩
    subst peer
    rfl
  · unfold resyncAdvance
    split
    · next w waits => exact if_neg (other w waits)
    · rfl
  · have ends : resyncNone h.source (heard h s) = endRequest none (heard h s) := by
      rw [resyncNone, heard_holds, waits]
      exact if_pos peer
    exact (congrArg Host.Outcome.next (arrives_delivers arrives)).trans (congrArg _ (congrArg _ ends))
  · refine next_event running ?_
    rw [answerExpiry, waits]
    cases total : w.total with
    | none => simp only [resyncExpiry, total]; rfl
    | some t => simp only [resyncExpiry, total, Bool.and_eq_true, decide_eq_true_eq]; rfl
  · refine next_event running ?_
    rw [spacingExpiry, timer, expire]
    rfl
  · intro ready bad asks
    have isBad (n : Nat) : mismatching s.holds (peerAt s.peers n) = true ↔ bad n := mismatching_iff
    have isFine (n : Nat) : mismatching s.holds (peerAt s.peers n) = false ↔ ¬bad n := by
      rw [← isBad, Bool.not_eq_true]
    refine ⟨fun busy => resyncTest_of_not_mayAsk (by rw [← Bool.not_eq_true, mayAsk_iff]; exact busy),
      fun fine => resyncTest_of_no_target ?_, fun n i may goes worse => ?_, fun n may stops worse least => ?_,
      fun before => ?_⟩
    · rw [requestTarget_of_lowest fun p i _ => (isFine p).2 (fine p),
        lowestMismatching_eq_none.2 fun n => (isFine n).2 (fine n)]
      rfl
    · have asked := resyncTest_of_target (mayAsk_iff.2 may) (requestTarget_of_continuation goes ((isBad n).2 worse))
      rw [askedResync, goes, beq_self_eq_true, if_pos rfl] at asked
      exact asked
    · have target : requestTarget s = some (n, 0) := by
        rw [requestTarget_of_lowest fun p i goes => (isFine p).2 (stops p i goes)]
        cases lowest : lowestMismatching s with
        | none => exact absurd ((isFine n).1 (lowestMismatching_eq_none.1 lowest n)) (not_not_intro worse)
        | some m =>
          obtain ⟨worst, below⟩ := lowestMismatching_of_some lowest
          have same : m = n := by
            rcases Nat.lt_trichotomy m n with less | same | more
            · exact absurd ((isBad m).1 worst) (least m less)
            · exact same
            · exact absurd worse ((isFine n).1 (below n more))
          rw [same]
          rfl
      have asked := resyncTest_of_target (mayAsk_iff.2 may) target
      have fresh : (s.holds.resync.continuation == some (n, 0)) = false := by
        rw [beq_eq_false_iff_ne]
        exact fun goes => stops n 0 goes worse
      rw [askedResync, fresh] at asked
      exact asked
    · intro u r ends
      obtain ⟨r', asked, -, -, -, held⟩ := settleHolds_eq before s
      have is : u = (setResync r' s).setLink (s.link.posts asked) := held
      have holds : u.holds = { s.holds with resync := r } := by
        rw [show r = u.holds.resync from rfl, is]
        rfl
      have ended {m : Option Nat} (timer : spacingTimer u = m) : ends m := by
        refine (settle_holds_eq before s).trans ?_
        rw [show settleHolds before s = u from rfl, timer, holds]
      have live : u.isLive = s.isLive := by rw [is]; rfl
      have wrong (n : Nat) : mismatching u.holds (peerAt u.peers n) = mismatching s.holds (peerAt s.peers n) := by
        rw [is]
        rfl
      have age (v : Nat) : u.age v = s.age v := by rw [is]; rfl
      have interval : u.start.config.beaconInterval * 1000 = s.start.config.beaconInterval * 1000 := by rw [is]; rfl
      have now : u.now = s.now := by rw [is]; rfl
      refine ⟨fun off => ended ?_, fun n on waits worse => ?_⟩
      · unfold spacingTimer
        refine if_neg ?_
        rw [Bool.and_eq_true, Bool.and_eq_true, live, Option.isNone_iff_eq_none]
        rintro ⟨⟨on, waits⟩, some⟩
        rcases off with off | busy | fine
        · rw [off] at on
          cases on
        · exact busy waits
        · rw [lowestMismatching_eq_none.2 fun n => (wrong n).trans ((isFine n).2 (fine n))] at some
          cases some
      · have runs : spacingTimer u = if spacingPassed u then r.spacing
            else some (u.now + (u.beaconMs - u.age (r.lastRequest.getD 0))) := by
          have some : (lowestMismatching u).isSome = true := by
            rw [Option.isSome_iff_ne_none, Ne, lowestMismatching_eq_none]
            exact fun fine => (isFine n).1 ((wrong n).symm.trans (fine n)) worse
          unfold spacingTimer
          exact if_pos (by rw [live, on, some, show u.holds.resync.waiting = none from waits]; rfl)
        refine ⟨fun v asked young => ended ?_, fun old => ended ?_⟩
        · have waits : ¬spacingPassed u = true := by
            rw [spacingPassed_iff, interval]
            exact fun all => absurd (all v asked) (by rw [age]; omega)
          rw [runs, if_neg waits, now, asked, State.beaconMs, interval, Option.getD_some, age]
        · rw [runs, if_pos]
          rw [spacingPassed_iff, interval]
          exact fun v asked => (old v asked).trans (age v).ge

end Sys2Proof.Machine
end

section
/-! PROOFS. What the role blocks do at the tails of the queues, and PLACE HOLD (R140, R141, R147). -/
namespace Sys2Proof.Machine

variable {s t u : State}

/-! ## Frames and events at the tails -/

/-- Events have joined the event queue at its tail, and frames the transmit queue, none of them a HOLD. -/
structure Tail (s t : State) : Prop where
  events : s.port.events <+: t.port.events
  frames : ∃ more, t.link.queue = s.link.queue ++ more ∧ ∀ f ∈ more, ∀ r, f.payload ≠ .hold r

/-- The role block has acted: of the rest of the state only the tails of the two queues have grown. -/
structure Acts (s t : State) : Prop extends AtRole s t, Tail s t

theorem Tail.trans (h : Tail s t) (k : Tail t u) : Tail s u := by
  obtain ⟨he, hs, hq, hn⟩ := h
  obtain ⟨ke, ks, kq, kn⟩ := k
  exact ⟨he.trans ke, hs ++ ks, by rw [kq, hq, List.append_assoc],
    fun f mem => (List.mem_append.1 mem).elim (hn f) (kn f)⟩

theorem tail_of_same (link : t.link = s.link) (events : s.port.events <+: t.port.events) : Tail s t :=
  ⟨events, [], by rw [link, List.append_nil], List.forall_mem_nil _⟩

@[refl] theorem Acts.refl (s : State) : Acts s s := ⟨.refl s, tail_of_same rfl (List.prefix_refl _)⟩

theorem Acts.trans (h : Acts s t) (k : Acts t u) : Acts s u :=
  ⟨h.toAtRole.trans k.toAtRole, h.toTail.trans k.toTail⟩

theorem acts_ite {c : Prop} [Decidable c] (yes : c → Acts s t) (no : ¬c → Acts s u) : Acts s (if c then t else u) := by
  split
  · next h => exact yes h
  · next h => exact no h

theorem acts_foldl {α : Type} {f : State → α → State} (xs : List α) (each : ∀ t x, Acts t (f t x)) (s : State) :
    Acts s (xs.foldl f s) := by
  induction xs generalizing s with
  | nil => rfl
  | cons x xs ih => exact (each s x).trans (ih _)

/-- A change of the role's records alone. -/
theorem acts_of_atRole (role : AtRole s t) (link : t.link = s.link) (port : t.port = s.port) : Acts s t :=
  ⟨role, tail_of_same link (by rw [port])⟩

theorem acts_setStage (g : Stage) (s : State) : Acts s (s.setStage g) := acts_of_atRole ⟨rfl, rfl, rfl, rfl, rfl, rfl⟩ rfl rfl
theorem acts_setCell (c : Cell) (s : State) : Acts s (s.setCell c) := acts_of_atRole ⟨rfl, rfl, rfl, rfl, rfl, rfl⟩ rfl rfl
theorem acts_setHandler (c : Handler) (s : State) : Acts s (s.setHandler c) :=
  acts_of_atRole ⟨rfl, rfl, rfl, rfl, rfl, rfl⟩ rfl rfl
theorem acts_setPack (c : Pack) (s : State) : Acts s (s.setPack c) := acts_of_atRole ⟨rfl, rfl, rfl, rfl, rfl, rfl⟩ rfl rfl

theorem events_raise (e : Event) (s : State) : s.port.events <+: (raise e s).port.events := by
  rcases raise_cases e s with ⟨_, raised⟩ | ⟨_, raised⟩ <;> rw [raised]
  · exact List.prefix_append _ _
  · exact List.prefix_refl _

theorem acts_raise (e : Event) (s : State) : Acts s (raise e s) :=
  ⟨atRole_raise e s, tail_of_same (raise_link e s) (events_raise e s)⟩

theorem acts_post (a : Address) {p : Payload} (other : ∀ r, p ≠ .hold r) (s : State) : Acts s (post a p s) := by
  obtain ⟨more, sub, grown, -⟩ := grows_posts s.link [{ addr := a, payload := p }]
  refine ⟨by constructor <;> simp, by simp, more, ?_, fun f mem => ?_⟩
  · rw [post_eq]
    exact grown.queue
  · rw [List.mem_singleton.1 (sub.subset mem)]
    exact other

theorem acts_sendTo (n : Nat) {p : Payload} (other : ∀ r, p ≠ .hold r) (s : State) : Acts s (sendTo n p s) :=
  acts_post _ other s

/-! ## The notice -/

theorem acts_updateEntry (l i : Nat) (f : StageEntry → StageEntry) (s : State) : Acts s (updateEntry l i f s) :=
  acts_setStage _ s

theorem acts_revoke (l i c : Nat) (r : RevokeReason) (s : State) : Acts s (revoke l i c r s) :=
  (acts_sendTo c (fun _ no => by cases no) s).trans (acts_raise _ _)

theorem acts_holdEntry (s : State) (e : StageEntry) : Acts s (holdEntry s e) := by
  unfold holdEntry
  split
  · rfl
  · rfl
  · exact acts_updateEntry _ _ _ s
  · exact (acts_updateEntry _ _ _ s).trans (acts_revoke _ _ _ _ _)
  · exact (acts_updateEntry _ _ _ s).trans (acts_revoke _ _ _ _ _)

theorem acts_returnHeld (s : State) (q : QueuedLot) : Acts s (returnHeld s q) :=
  (acts_sendTo _ (fun _ no => by cases no) s).trans (acts_raise _ _)

theorem acts_cellNoticeLots (s : State) : Acts s (cellNoticeLots s) :=
  ((acts_setCell _ s).trans (acts_setCell _ _)).trans (acts_foldl _ acts_returnHeld _)

theorem acts_lateHoldsOf (names : List NoticeKey) (s : State) (e : PackEntry) : Acts s (lateHoldsOf names s e) :=
  acts_foldl _ (fun t n => acts_ite (fun _ => by
    split
    · exact acts_raise _ t
    · rfl) fun _ => .refl t) s

theorem acts_notice (names : List NoticeKey) (s : State) : Acts s (notice names s) := by
  refine acts_ite (fun _ => ?_) fun _ => .refl s
  split
  · exact acts_foldl _ acts_holdEntry s
  · exact (acts_cellNoticeLots s).trans (acts_setCell _ _)
  · rfl
  · exact acts_foldl _ (acts_lateHoldsOf names) s

theorem notice_of_dead {names : List NoticeKey} (dead : s.isLive = false) : notice names s = s :=
  if_neg (by simp [dead])

/-! ## The end of an event -/

theorem events_settle (before s : State) : s.port.events <+: (settle before s).port.events := by
  obtain ⟨fs, settled, -⟩ := settle_settledBy before s
  obtain ⟨more, o, -, port, -⟩ := settled.port
  rw [port]
  exact List.prefix_append _ _

theorem queue_settle (before s : State) : ∃ more, (settle before s).link.queue = s.link.queue ++ more := by
  obtain ⟨more, l, same, -⟩ := settle_link before s
  exact ⟨more, by rw [same]⟩

/-- A station in LEARNING asks for hold lists at the end of an event, and sends nothing else. -/
theorem settle_frames_of_idle {before : State} (idle : s.isActive = false) : ∃ more,
    (settle before s).link.queue = s.link.queue ++ more ∧ ∀ f ∈ more, ∀ r, f.payload ≠ .hold r := by
  obtain ⟨r, asked, -, -, requests, held⟩ := settleHolds_eq before s
  have idle' : (settleHolds before s).isActive = false := by rw [held]; exact idle
  have cell : settleCell before (settleHolds before s) = settleHolds before s :=
    settleCell_of_idle before (by simp [idle'])
  have handler : settleHandler before (settleHolds before s) =
      (settleHolds before s).setHandler { (settleHolds before s).handler with statusTimer := none, statusOwed := false } := by
    rw [settleHandler, if_neg (by simp [idle'])]
  have link : (settle before s).link = s.link.posts asked := by
    rw [settle, cell, handler, held]
    rfl
  obtain ⟨more, sub, grown, -⟩ := grows_posts s.link asked
  refine ⟨more, by rw [link, grown.queue], fun f mem => ?_⟩
  obtain ⟨n, i, rfl⟩ := requests f (sub.subset mem)
  exact fun _ no => by cases no

/-! ## A command that is taken -/

theorem exec_takes {i : Instr} {c : PortCommand} {a : Answer} (is : Instr.command? i = some c) (takes : PortTakes c s)
    (run : runCommand c s = (u, a)) : exec i s = .next (settle s (setOutcome a (commandCode c) u)) := by
  rw [exec_of_command is, takes_runs takes, run]

/-! ## A placement (R140) -/

section
variable {sc : Scope} {k : Nat} {reason : HoldReason} {dt tr : Nat}

theorem placeCore_of_force {old : StoredHold} (found : findHold s.holds sc k = some old)
    (force : old.hold.state = .inForce) :
    placeCore sc k reason dt tr s = (s, .already old.hold.generation, []) := by
  simp only [placeCore, found, force, if_true]

theorem placeCore_of_cleared {old : StoredHold} (found : findHold s.holds sc k = some old)
    (cleared : old.hold.state = .cleared) : placeCore sc k reason dt tr s =
      (announce (placedRec s sc k (genSucc old.hold.generation) reason dt tr)
          (replacedBy (placedRec s sc k (genSucc old.hold.generation) reason dt tr) s),
        .placed (genSucc old.hold.generation) true, [{ scope := sc, key := k, added := true }]) := by
  simp only [placeCore, found, cleared, reduceCtorEq, if_false]
  rfl

theorem placeCore_of_stored (fresh : findHold s.holds sc k = none)
    (stores : storeNew (stamp (placedRec s sc k 1 reason dt tr) s) s = some u) : placeCore sc k reason dt tr s =
      (announce (placedRec s sc k 1 reason dt tr) u, .placed 1 true, [{ scope := sc, key := k, added := true }]) := by
  simp only [placeCore, fresh, stores]

theorem placeCore_of_full (fresh : findHold s.holds sc k = none)
    (stores : storeNew (stamp (placedRec s sc k 1 reason dt tr) s) s = none) : placeCore sc k reason dt tr s =
      (enterOverflow (announce (placedRec s sc k 1 reason dt tr) s), .placed 1 false, []) := by
  simp only [placeCore, fresh, stores]

end

section
variable {r : HoldRec}

theorem announce_events (room : s.port.events.length < 32) :
    (announce r s).port.events = s.port.events ++ [{ event := placedEvent r, time := s.clock }] := by
  unfold announce
  split
  · rw [raise_of_room (by simpa using room)]
    simp
  · rw [raise_of_room room]
    rfl

theorem announce_queue (active : s.isActive = true) (on : s.link.tx ≠ .off) (room : s.link.queue.length < 16) :
    (announce r s).link.queue =
      s.link.queue ++ [{ addr := { type := .toAll, value := 0 }, payload := .hold r }] := by
  rw [announce, raise_link, if_pos active, sendAll, post_eq]
  exact posts_one_queue (l := s.link) room on

theorem announce_link (idle : s.isActive = false) : (announce r s).link = s.link := by
  rw [announce, raise_link, if_neg (by simp [idle])]

theorem announce_start (r : HoldRec) (s : State) : (announce r s).start = s.start := by
  rw [announce, raise_start]
  split <;> simp

theorem atRole_announce (r : HoldRec) (s : State) : AtRole s (announce r s) :=
  (atRole_ite (fun _ => atRole_sendAll _ s) fun _ => .refl s).trans (atRole_raise _ _)

theorem events_announce (r : HoldRec) (s : State) : s.port.events <+: (announce r s).port.events := by
  refine List.IsPrefix.trans ?_ (events_raise _ _)
  split <;> simp

end

theorem enterOverflow_start (s : State) : (enterOverflow s).start = s.start := by
  unfold enterOverflow
  split <;> simp

theorem enterOverflow_link (s : State) : (enterOverflow s).link = s.link := by
  unfold enterOverflow
  split <;> simp

theorem enterOverflow_events (room : s.port.events.length < 32) : (enterOverflow s).port.events = s.port.events ++
    (if s.holds.overflow = true then []
      else [{ event := .holdOverflow true (inForceCount s.holds.records), time := s.clock }]) := by
  cases over_ : s.holds.overflow with
  | true => rw [enterOverflow_of_in over_, if_pos rfl, List.append_nil]
  | false => rw [enterOverflow_of_out over_ room, if_neg Bool.false_ne_true]; rfl

theorem tail_enterOverflow (s : State) : Tail s (enterOverflow s) := by
  unfold enterOverflow
  split
  · exact (Acts.refl s).toTail
  · exact tail_of_same (by simp) (events_raise _ (s.setHolds { s.holds with overflow := true }))

/-- A SILENT station sends nothing, and one in LEARNING no HOLD, when its event has sent none. -/
theorem outcome_quiet {a : Answer} {x : State} (start : x.start = s.start) (dead : s.isLive = false → x.link = s.link)
    (frames : s.isActive = false → ∃ fs, x.link.queue = s.link.queue ++ fs ∧ ∀ f ∈ fs, ∀ r, f.payload ≠ .hold r) :
    (s.start.station = .silent → (settle s (setOutcome a 0x07 x)).link = s.link) ∧
    (s.start.station = .learning → ∃ more, (settle s (setOutcome a 0x07 x)).link.queue = s.link.queue ++ more ∧
      ∀ f ∈ more, ∀ r, f.payload ≠ .hold r) := by
  refine ⟨fun silent => ?_, fun learning => ?_⟩
  · rw [settle_link_of_dead (by simp [setOutcome, State.isLive, start, silent])]
    exact dead (by simp [State.isLive, silent])
  · obtain ⟨fs, queue, quiet⟩ := frames (by simp [State.isActive, learning])
    obtain ⟨gs, ends, others⟩ := settle_frames_of_idle (before := s) (s := setOutcome a 0x07 x)
      (by simp [setOutcome, State.isActive, start, learning])
    refine ⟨fs ++ gs, ?_, fun f mem => (List.mem_append.1 mem).elim (quiet f) (others f)⟩
    rw [ends, show (setOutcome a 0x07 x).link.queue = x.link.queue from rfl, queue, List.append_assoc]

/-- What PLACE HOLD does beside the list: the queues, and the fields it leaves. -/
theorem placement_quiet {a : Answer} {r : HoldRec} {v x : State} (start : v.start = s.start) (link : v.link = s.link)
    (tail : Tail (announce r v) x) (dead : s.isLive = false → x.link = (announce r v).link) (same : x.start = v.start) :
    (s.start.station = .silent → (settle s (setOutcome a 0x07 x)).link = s.link) ∧
    (s.start.station = .learning → ∃ more, (settle s (setOutcome a 0x07 x)).link.queue = s.link.queue ++ more ∧
      ∀ f ∈ more, ∀ r, f.payload ≠ .hold r) := by
  have calm (idle : s.isActive = false) : (announce r v).link = s.link :=
    (announce_link (by simpa [State.isActive, start] using idle)).trans link
  refine outcome_quiet (same.trans start) (fun off => (dead off).trans (calm ?_)) fun idle => ?_
  · cases station : s.start.station <;> simp [State.isLive, State.isActive, station] at off ⊢
  · rw [← calm idle]
    exact tail.frames

/-- What PLACE HOLD leaves at the front of what it adds to the queues. -/
theorem placement_queues {a : Answer} {r : HoldRec} {v x : State} (start : v.start = s.start) (link : v.link = s.link)
    (port : v.port = s.port) (tail : Tail (announce r v) x) :
    (s.port.events.length < 32 → ∃ more, (settle s (setOutcome a 0x07 x)).port.events = s.port.events ++
      { event := placedEvent r, time := v.clock } :: more) ∧
    (s.isActive = true → s.link.tx ≠ .off → s.link.queue.length < 16 → ∃ more,
      (settle s (setOutcome a 0x07 x)).link.queue = s.link.queue ++
        { addr := { type := .toAll, value := 0 }, payload := .hold r } :: more) := by
  obtain ⟨⟨es, events⟩, fs, queue, -⟩ := tail
  refine ⟨fun room => ?_, fun active on room => ?_⟩
  · obtain ⟨gs, ends⟩ := events_settle s (setOutcome a 0x07 x)
    refine ⟨es ++ gs, ?_⟩
    rw [← ends, show (setOutcome a 0x07 x).port.events = x.port.events from rfl, ← events,
      announce_events (by rw [port]; exact room), port]
    simp
  · obtain ⟨gs, ends⟩ := queue_settle s (setOutcome a 0x07 x)
    refine ⟨fs ++ gs, ?_⟩
    rw [ends, show (setOutcome a 0x07 x).link.queue = x.link.queue from rfl, queue,
      announce_queue (by simpa [State.isActive, start] using active) (by rw [link]; exact on) (by rw [link]; exact room), link]
    simp

theorem keyMatches_iff_names {l : LotRecord} {sc : Scope} {key : Nat} : keyMatches (queryOf l) sc key = true ↔
    sc = .lot ∧ key = l.lotId ∨ sc = .product ∧ key = l.product ∨ sc = .group ∧ key = l.group ∧ l.group ≠ 0 ∨
      sc = .program ∧ key = l.program :=
  keyMatches_iff (r := ⟨sc, key, 0, .inForce, 0, .operator, 0, 0⟩)

theorem updateActive_of_some {f : ActiveLot → ActiveLot} {a : ActiveLot} (active : s.cell.active = some a) :
    updateActive f s = s.setCell { s.cell with active := some (f a) } := by rw [updateActive, active]; rfl

theorem updateActive_of_fixed {f : ActiveLot → ActiveLot} (fixed : ∀ a, s.cell.active = some a → f a = a) :
    updateActive f s = s := by
  have same : s.cell.active.map f = s.cell.active := by
    cases active : s.cell.active with
    | none => rfl
    | some a => rw [Option.map_some, fixed a active]
  rw [updateActive, same]
  rfl

/-- What PLACE HOLD by the operator comes to when its record is stored. -/
theorem placeHoldCommand_of_stored {sc : Scope} {key tr g : Nat} {v : State} {names : List NoticeKey}
    (core : placeCore sc key .operator 0 tr s =
      (announce (placedRec s sc key g .operator 0 tr) v, .placed g true, names))
    (overflow : v.holds.overflow = s.holds.overflow) : placeHoldCommand sc key tr s =
      (notice names (announce (placedRec s sc key g .operator 0 tr) v),
        .done (be2 g ++ be1 1 ++ be1 (if s.holds.overflow then 1 else 0))) := by
  have holds : (notice names (announce (placedRec s sc key g .operator 0 tr) v)).holds.overflow = s.holds.overflow := by
    rw [(acts_notice names _).holds, announce_holds, overflow]
  simp only [placeHoldCommand, placeHold, core, holds]
  cases s.holds.overflow <;> rfl

theorem stamp_placed (s : State) (sc : Scope) (key g : Nat) (reason : HoldReason) (dt tr : Nat) :
    stamp (placedRec s sc key g reason dt tr) s =
      { hold := placedRec s sc key g reason dt tr, timeCleared := none } := rfl

/-- What PLACE HOLD by the operator comes to under a key in force. -/
theorem placeHoldCommand_of_force {sc : Scope} {key tr : Nat} {old : StoredHold}
    (found : findHold s.holds sc key = some old) (force : old.hold.state = .inForce) : placeHoldCommand sc key tr s =
      (if s.isLive = true ∧ s.start.role = .cell then noteOperator sc key s else s, .already old.hold.generation) := by
  simp only [placeHoldCommand, placeHold, placeCore_of_force found force, State.isRole, Bool.and_eq_true, beq_iff_eq]

theorem placeHoldCommand_of_full {sc : Scope} {key tr : Nat} (fresh : findHold s.holds sc key = none)
    (full : 24 ≤ s.holds.records.length) (force : ∀ x ∈ s.holds.records, x.hold.state = .inForce) :
    placeHoldCommand sc key tr s =
      (notice [] (enterOverflow (announce (placedRec s sc key 1 .operator 0 tr) s)), .done (be2 1 ++ be1 0 ++ be1 1)) := by
  have over_ : (notice [] (enterOverflow (announce (placedRec s sc key 1 .operator 0 tr) s))).holds.overflow = true := by
    rw [(acts_notice [] _).holds, enterOverflow_holds]
  simp only [placeHoldCommand, placeHold, placeCore_of_full fresh (storeNew_of_full full force), over_]
  rfl

/-- Settles O39. -/
theorem placeHoldPlacesOrFindsAHold : Obligations.PlaceHoldPlacesOrFindsAHold := by
  intro sc key tr s takes rec_ quiet made
  have runs {u : State} {a : Answer} (run : placeHoldCommand sc key tr s = (u, a)) :
      exec (.placeHold sc key tr) s = .next (settle s (setOutcome a 0x07 u)) := exec_takes (c := .placeHold sc key tr) rfl takes run
  have makes {g : Nat} {rs : List StoredHold} {names : List NoticeKey}
      (core : placeCore sc key .operator 0 tr s =
        (announce (placedRec s sc key g .operator 0 tr) (setRecords rs s), .placed g true, names)) :
      ∃ t, exec (.placeHold sc key tr) s = .next t ∧ made g t ∧ t.holds.records = rs := by
    have run := placeHoldCommand_of_stored core rfl
    generalize x_is : notice names (announce (placedRec s sc key g .operator 0 tr) (setRecords rs s)) = x at run
    have acts : Acts _ x := x_is ▸ acts_notice names _
    have role : AtRole (setRecords rs s) x := (atRole_announce _ _).trans acts.toAtRole
    have holds : x.holds = (setRecords rs s).holds := role.holds
    obtain ⟨events, queue⟩ := placement_queues
      (a := .done (be2 g ++ be1 1 ++ be1 (if s.holds.overflow then 1 else 0))) (s := s) (v := setRecords rs s) rfl rfl rfl
      acts.toTail
    have quiets := placement_quiet
      (a := .done (be2 g ++ be1 1 ++ be1 (if s.holds.overflow then 1 else 0))) (s := s) (v := setRecords rs s) rfl rfl
      acts.toTail (fun dead => by
        rw [← x_is, notice_of_dead]
        simp only [State.isLive, announce_start]
        exact dead) role.start
    refine ⟨_, runs run, ⟨?_, ?_, settle_previous _ _, events, queue, quiets, ?_, ?_, ?_⟩, ?_⟩
    · rw [settle_holds]
      exact (congrArg HoldTable.digest holds).trans (congrArg (fun h : HoldTable => digestOf h.records) holds.symm)
    · rw [settle_overflow]
      exact (congrArg HoldTable.overflow holds).trans rfl
    · exact (settle_start _ _).trans role.start
    · exact (settle_peers _ _).trans role.peers
    · exact (settle_limits _ _).trans role.limits
    · rw [settle_records]
      exact congrArg HoldTable.records holds
  refine ⟨fun fresh short => ?_, fun v mem right fresh full cleared first => ?_,
    fun r found cleared => ?_, fun r found force => ?_, fun r found force => ?_, fun fresh full force => ?_⟩
  · exact makes (placeCore_of_stored fresh (storeNew_of_room short))
  · exact makes (placeCore_of_stored fresh (storeNew_of_evictable full (evictable_eq right mem cleared first)))
  · obtain ⟨t, runs, made, records⟩ := makes (placeCore_of_cleared found cleared)
    refine ⟨t, runs, made, records.trans (List.map_congr_left fun x _ => ?_)⟩
    by_cases same : x.hold.scope = sc ∧ x.hold.key = key
    · rw [if_pos (sameKey_iff.2 same), if_pos same]
      rfl
    · rw [if_neg (fun h => same (sameKey_iff.1 h)), if_neg same]
  · refine ⟨_, runs (placeHoldCommand_of_force found force), ?_, settle_previous _ _, ?_⟩
    · rw [settle_records]
      split <;> rfl
    · refine outcome_quiet ?_ (fun dead => ?_) fun _ => ⟨[], ?_, List.forall_mem_nil _⟩
      · split <;> rfl
      · rw [if_neg (by simp [dead])]
      · rw [List.append_nil]
        split <;> rfl
  · intro already names
    have run := runs (placeHoldCommand_of_force (tr := tr) found force)
    have isNamed (l : LotRecord) : keyMatches (queryOf l) sc key = true ↔ names l := keyMatches_iff_names
    refine ⟨fun a live role active phase named => ?_, fun away => ?_⟩
    · rw [if_pos ⟨live, role⟩, noteOperator, updateActive_of_some active,
        if_pos (by simp [phase, (isNamed _).2 named])] at run
      exact run
    · split at run
      · next on =>
        rw [noteOperator, updateActive_of_fixed fun a active => if_neg ?_] at run
        · exact run
        · rw [Bool.and_eq_true, bne_iff_ne, isNamed]
          rintro ⟨phase, named⟩
          rcases away with dead | other | none
          · exact absurd on.1 (by simp [dead])
          · exact other on.2
          · exact (none a active).elim phase fun no => no named
      · exact run
  · have run := runs (placeHoldCommand_of_full (tr := tr) fresh full force)
    have acts := acts_notice [] (enterOverflow (announce (placedRec s sc key 1 .operator 0 tr) s))
    generalize x_is : notice [] (enterOverflow (announce (placedRec s sc key 1 .operator 0 tr) s)) = x at run acts
    have holds : x.holds = { s.holds with overflow := true } := by
      rw [acts.holds, enterOverflow_holds, announce_holds]
    have tail : Tail (announce (placedRec s sc key 1 .operator 0 tr) s) x := (tail_enterOverflow _).trans acts.toTail
    have start : x.start = s.start := by rw [acts.start, enterOverflow_start, announce_start]
    obtain ⟨-, queue⟩ := placement_queues (a := .done (be2 1 ++ be1 0 ++ be1 1)) (s := s) (v := s) rfl rfl rfl tail
    have quiets := placement_quiet (a := .done (be2 1 ++ be1 0 ++ be1 1)) (s := s) (v := s) rfl rfl tail (fun dead => by
      rw [← x_is, notice_of_dead, enterOverflow_link]
      simp only [State.isLive, enterOverflow_start, announce_start]
      exact dead) start
    refine ⟨_, run, ?_, ?_, ?_, quiets, settle_previous _ _, fun room => ?_, queue⟩
    · rw [settle_records]
      exact (congrArg HoldTable.records holds).trans rfl
    · rw [settle_overflow]
      exact congrArg HoldTable.overflow holds
    · rw [settle_holds]
      exact (congrArg HoldTable.digest holds).trans rfl
    · obtain ⟨es, acted⟩ := acts.events
      obtain ⟨gs, ends⟩ := events_settle s (setOutcome (.done (be2 1 ++ be1 0 ++ be1 1)) 0x07 x)
      refine ⟨es ++ gs, ?_⟩
      rw [← ends, show (setOutcome _ 0x07 x).port.events = x.port.events from rfl, ← acted,
        enterOverflow_events (by rw [announce_events (by omega), List.length_append, List.length_singleton]; omega),
        announce_events (by omega), announce_holds]
      simp [State.clock, (atRole_announce _ s).now]
      rfl

end Sys2Proof.Machine
end

section
/-! PROOFS. DISPOSITION (R134, R135, R154, R155). -/
namespace Sys2Proof.Machine

variable {s t u : State} {sc : Scope} {key g : Nat} {d : Disposition}

/-! ## The refusals (R154) -/

theorem exec_disposition {a : Answer} (takes : PortTakes (.disposition sc key g d) s)
    (run : dispose sc key g d s = (u, a)) : exec (.disposition sc key g d) s = .next (settle s (setOutcome a 0x08 u)) :=
  exec_takes (c := .disposition sc key g d) rfl takes run

theorem dispositionRefusal_of_force {r : StoredHold} (found : findHold s.holds sc key = some r)
    (force : r.hold.state = .inForce) : dispositionRefusal sc key g d s =
      if r.hold.generation ≠ g then some .genMismatch
      else if d ≠ .resume ∧ sc ≠ .lot then some .scope
      else if d = .retest ∧ ¬(s.start.role = .cell ∧ activeHasKey s key = true) then some .notHere
      else none := by
  simp only [dispositionRefusal, found, force, ne_eq, not_true, if_false, State.isRole, beq_iff_eq]

theorem dispose_of_refused {r : Reason} (refused : dispositionRefusal sc key g d s = some r) :
    dispose sc key g d s = (s, .refused r) := by
  simp only [dispose, refused]

theorem activeHasKey_iff : activeHasKey s key = true ↔ ∃ a, s.cell.active = some a ∧ a.lot.lotId = key := by
  unfold activeHasKey
  split
  · next a active => simp [active]
  · next none => simp [none]

/-- The state before the notice of a disposition that is taken: the list changed, and CLEAR sent. -/
def clearSent (sc : Scope) (key g : Nat) (d : Disposition) (s : State) : State :=
  sendAll (.clear sc key g d s.start.number) (applyClear sc key g d s.start.number s).1

/-- The state a disposition that is taken comes to. -/
def disposed (sc : Scope) (key g : Nat) (d : Disposition) (s : State) : State :=
  let u := notice (applyClear sc key g d s.start.number s).2 (clearSent sc key g d s)
  actOnAllFreed s (resumed sc key d u) (handoff sc key d true u)

theorem afterClear_of_names {c : State × List NoticeKey} (names : c.2 ≠ []) : afterClear .applied sc key d s c =
    actOnAllFreed s (resumed sc key d (notice c.2 c.1)) (handoff sc key d true (notice c.2 c.1)) := by
  have noticed : clearNotice .applied sc key s c = notice c.2 c.1 := by
    rw [clearNotice, if_neg (by simp), noticeAfter_eq, if_neg fun no => names no.1]
  rw [afterClear, noticed]
  rfl

theorem flagCode_eq (b : Bool) : flagCode b = if b then 1 else 0 := by cases b <;> rfl

theorem applies_of_same {r : StoredHold} (found : findHold s.holds sc key = some r) (force : r.hold.state = .inForce)
    (same : r.hold.generation = g) : clearOutcome s.holds sc key g = .applied := by
  rw [clearOutcome_of_some found, if_pos force, same, genNewer_self]
  rfl

theorem dispose_of_taken {r : StoredHold} (found : findHold s.holds sc key = some r) (force : r.hold.state = .inForce)
    (taken : dispositionRefusal sc key g d s = none) (same : r.hold.generation = g) : dispose sc key g d s =
      (disposed sc key g d s, .done (be1 (inForceCount (disposed sc key g d s).holds.records) ++
        be1 (if (disposed sc key g d s).holds.overflow then 1 else 0))) := by
  have names : (applyClear sc key g d s.start.number s).2 ≠ [] := by
    rw [applyClear_of_applied found (applies_of_same found force same)]
    exact List.cons_ne_nil _ _
  have after : afterClear .applied sc key d s
      (sendAll (.clear sc key g d s.own) (applyClear sc key g d s.own s).1, (applyClear sc key g d s.own s).2) =
      disposed sc key g d s := afterClear_of_names names
  simp only [dispose, taken, after, flagCode_eq]

/-! ## The hand-off at the cell (R134, R135) -/

theorem checkReasons_eq : checkReasons = reasonBit .noSites ||| reasonBit .siteDelta ||| reasonBit .binLimit |||
    reasonBit .yieldAlarm ||| reasonBit .countExcess ||| reasonBit .jamRate := by decide

section
variable {a : ActiveLot} (active : u.cell.active = some a)
include active

theorem cellHandoff_of_active (applied : Bool) : cellHandoff sc key d applied u =
    if applied = true ∧ a.phase = .inPass ∧ (d = .resume ∨ d = .retest ∧ sc = .lot ∧ key = a.lot.lotId) then
      suppressChecks sc key (if sc = .lot ∧ key = a.lot.lotId then disposeLot d a u else u)
    else if sc = .lot ∧ key = a.lot.lotId then disposeLot d a u else u := by
  simp only [cellHandoff, active, Bool.and_eq_true, Bool.or_eq_true, beq_iff_eq, and_assoc]

theorem suppressChecks_of_active : suppressChecks sc key u =
    if a.phase = .inPass ∧ keyMatches (queryOf a.lot) sc key = true ∧ lotMatched u.holds (queryOf a.lot) = false then
      u.setCell { u.cell with active := some { a with suppressed := a.suppressed ||| (a.reasons &&& checkReasons) } }
    else u := by
  rw [suppressChecks]
  simp only [Bool.and_eq_true, Bool.not_eq_true', decide_eq_true_eq, and_assoc]
  split
  · next freed => rw [updateActive_of_some active, if_pos freed]
  · next kept => exact updateActive_of_fixed fun b same => by cases active.symm.trans same; exact if_neg kept

end

theorem handoff_of_cell {b : Bool} (live : u.isLive = true) (role : u.start.role = .cell) :
    handoff sc key d b u = cellHandoff sc key d b u := by
  rw [handoff, if_pos live, role]

/-! ## What the hand-off leaves -/

theorem acts_removeEntry (e : StageEntry) (s : State) : Acts s (removeEntry e s) := by
  unfold removeEntry
  split
  · exact (acts_setStage _ s).trans (acts_revoke _ _ _ _ _)
  · exact (acts_setStage _ s).trans (acts_revoke _ _ _ _ _)
  · exact acts_setStage _ s
  · exact acts_setStage _ s
  · exact acts_setStage _ s

theorem acts_enterOutbox (c : Completion) (s : State) : Acts s (enterOutbox c s) :=
  acts_ite (fun _ => acts_setCell _ s) fun _ =>
    (acts_ite (fun _ => acts_setCell _ s) fun _ => .refl s).trans (acts_setCell _ _)

theorem acts_finishLot (a : ActiveLot) (r : CompletionResult) (s : State) : Acts s (finishLot a r s) :=
  acts_ite (fun _ => ((acts_raise _ s).trans (acts_setCell _ _)).trans (acts_enterOutbox _ _))
    fun _ => (acts_raise _ s).trans (acts_setCell _ _)

theorem acts_startRetest (a : ActiveLot) (pass : Nat) (s : State) : Acts s (startRetest a pass s) :=
  (acts_setCell _ s).trans (acts_raise _ _)

theorem acts_disposeLot (d : Disposition) (a : ActiveLot) (s : State) : Acts s (disposeLot d a s) := by
  unfold disposeLot
  split
  case h_3 => exact acts_finishLot _ _ s
  case h_4 => exact acts_finishLot _ _ s
  case h_5 => exact acts_finishLot _ _ s
  case h_6 => exact acts_startRetest _ _ s
  case h_8 => exact acts_setCell _ s
  all_goals rfl

theorem acts_cellHandoff (sc : Scope) (key : Nat) (d : Disposition) (b : Bool) (s : State) :
    Acts s (cellHandoff sc key d b s) := by
  unfold cellHandoff
  split
  · rfl
  · next a _ =>
    have own : Acts s (if (sc == .lot && key == a.lot.lotId) = true then disposeLot d a s else s) :=
      acts_ite (fun _ => acts_disposeLot d a s) fun _ => .refl s
    exact acts_ite (fun _ => own.trans (acts_setCell _ _)) fun _ => own

theorem acts_handoff (sc : Scope) (key : Nat) (d : Disposition) (b : Bool) (s : State) :
    Acts s (handoff sc key d b s) := by
  refine acts_ite (fun _ => ?_) fun _ => .refl s
  split
  · exact acts_ite (fun _ => acts_foldl _ (fun u e => acts_removeEntry e u) s) fun _ => .refl s
  · exact acts_cellHandoff sc key d b s
  · rfl
  · exact acts_setPack _ s

/-! ## A PACK with no entries -/

theorem actOnAllFreed_of_empty {xs : List Nat} (empty : t.start.role = .pack → t.pack.entries = []) :
    actOnAllFreed s xs t = t := by
  unfold actOnAllFreed
  split
  · next pack =>
    simp only [State.isRole, Bool.and_eq_true, beq_iff_eq] at pack
    rw [empty pack.2]
    rfl
  · rfl

theorem notice_of_empty {names : List NoticeKey} (role : s.start.role = .pack) (empty : s.pack.entries = []) :
    notice names s = s := by
  simp only [notice, role, lateHolds, empty, List.filter_nil, List.foldl_nil, ite_self]

theorem handoff_entries_of_empty {b : Bool} (role : s.start.role = .pack) (empty : s.pack.entries = []) :
    (handoff sc key d b s).pack.entries = [] := by
  unfold handoff
  split
  · simp only [role, packHandoff, empty]
    rfl
  · exact empty

/-! ## What a disposition that is taken does -/

theorem tail_leaveOverflow (s : State) : Tail s (leaveOverflow s) := by
  unfold leaveOverflow
  split
  · exact tail_of_same (by simp) (events_raise _ (s.setHolds { s.holds with overflow := false }))
  · exact (Acts.refl s).toTail

theorem leaveOverflow_start (s : State) : (leaveOverflow s).start = s.start := by
  unfold leaveOverflow
  split <;> simp

theorem leaveOverflow_pack (s : State) : (leaveOverflow s).pack = s.pack := by
  unfold leaveOverflow
  split <;> simp

section
variable {r : StoredHold} (found : findHold s.holds sc key = some r) (force : r.hold.state = .inForce)
  (same : r.hold.generation = g)
include found force same

theorem clearSent_eq : clearSent sc key g d s = sendAll (.clear sc key g d s.start.number)
    (leaveOverflow (raise (.holdCleared sc key g d) (clearedBy r.hold g s))) := by
  rw [clearSent, applyClear_of_applied found (applies_of_same found force same)]

theorem clearSent_records (right : HoldsRight s) : (clearSent sc key g d s).holds.records = s.holds.records.map fun x =>
    if x.hold.scope = sc ∧ x.hold.key = key
    then { hold := { x.hold with state := .cleared }, timeCleared := some s.clock } else x := by
  rw [clearSent_eq found force same, (atRole_sendAll _ _).holds, leaveOverflow_holds, raise_holds]
  refine (replaceRecord_clearRecord right found).trans (List.map_congr_left fun x mem => ?_)
  split
  · next named =>
    have one : x = r := eq_of_sameKey right.1 mem (findHold_eq_some found).1
      (named.1.trans (findHold_eq_some found).2.1.symm) (named.2.trans (findHold_eq_some found).2.2.symm)
    rw [one, ← same]
  · rfl

theorem clearSent_digest :
    (clearSent sc key g d s).holds.digest = digestOf (clearSent sc key g d s).holds.records := by
  rw [clearSent_eq found force same, (atRole_sendAll _ _).holds, leaveOverflow_holds, raise_holds]
  rfl

theorem clearSent_events (room : s.port.events.length < 32) : ∃ more, (clearSent sc key g d s).port.events =
    s.port.events ++ { event := .holdCleared sc key g d, time := s.clock } :: more := by
  obtain ⟨more, prefix_⟩ := (tail_leaveOverflow (raise (.holdCleared sc key g d) (clearedBy r.hold g s))).events
  refine ⟨more, ?_⟩
  rw [clearSent_eq found force same, sendAll_port, ← prefix_, raise_of_room (by exact room)]
  exact List.append_assoc _ _ _

theorem clearSent_queue (on : s.link.tx ≠ .off) (room : s.link.queue.length < 16) :
    (clearSent sc key g d s).link.queue = s.link.queue ++
      [{ addr := { type := .toAll, value := 0 }, payload := .clear sc key g d s.start.number }] := by
  have link : (leaveOverflow (raise (.holdCleared sc key g d) (clearedBy r.hold g s))).link = s.link := by
    unfold leaveOverflow
    split <;> simp <;> rfl
  rw [clearSent_eq found force same, sendAll, post_eq, link]
  exact posts_one_queue (l := s.link) room on

theorem clearSent_start : (clearSent sc key g d s).start = s.start := by
  rw [clearSent_eq found force same, (atRole_sendAll _ _).start, leaveOverflow_start, raise_start]
  rfl

theorem clearSent_pack : (clearSent sc key g d s).pack = s.pack := by
  rw [clearSent_eq found force same, sendAll_pack, leaveOverflow_pack, raise_pack]
  rfl

/-- At a PACK with no entries, and in any other role, the role block alone acts on a disposition. -/
theorem acts_disposed (empty : s.start.role = .pack → s.pack.entries = []) :
    Acts (clearSent sc key g d s) (disposed sc key g d s) := by
  have acts : Acts (clearSent sc key g d s) (handoff sc key d true
      (notice (applyClear sc key g d s.start.number s).2 (clearSent sc key g d s))) :=
    (acts_notice _ _).trans (acts_handoff _ _ _ _ _)
  have quiet : disposed sc key g d s = handoff sc key d true
      (notice (applyClear sc key g d s.start.number s).2 (clearSent sc key g d s)) := by
    refine actOnAllFreed_of_empty fun pack => ?_
    have role : (clearSent sc key g d s).start.role = .pack := by rw [← acts.start]; exact pack
    have none : (clearSent sc key g d s).pack.entries = [] := by
      rw [clearSent_pack found force same]
      exact empty (by rw [← clearSent_start (d := d) found force same]; exact role)
    exact handoff_entries_of_empty (by rw [(acts_notice _ _).start]; exact role)
      (by rw [notice_of_empty role none]; exact none)
  rw [quiet]
  exact acts

end

/-- A disposition that passes the checks of R154. -/
theorem dispositionRefusal_eq_none {r : StoredHold} (found : findHold s.holds sc key = some r)
    (force : r.hold.state = .inForce) (same : r.hold.generation = g)
    (may : d = .resume ∨ sc = .lot ∧ (d = .scrap ∨ d = .retest ∧ s.start.role = .cell ∧
      ∃ a, s.cell.active = some a ∧ a.lot.lotId = key)) : dispositionRefusal sc key g d s = none := by
  rw [dispositionRefusal_of_force found force, if_neg (by simp [same])]
  rcases may with rfl | ⟨rfl, rfl | ⟨rfl, role, here⟩⟩
  · simp
  · simp
  · rw [if_neg (by simp), if_neg fun no => no.2 ⟨role, activeHasKey_iff.2 here⟩]

/-- What the hand-off does to an active lot in IN_PASS that stays in its pass. -/
theorem suppressChecks_setActive {a : ActiveLot} (phase : a.phase = .inPass) :
    suppressChecks sc key (u.setCell { u.cell with active := some a }) =
      u.setCell { u.cell with active := some (if keyMatches (queryOf a.lot) sc key = true ∧
          lotMatched u.holds (queryOf a.lot) = false
        then { a with suppressed := a.suppressed ||| (a.reasons &&& checkReasons) } else a) } := by
  rw [suppressChecks_of_active (a := a) rfl]
  simp only [phase, true_and]
  split
  · next freed => rw [if_pos (by exact freed)]; rfl
  · next kept => rw [if_neg (by exact kept)]

theorem setCell_active {a : ActiveLot} (active : u.cell.active = some a) :
    u.setCell { u.cell with active := some a } = u := by
  rw [← active]
  rfl

section
variable {a : ActiveLot}

theorem disposeLot_of_finished (phase : a.phase = .finished) : disposeLot d a u = u := by
  unfold disposeLot
  rw [phase]

theorem disposeLot_resume (phase : a.phase = .inPass) : disposeLot .resume a u = u := by
  unfold disposeLot
  rw [phase]

theorem disposeLot_scrap (phase : a.phase ≠ .finished) : disposeLot .scrap a u = finishLot a .scrapped u := by
  unfold disposeLot
  cases is : a.phase with
  | finished => exact absurd is phase
  | inPass | awaiting => rfl

theorem disposeLot_retest (phase : a.phase = .inPass) (active : u.cell.active = some a) : disposeLot .retest a u =
    u.setCell { u.cell with active := some { a with allowance := min (a.allowance + 1) 255 } } := by
  refine Eq.trans ?_ (updateActive_of_some (f := fun a => { a with allowance := min (a.allowance + 1) 255 }) active)
  unfold disposeLot
  rw [phase]

theorem disposeLot_accepted (phase : a.phase = .awaiting) :
    disposeLot .resume a u = finishLot a (if a.tested = 0 then .empty else .accepted) u := by
  unfold disposeLot
  rw [phase]

theorem disposeLot_again (phase : a.phase = .awaiting) : disposeLot .retest a u =
    startRetest { a with allowance := min (a.allowance + 1) 255 } (if a.tested = 0 then 1 else min (a.pass + 1) 255) u := by
  unfold disposeLot
  rw [phase]

end

/-- Settles O40. -/
theorem dispositionsClearHolds : Obligations.DispositionsClearHolds := by
  intro sc key g d s takes refused
  have refuses {r : Reason} (h : dispositionRefusal sc key g d s = some r) : refused r :=
    exec_disposition takes (dispose_of_refused h)
  refine ⟨?_, fun r found force => ?_, ?_⟩
  · rintro (none | ⟨r, found, cleared⟩) <;> apply refuses
    · rw [dispositionRefusal, none]
    · simp [dispositionRefusal, found, cleared]
  · have check := dispositionRefusal_of_force (g := g) (d := d) found force
    refine ⟨fun other => refuses ?_, fun same held lot => refuses ?_, fun same retest lot away => refuses ?_,
      fun same retest lot away => refuses ?_, fun same right may empty => ?_, fun same may => ?_⟩
    · rw [check, if_pos other]
    · rw [check, if_neg (by simp [same]), if_pos ⟨held, lot⟩]
    · rw [check, if_neg (by simp [same]), if_neg (by simp [lot]), if_pos ⟨retest, fun here => away here.1⟩]
    · have off : ¬activeHasKey s key = true := fun here =>
        (activeHasKey_iff.1 here).elim fun a here => away a here.1 here.2
      rw [check, if_neg (by simp [same]), if_neg (by simp [lot]), if_pos ⟨retest, fun here => off here.2⟩]
    · have taken : dispositionRefusal sc key g d s = none := dispositionRefusal_eq_none found force same
        (by rcases may with h | ⟨h, lot⟩ | ⟨h, lot, here⟩
            · exact .inl h
            · exact .inr ⟨lot, .inl h⟩
            · exact .inr ⟨lot, .inr ⟨h, here⟩⟩)
      have acts := acts_disposed (d := d) found force same empty
      have run := exec_disposition takes (dispose_of_taken found force taken same)
      generalize disposed sc key g d s = v at acts run
      refine ⟨_, run, ?_, ?_, ?_, ?_, fun room => ?_, fun on room => ?_⟩
      · rw [settle_records, ← clearSent_records (d := d) found force same right, ← acts.holds]
        rfl
      · rw [settle_holds]
        have held : v.holds.digest = digestOf v.holds.records := by
          rw [acts.holds]
          exact clearSent_digest found force same
        exact held
      · rw [settle_previous] <;> rfl
      · rw [settle_previous, settle_records, settle_overflow] <;> rfl
      · obtain ⟨fs, first⟩ := clearSent_events (d := d) found force same room
        obtain ⟨gs, acted⟩ := acts.events
        obtain ⟨hs, ends⟩ := events_settle s (setOutcome (.done (be1 (inForceCount v.holds.records) ++
          be1 (if v.holds.overflow = true then 1 else 0))) 0x08 v)
        refine ⟨fs ++ gs ++ hs, ?_⟩
        rw [← ends, show (setOutcome _ 0x08 v).port.events = v.port.events from rfl, ← acted, first]
        simp
      · obtain ⟨gs, acted, -⟩ := acts.frames
        obtain ⟨hs, ends⟩ := queue_settle s (setOutcome (.done (be1 (inForceCount v.holds.records) ++
          be1 (if v.holds.overflow = true then 1 else 0))) 0x08 v)
        refine ⟨gs ++ hs, ?_⟩
        rw [ends, show (setOutcome _ 0x08 v).link.queue = v.link.queue from rfl, acted,
          clearSent_queue (d := d) found force same on room]
        simp
    · exact exec_disposition takes (dispose_of_taken found force (dispositionRefusal_eq_none found force same may) same)
  · intro u a live role active own with_ more checks freed
    have hands (b : Bool) := (handoff_of_cell (sc := sc) (key := key) (d := d) (b := b) live role).trans
      (cellHandoff_of_active active b)
    have kept {b : Bool} (no : ¬(b = true ∧ a.phase = .inPass ∧ (d = .resume ∨ d = .retest ∧ own))) :
        handoff sc key d b u = if own then disposeLot d a u else u := (hands b).trans (if_neg no)
    have checked {x : ActiveLot} (phase : a.phase = .inPass) (may : d = .resume ∨ d = .retest ∧ own)
        (comes : (if own then disposeLot d a u else u) = with_ x) (same : x.phase = a.phase) :
        handoff sc key d true u = with_ (if keyMatches (queryOf x.lot) sc key = true ∧
            lotMatched u.holds (queryOf x.lot) = false
          then { x with suppressed := x.suppressed ||| (x.reasons &&& checkReasons) } else x) := by
      rw [hands, if_pos ⟨rfl, phase, may⟩]
      exact (congrArg (suppressChecks sc key) comes).trans (suppressChecks_setActive (same.trans phase))
    have resting (resume : d = .resume) (phase : a.phase = .inPass) :
        (if own then disposeLot d a u else u) = with_ a := by
      rw [show with_ a = u from setCell_active active, resume, disposeLot_resume phase, ite_self]
    have longer (retest : d = .retest) (phase : a.phase = .inPass) (mine : own) :
        (if own then disposeLot d a u else u) = with_ { a with allowance := more } := by
      rw [if_pos mine, retest, disposeLot_retest phase active]
    refine ⟨fun phase => ?_, fun either => ?_, fun phase mine => ⟨fun resume => ?_, fun scrap => ?_, fun retest => ?_⟩,
      fun other resume => ?_, fun phase other => ?_,
      fun phase mine b => ⟨fun resume => ?_, fun scrap => ?_, fun retest => ?_⟩, fun phase mine scrap => ?_,
      fun phase resume => ⟨fun free => ?_, fun stays => ?_⟩, fun phase mine retest => ⟨fun free => ?_, fun stays => ?_⟩⟩
    · rw [kept (by simp [phase]), disposeLot_of_finished phase, ite_self]
    · rw [kept (by simp)]
      rcases either with phase | other
      · rw [disposeLot_of_finished phase, ite_self]
      · exact if_neg other
    · rw [kept (by simp), resting resume phase]
      exact setCell_active active
    · rw [kept (by simp), if_pos mine, scrap, disposeLot_scrap (by simp [phase])]
    · rw [kept (by simp), longer retest phase mine]
    · rw [kept (by simp [resume, other]), if_neg other]
    · rw [kept (by simp [phase]), if_neg other]
    · rw [kept (by simp [phase]), if_pos mine, resume, disposeLot_accepted phase]
    · rw [kept (by simp [phase]), if_pos mine, scrap, disposeLot_scrap (by simp [phase])]
    · rw [kept (by simp [phase]), if_pos mine, retest, disposeLot_again phase]
    · rw [kept (by simp [scrap]), if_pos mine, scrap, disposeLot_scrap (by simp [phase])]
    · rw [checked phase (.inl resume) (resting resume phase) rfl, if_pos free, checkReasons_eq]
    · rw [checked phase (.inl resume) (resting resume phase) rfl, if_neg stays]
      exact setCell_active active
    · rw [checked phase (.inr ⟨retest, mine⟩) (longer retest phase mine) rfl, if_pos (by exact free), checkReasons_eq]
    · rw [checked phase (.inr ⟨retest, mine⟩) (longer retest phase mine) rfl, if_neg (by exact stays)]

end Sys2Proof.Machine
end

section
/-! PROOFS. The rack terminal's commands at the staging table (R36, R38, R39). -/
namespace Sys2Proof.Machine

variable {s t u : State}

section
variable {l : LotRecord}

theorem lotArrived_of_present (present : (findEntry s l.lotId l.index).isSome = true) :
    lotArrived l s = (s, .refused .duplicate) := if_pos present

theorem lotArrived_of_full (absent : findEntry s l.lotId l.index = none) (full : 64 ≤ s.stage.entries.length) :
    lotArrived l s = (s, .refused .full) := by
  rw [lotArrived, if_neg (by simp [absent]), if_pos (show Config.stageSize ≤ _ by exact full)]

theorem lotArrived_of_room (absent : findEntry s l.lotId l.index = none) (room : s.stage.entries.length < 64) :
    lotArrived l s = (s.setStage { s.stage with entries := s.stage.entries ++
        [{ lot := l, arrived := s.now % 4294967296, state := .waiting, claims := [],
           excluded := [], returnPending := false, window := none, accept := none }] },
      .done (be1 (s.stage.entries.length + 1))) := by
  rw [lotArrived, if_neg (by simp [absent]), if_neg (show ¬Config.stageSize ≤ _ from Nat.not_le.2 room)]
  rfl

end

section
variable {lot ix c : Nat} {e : StageEntry}

theorem lotReturned_of_absent (absent : findEntry s lot ix = none) :
    lotReturned lot ix s = (s, .refused .unknown) := by rw [lotReturned, absent]

theorem lotReturned_of_issued (found : findEntry s lot ix = some e) (issued : e.state = .issued c) :
    lotReturned lot ix s = (updateEntry lot ix
      (fun e => { e.toWaiting with excluded := [], returnPending := false }) s, .done []) := by
  simp only [lotReturned, found, issued]

theorem lotReturned_of_other (found : findEntry s lot ix = some e) (other : ∀ c, e.state ≠ .issued c) :
    lotReturned lot ix s = (s, .refused .state) := by
  simp only [lotReturned, found]

theorem lotRemoved_of_absent (absent : findEntry s lot ix = none) :
    lotRemoved lot ix s = (s, .refused .unknown) := by rw [lotRemoved, absent]

theorem findEntry_lot (found : findEntry s lot ix = some e) : e.lot.lotId = lot ∧ e.lot.index = ix :=
  isLot_iff.1 (List.find?_some found :)

theorem lotRemoved_of_free (found : findEntry s lot ix = some e)
    (free : e.state = .waiting ∨ e.state = .contest ∨ ∃ c, e.state = .issued c) :
    lotRemoved lot ix s = (deleteEntry lot ix s, .done []) := by
  obtain ⟨rfl, rfl⟩ := findEntry_lot found
  rw [lotRemoved, found]
  rcases free with is | is | ⟨c, is⟩ <;> simp only [removeEntry, is]

theorem lotRemoved_of_taken (found : findEntry s lot ix = some e)
    (taken : e.state = .claimed c ∨ ∃ sc, e.state = .granted c sc) :
    lotRemoved lot ix s = (revoke lot ix c .conflict (deleteEntry lot ix s), .done []) := by
  obtain ⟨rfl, rfl⟩ := findEntry_lot found
  rw [lotRemoved, found]
  rcases taken with is | ⟨sc, is⟩ <;> simp only [removeEntry, is]

end

/-- Settles O41. -/
theorem rackCommandsMoveEntries : Obligations.RackCommandsMoveEntries := by
  intro s out fresh role live
  have stage : s.isRole .stage = true := by simp [State.isRole, role]
  refine ⟨fun l ok => ?_, fun lot ix ok => ⟨fun absent => ?_, fun e found => ?_⟩⟩
  · intro answer
    have runs {u : State} {a : Answer} (run : lotArrived l s = (u, a)) : answer a u :=
      exec_takes (c := .lotArrived l) rfl ⟨out, fresh, stage, ok, live⟩ run
    exact ⟨fun present => runs (lotArrived_of_present present), fun absent full => runs (lotArrived_of_full absent full),
      fun absent room => runs (lotArrived_of_room absent room)⟩
  · exact ⟨exec_takes (c := .lotReturned lot ix) rfl ⟨out, fresh, stage, ok, live⟩ (lotReturned_of_absent absent),
      exec_takes (c := .lotRemoved lot ix) rfl ⟨out, fresh, stage, ok, live⟩ (lotRemoved_of_absent absent)⟩
  · intro without
    have returns {u : State} {a : Answer} (run : lotReturned lot ix s = (u, a)) :
        exec (.lotReturned lot ix) s = .next (settle s (setOutcome a 0x22 u)) :=
      exec_takes (c := .lotReturned lot ix) rfl ⟨out, fresh, stage, ok, live⟩ run
    have removes {u : State} {a : Answer} (run : lotRemoved lot ix s = (u, a)) :
        exec (.lotRemoved lot ix) s = .next (settle s (setOutcome a 0x23 u)) :=
      exec_takes (c := .lotRemoved lot ix) rfl ⟨out, fresh, stage, ok, live⟩ run
    exact ⟨fun c issued => returns (lotReturned_of_issued found issued),
      fun other => returns (lotReturned_of_other found other), fun free => removes (lotRemoved_of_free found free),
      fun c taken => removes (lotRemoved_of_taken found taken)⟩

end Sys2Proof.Machine
end

section
/-! PROOFS. The staging controller's frames (R44 to R53). -/
namespace Sys2Proof.Machine

variable {s t u : State} {h : Header} {lot ix n c sc : Nat} {e : StageEntry}

/-! ## The best of a list -/

theorem bestBy_eq_some {α : Type} {better : α → α → Bool} {l : List α} {z : α} (mem : z ∈ l)
    (asymm : ∀ a b, better a b = true → better b a = false) (best : ∀ x ∈ l, x = z ∨ better z x = true) :
    bestBy better l = some z := by
  induction l with
  | nil => cases mem
  | cons x xs ih =>
    obtain ⟨first, rest⟩ := List.forall_mem_cons.1 best
    rw [bestBy]
    by_cases later : z ∈ xs
    · rw [ih later rest]
      rcases first with rfl | ahead
      · exact ite_self _
      · exact if_pos ahead
    · obtain rfl : z = x := (List.mem_cons.1 mem).resolve_right later
      split
      · rfl
      · next y found =>
        have mine := rest y (mem_of_bestBy _ found)
        rcases mine with rfl | ahead
        · exact ite_self _
        · rw [if_neg (by simp [asymm _ _ ahead])]

theorem claimBetter_iff {a b : Claim} : claimBetter a b = true ↔
    b.score < a.score ∨ b.score = a.score ∧ a.cell < b.cell := by
  simp [claimBetter, eq_comm (a := b.score)]

theorem claimWorse_iff {a b : Claim} : claimWorse a b = true ↔
    a.score < b.score ∨ a.score = b.score ∧ b.cell < a.cell := by
  simp [claimWorse]

/-! ## The entry of a lot -/

theorem findEntry_updateEntry {f : StageEntry → StageEntry} (keeps : ∀ x, (f x).lot = x.lot) :
    findEntry (updateEntry lot ix f s) lot ix = (findEntry s lot ix).map f := by
  have pred : (fun x : StageEntry => isLot x.lot lot ix) ∘ (fun x => if isLot x.lot lot ix then f x else x) =
      fun x => isLot x.lot lot ix := by
    funext x
    simp only [Function.comp_apply]
    split
    · rw [keeps]
    · rfl
  refine (List.find?_map ..).trans ?_
  rw [pred, findEntry]
  cases found : s.stage.entries.find? fun x => isLot x.lot lot ix with
  | none => rfl
  | some x =>
    have named : isLot x.lot lot ix = true := List.find?_some (p := fun x : StageEntry => isLot x.lot lot ix) found
    rw [Option.map_some, Option.map_some, if_pos named]

theorem updateEntry_updateEntry {f g : StageEntry → StageEntry} (keeps : ∀ x, (f x).lot = x.lot) :
    updateEntry lot ix g (updateEntry lot ix f s) = updateEntry lot ix (fun x => g (f x)) s := by
  refine congrArg (fun es => s.setStage { s.stage with entries := es }) ((List.map_map ..).trans ?_)
  refine List.map_congr_left fun x _ => ?_
  simp only [Function.comp_apply]
  split
  · next named => rw [keeps, if_pos named]
  · rfl

/-- The lot has one entry. -/
def OnlyEntry (s : State) (lot ix : Nat) (e : StageEntry) : Prop :=
  (s.stage.entries.filter fun x => isLot x.lot lot ix) = [e]

theorem updateEntry_congr {f g : StageEntry → StageEntry} (only : OnlyEntry s lot ix e) (same : f e = g e) :
    updateEntry lot ix f s = updateEntry lot ix g s := by
  refine congrArg (fun es => s.setStage { s.stage with entries := es }) (List.map_congr_left fun x mem => ?_)
  split
  · next named =>
    have one : x ∈ [e] := only ▸ List.mem_filter.2 ⟨mem, named⟩
    rw [List.mem_singleton.1 one, same]
  · rfl

/-! ## An open CLAIM (R44 to R46) -/

section
variable (found : findEntry s lot ix = some e)
include found

theorem claimOpen_of_shut (shut : e.excluded.contains n = true ∨ entryHeld s e = true) : claimOpen lot ix n sc s = s := by
  simp only [claimOpen, found]
  exact if_pos (by simpa using shut)

theorem claimOpen_of_granted (granted : (∃ c k, e.state = .granted c k) ∨ ∃ c, e.state = .claimed c ∨ e.state = .issued c) :
    claimOpen lot ix n sc s = s := by
  simp only [claimOpen, found]
  rcases granted with ⟨c, k, is⟩ | ⟨c, is | is⟩ <;> simp only [is, ite_self]

section
variable (welcome : e.excluded.contains n = false) (free : entryHeld s e = false)
include welcome free

theorem claimOpen_of_waiting (waiting : e.state = .waiting) : claimOpen lot ix n sc s = updateEntry lot ix
    (fun x => { x with state := .contest, claims := [{ cell := n, score := sc, owned := false }],
                       window := some (s.now + s.start.config.contestWindow) }) s := by
  simp only [claimOpen, found, welcome, free, waiting, Bool.or_self, Bool.false_eq_true, if_false]
  rfl

theorem claimOpen_of_contest (contest : e.state = .contest) : claimOpen lot ix n sc s = updateEntry lot ix
    (fun x => { x with claims := joinClaims { cell := n, score := sc, owned := false } x.claims }) s := by
  simp only [claimOpen, found, welcome, free, contest, Bool.or_self, Bool.false_eq_true, if_false]

end

end

theorem joinClaims_of_present {x : Claim} {cs : List Claim} (present : ∃ y ∈ cs, y.cell = x.cell) :
    joinClaims x cs = cs.map fun y => if y.cell = x.cell then x else y := by
  rw [joinClaims, if_pos (by simpa using present)]
  simp only [beq_iff_eq]

theorem joinClaims_of_room {x : Claim} {cs : List Claim} (absent : ∀ y ∈ cs, y.cell ≠ x.cell) (room : cs.length < 8) :
    joinClaims x cs = cs ++ [x] := by
  rw [joinClaims, if_neg (by simpa using absent), if_pos (show _ < Config.claimSize from room)]

theorem joinClaims_of_full {x low : Claim} {cs : List Claim} (absent : ∀ y ∈ cs, y.cell ≠ x.cell) (full : 8 ≤ cs.length)
    (mem : low ∈ cs) (lowest : ∀ y ∈ cs, y = low ∨ low.score < y.score ∨ low.score = y.score ∧ y.cell < low.cell) :
    joinClaims x cs = if low.score < x.score then (cs.filter fun y => y.cell != low.cell) ++ [x] else cs := by
  have worst : bestBy claimWorse cs = some low :=
    bestBy_eq_some mem (fun a b => by simp only [claimWorse, Bool.or_eq_true, Bool.or_eq_false_iff,
      Bool.and_eq_true, Bool.and_eq_false_imp, decide_eq_true_eq, decide_eq_false_iff_not, beq_iff_eq]; omega)
      fun y at_ => (lowest y at_).imp_right claimWorse_iff.2
  rw [joinClaims, if_neg (by simpa using absent), if_neg (show ¬_ < Config.claimSize from Nat.not_lt.2 full), worst]
  rfl

/-! ## An owned CLAIM (R47) -/

section
variable (found : findEntry s lot ix = some e)
include found

theorem claimOwned_of_free (free : e.state = .waiting ∨ e.state = .contest) : claimOwned lot ix n sc s =
    if entryHeld s e = true ∧ sc ≠ 255 then revoke lot ix n .held s else takeOwned lot ix n sc s := by
  simp only [claimOwned, found]
  rcases free with is | is <;> simp only [is, Bool.and_eq_true, bne_iff_ne]

theorem claimOwned_of_granted {k : Nat} (granted : e.state = .granted n k) :
    claimOwned lot ix n sc s = takeOwned lot ix n sc s := by
  simp only [claimOwned, found, granted, if_true]

theorem claimOwned_of_claimed (claimed : e.state = .claimed n) : claimOwned lot ix n sc s =
    if sc = 255 then updateEntry lot ix (fun x => { x with state := .issued n }) s else s := by
  simp only [claimOwned, found, claimed, if_true]

theorem claimOwned_of_issued (issued : e.state = .issued n) : claimOwned lot ix n sc s = s := by
  simp only [claimOwned, found, issued, if_true]

theorem claimOwned_of_other (other : c ≠ n) (taken : (∃ k, e.state = .granted c k) ∨ e.state = .claimed c ∨ e.state = .issued c) :
    claimOwned lot ix n sc s = revoke lot ix n .conflict s := by
  simp only [claimOwned, found]
  rcases taken with ⟨k, is⟩ | is | is <;> simp only [is, other, if_false]

end

/-! ## The cascade (R48, R50) -/

section
variable (found : findEntry s lot ix = some e)
include found

theorem grantBest_of_none (none : e.claims = []) : grantBest lot ix s = updateEntry lot ix StageEntry.toWaiting s := by
  simp only [grantBest, found, none, bestBy]

theorem grantBest_of_best {b : Claim} (mem : b ∈ e.claims)
    (best : ∀ x ∈ e.claims, x = b ∨ x.score < b.score ∨ x.score = b.score ∧ b.cell < x.cell) : grantBest lot ix s =
      sendAll (.grant lot ix b.cell b.score) (updateEntry lot ix (fun x =>
        { x with state := .granted b.cell b.score, claims := dropClaim b.cell x.claims, window := none,
                 accept := some (s.now + s.start.config.acceptTimeout) }) s) := by
  have first : bestBy claimBetter e.claims = some b :=
    bestBy_eq_some mem (fun a b => by simp only [claimBetter, Bool.or_eq_true, Bool.or_eq_false_iff,
      Bool.and_eq_true, Bool.and_eq_false_imp, decide_eq_true_eq, decide_eq_false_iff_not, beq_iff_eq]; omega)
      fun y at_ => (best y at_).imp_right claimBetter_iff.2
  simp only [grantBest, found, first]
  rfl

/-- The entry when its grant has ended. -/
def afterGrant (n : Nat) (b : Bool) (x : StageEntry) : StageEntry := if b then x.exclude n else x

omit found in
theorem endGrant_eq (lot ix n : Nat) (b : Bool) (s : State) :
    endGrant lot ix n b s = grantBest lot ix (updateEntry lot ix (afterGrant n b) s) := by
  cases b with
  | true => rfl
  | false =>
    have same : updateEntry lot ix (afterGrant n false) s = s := by
      have fixed : (s.stage.entries.map fun x => if isLot x.lot lot ix then afterGrant n false x else x) = s.stage.entries :=
        (List.map_congr_left fun x _ => ite_self x).trans (List.map_id _)
      rw [updateEntry, fixed]
      rfl
    rw [same]
    rfl

omit found in
theorem afterGrant_lot (n : Nat) (b : Bool) (x : StageEntry) : (afterGrant n b x).lot = x.lot := by
  cases b <;> rfl

omit found in
theorem afterGrant_claims (n : Nat) (b : Bool) (x : StageEntry) : (afterGrant n b x).claims = x.claims := by
  cases b <;> rfl

section
variable {out : List Nat} {b : Bool} (only : OnlyEntry s lot ix e) (leaves : (afterGrant n b e).excluded = out)
include only leaves

theorem endGrant_of_none (none : e.claims = []) : endGrant lot ix n b s =
    updateEntry lot ix (fun x => { x.toWaiting with excluded := out }) s := by
  rw [endGrant_eq, grantBest_of_none ((findEntry_updateEntry (afterGrant_lot n b)).trans (by rw [found]; rfl))
    ((afterGrant_claims ..).trans none), updateEntry_updateEntry (afterGrant_lot n b)]
  refine updateEntry_congr only ?_
  rw [← leaves]
  cases b <;> rfl

theorem endGrant_of_best {best : Claim} (mem : best ∈ e.claims)
    (first : ∀ x ∈ e.claims, x = best ∨ x.score < best.score ∨ x.score = best.score ∧ best.cell < x.cell) :
    endGrant lot ix n b s = sendAll (.grant lot ix best.cell best.score) (updateEntry lot ix (fun x =>
      { x with state := .granted best.cell best.score, claims := e.claims.filter fun y => y.cell != best.cell,
               window := none, accept := some (s.now + s.start.config.acceptTimeout), excluded := out }) s) := by
  have claims := afterGrant_claims n b e
  rw [endGrant_eq, grantBest_of_best ((findEntry_updateEntry (afterGrant_lot n b)).trans (by rw [found]; rfl))
    (b := best) (by rw [claims]; exact mem) (by rw [claims]; exact first), updateEntry_updateEntry (afterGrant_lot n b)]
  refine congrArg _ (updateEntry_congr only ?_)
  rw [← leaves]
  cases b <;> rfl

end

end

/-! ## ACCEPT (R49 to R51) -/

section
variable {a : AcceptAnswer} (active : s.isActive = true)
include active

theorem stageAccept_of_absent (absent : findEntry s lot ix = none) :
    stageAccept n lot ix a sc s = revoke lot ix n .conflict s := by
  simp only [stageAccept, active, absent, answerAccept, Option.map_none, Bool.not_true, Bool.false_eq_true, if_false]

variable (found : findEntry s lot ix = some e)
include found

theorem stageAccept_of_take (granted : e.state = .granted n sc) : stageAccept n lot ix .take sc s =
    raise (.lotGranted lot ix n) (updateEntry lot ix (fun x => { x.toWaiting with state := .claimed n }) s) := by
  simp only [stageAccept, active, found, granted, Option.map_some, Bool.not_true, Bool.false_eq_true, if_false, if_true]

theorem stageAccept_of_decline (granted : e.state = .granted n sc) :
    stageAccept n lot ix .decline sc s = endGrant lot ix n true s := by
  simp only [stageAccept, active, found, granted, Option.map_some, Bool.not_true, Bool.false_eq_true, if_false, if_true]

theorem stageAccept_of_score {k : Nat} (granted : e.state = .granted n k) (other : k ≠ sc) :
    stageAccept n lot ix a sc s = s := by
  simp only [stageAccept, active, found, granted, other, Option.map_some, Bool.not_true, Bool.false_eq_true, if_false,
    if_true]

theorem stageAccept_of_mine (mine : e.state = .claimed n ∨ e.state = .issued n) : stageAccept n lot ix a sc s = s := by
  rcases mine with is | is <;>
    simp only [stageAccept, active, found, is, answerAccept, Option.map_some, Bool.not_true, Bool.false_eq_true, if_false,
      if_true]

theorem stageAccept_of_other (other : c ≠ n)
    (taken : (∃ k, e.state = .granted c k) ∨ e.state = .claimed c ∨ e.state = .issued c) :
    stageAccept n lot ix a sc s = revoke lot ix n .conflict s := by
  rcases taken with ⟨k, is⟩ | is | is <;>
    simp only [stageAccept, active, found, is, other, answerAccept, Option.map_some, Bool.not_true, Bool.false_eq_true,
      if_false]

theorem stageAccept_of_free (free : e.state = .waiting ∨ e.state = .contest) : stageAccept n lot ix a sc s =
    revoke lot ix n (if entryHeld s e then .held else .conflict) s := by
  rcases free with is | is <;>
    simp only [stageAccept, active, found, is, answerAccept, Option.map_some, Bool.not_true, Bool.false_eq_true, if_false]

end

/-! ## RETURN and LOT-DONE (R52, R53) -/

section
variable {r : ReturnReason} (active : s.isActive = true)
include active

omit active in
theorem stageReturn_of_absent (absent : findEntry s lot ix = none) : stageReturn n lot ix r s = s := by
  simp only [stageReturn, absent, ite_self]

variable (found : findEntry s lot ix = some e)
include found

theorem stageReturn_of_claimed (claimed : e.state = .claimed n) : stageReturn n lot ix r s =
    raise (.lotLost lot ix (some n)) (updateEntry lot ix
      (fun x => if r = .operator then x.toWaiting.exclude n else x.toWaiting) s) := by
  simp only [stageReturn, active, found, claimed, Bool.not_true, Bool.false_eq_true, if_false, if_true]

theorem stageReturn_of_granted {k : Nat} (granted : e.state = .granted n k) :
    stageReturn n lot ix r s = endGrant lot ix n (r == .operator) s := by
  simp only [stageReturn, active, found, granted, Bool.not_true, Bool.false_eq_true, if_false, if_true]

theorem stageReturn_of_issued (issued : e.state = .issued n) : stageReturn n lot ix r s =
    if e.returnPending then updateEntry lot ix (fun x => { x with returnPending := true }) s
    else raise (.lotLost lot ix (some n)) (updateEntry lot ix (fun x => { x with returnPending := true }) s) := by
  simp only [stageReturn, active, found, issued, Bool.not_true, Bool.false_eq_true, if_false, if_true]

theorem stageReturn_of_other (other : e.state = .waiting ∨ e.state = .contest ∨ ∃ c, c ≠ n ∧
    ((∃ k, e.state = .granted c k) ∨ e.state = .claimed c ∨ e.state = .issued c)) : stageReturn n lot ix r s = s := by
  rcases other with is | is | ⟨c, ne, ⟨k, is⟩ | is | is⟩
  · simp only [stageReturn, active, found, is, Bool.not_true, Bool.false_eq_true, if_false]
  · simp only [stageReturn, active, found, is, Bool.not_true, Bool.false_eq_true, if_false]
  all_goals simp only [stageReturn, active, found, is, ne, Bool.not_true, Bool.false_eq_true, if_false]

end

section
variable {r : Completion} (live : s.isLive = true)
include live

omit live in
theorem stageLotDone_of_absent (absent : findEntry s r.lotId r.index = none) : stageLotDone r s = s := by
  simp only [stageLotDone, absent, Option.map_none, ite_self]

variable (found : findEntry s r.lotId r.index = some e)
include found

theorem stageLotDone_of_issued (issued : e.state = .issued r.cell) : stageLotDone r s =
    raise (.stageFinished r.lotId r.index r.cell) (deleteEntry r.lotId r.index s) := by
  simp only [stageLotDone, live, found, issued, Option.map_some, Bool.not_true, Bool.false_eq_true, if_false, if_true]

theorem stageLotDone_of_other (other : e.state ≠ .issued r.cell) : stageLotDone r s = s := by
  simp only [stageLotDone, live, found, Option.map_some, Bool.not_true, Bool.false_eq_true, if_false]
  split
  · next n is =>
    rw [if_neg]
    rintro rfl
    exact other (Option.some.inj is)
  · rfl

end

/-! ## The frames as they arrive -/

theorem deliverToRole_of_dead {p : Payload} (dead : s.isLive = false) : deliverToRole n p s = s :=
  if_pos (by simp [dead])

theorem isLive_of_isActive (active : s.isActive = true) : s.isLive = true := by
  simp only [State.isActive, beq_iff_eq] at active
  simp [State.isLive, active]

/-- A frame for the role block that arrives: `deliverToRole` is what it comes to. -/
theorem exec_role {i : Instr} {p : Payload} (row : exec i s = .next (event (receiveFrame h p) s)) (arrives : Arrives h p s)
    (role : deliver h.source p (heard h s) = deliverToRole h.source p (heard h s))
    (is : deliverToRole h.source p (heard h s) = t) : exec i s = .next (settle s t) := by
  rw [row, arrives_delivers arrives, role, is]

/-- A frame that the role block does not take while it is not frozen does nothing more than be heard. -/
theorem exec_unheeded {i : Instr} {p : Payload} (row : exec i s = .next (event (receiveFrame h p) s))
    (arrives : Arrives h p s) (role : deliver h.source p (heard h s) = deliverToRole h.source p (heard h s))
    (idle : s.isLive = true → deliverToRole h.source p (heard h s) = heard h s) :
    exec i s = .next (settle s (heard h s)) := by
  refine exec_role row arrives role ?_
  cases live : s.isLive with
  | true => exact idle live
  | false => exact deliverToRole_of_dead (by exact live)

section
variable (live : s.isLive = true)
include live

theorem exec_claim {o : Bool} (arrives : Arrives h (.claim lot ix sc o) s)
    (is : stageClaim h.source lot ix sc o (heard h s) = t) : exec (.claim h lot ix sc o) s = .next (settle s t) :=
  exec_role (p := .claim lot ix sc o) rfl arrives rfl ((if_neg (by simp [live])).trans is)

theorem exec_accept {a : AcceptAnswer} (arrives : Arrives h (.accept lot ix a sc) s)
    (is : stageAccept h.source lot ix a sc (heard h s) = t) : exec (.accept h lot ix a sc) s = .next (settle s t) :=
  exec_role (p := .accept lot ix a sc) rfl arrives rfl ((if_neg (by simp [live])).trans is)

theorem exec_return {r : ReturnReason} (arrives : Arrives h (.return_ lot ix r) s)
    (is : stageReturn h.source lot ix r (heard h s) = t) : exec (.return_ h lot ix r) s = .next (settle s t) :=
  exec_role (p := .return_ lot ix r) rfl arrives rfl ((if_neg (by simp [live])).trans is)

theorem exec_lotDone_stage {r : Completion} (arrives : Arrives h (.lotDone r) s) (role : s.start.role = .stage)
    (is : stageLotDone r (heard h s) = t) : exec (.lotDone h r) s = .next (settle s t) :=
  exec_role (p := .lotDone r) rfl arrives rfl ((if_neg (by simp [live])).trans
    ((if_pos (by simp [State.isRole, role])).trans is))

end

section
variable (idle : s.isActive = false)
include idle

theorem stageClaim_of_idle {o : Bool} : stageClaim n lot ix sc o s = s := if_pos (by simp [idle])
theorem stageAccept_of_idle {a : AcceptAnswer} : stageAccept n lot ix a sc s = s := if_pos (by simp [idle])
theorem stageReturn_of_idle {r : ReturnReason} : stageReturn n lot ix r s = s := if_pos (by simp [idle])

end

theorem stageClaim_open (active : s.isActive = true) : stageClaim n lot ix sc false s = claimOpen lot ix n sc s :=
  (if_neg (by simp [active])).trans (if_neg Bool.false_ne_true)

theorem stageClaim_owned (active : s.isActive = true) : stageClaim n lot ix sc true s = claimOwned lot ix n sc s :=
  (if_neg (by simp [active])).trans (if_pos rfl)

theorem takeOwned_of_255 : takeOwned lot ix n 255 s =
    updateEntry lot ix (fun x => { x.toWaiting with state := .issued n }) s := if_pos rfl

theorem takeOwned_of_score (score : sc ≠ 255) : takeOwned lot ix n sc s =
    raise (.lotGranted lot ix n) (updateEntry lot ix (fun x => { x.toWaiting with state := .claimed n }) s) :=
  if_neg score

theorem exclude_excluded (x : StageEntry) (n : Nat) : (x.exclude n).excluded =
    (if x.excluded.length < 4 then x.excluded else x.excluded.drop 1) ++ [n] := rfl

/-- Settles O43. -/
theorem stagingFramesMoveEntries : Obligations.StagingFramesMoveEntries := by
  refine ⟨?_, ?_, ?_⟩
  · intro h lot ix e s found active change waiting answered only shut cascade
    have live := isLive_of_isActive active
    have found' : findEntry (heard h s) lot ix = some e := found
    have active' : (heard h s).isActive = true := active
    have one (only : only) : OnlyEntry (heard h s) lot ix e := only
    refine ⟨?_, ?_, ?_, ?_, ?_, ?_, ?_, ?_⟩
    · intro sc arrives welcome free claim joins
      have runs {u : State} (is : claimOpen lot ix h.source sc (heard h s) = u) :
          exec (.claim h lot ix sc false) s = .next (settle s u) :=
        exec_claim live arrives ((stageClaim_open active').trans is)
      have contests (contest : e.state = .contest) (lone : only) {cs : List Claim} (is : joinClaims claim e.claims = cs) :
          joins cs := runs ((claimOpen_of_contest found' welcome free contest).trans
        (updateEntry_congr (one lone) (by rw [is])))
      exact ⟨fun waiting => runs (claimOpen_of_waiting found' welcome free waiting),
        fun contest lone present => contests contest lone (joinClaims_of_present present),
        fun contest room absent lone => contests contest lone (joinClaims_of_room absent room),
        fun contest full absent lone low mem lowest => contests contest lone (joinClaims_of_full absent full mem lowest)⟩
    · intro sc arrives closed
      refine exec_claim live arrives ((stageClaim_open active').trans ?_)
      rcases closed with out | held | granted | taken
      · exact claimOpen_of_shut found' (.inl out)
      · exact claimOpen_of_shut found' (.inr held)
      · exact claimOpen_of_granted found' (.inl granted)
      · exact claimOpen_of_granted found' (.inr taken)
    · intro sc arrives owned taken
      have runs {u : State} (is : claimOwned lot ix h.source sc (heard h s) = u) : owned u :=
        exec_claim live arrives ((stageClaim_owned active').trans is)
      have takes (is : claimOwned lot ix h.source sc (heard h s) = takeOwned lot ix h.source sc (heard h s)) : taken := by
        refine ⟨fun score => runs (is.trans ?_), fun score => runs (is.trans (takeOwned_of_score score))⟩
        subst score
        exact takeOwned_of_255
      refine ⟨fun free may => takes ((claimOwned_of_free found' free).trans (if_neg fun no => ?_)),
        fun free held score => runs ((claimOwned_of_free found' free).trans (if_pos ⟨held, score⟩)),
        fun k granted => takes (claimOwned_of_granted found' granted), fun claimed => ⟨fun score => ?_, fun score => ?_⟩,
        fun issued => runs (claimOwned_of_issued found' issued),
        fun c other taken => runs (claimOwned_of_other found' other taken)⟩
      · rcases may with free' | score
        · exact absurd (show entryHeld s e = true from no.1) (by simp [free'])
        · exact no.2 score
      · exact runs ((claimOwned_of_claimed found' claimed).trans (if_pos score))
      · exact runs ((claimOwned_of_claimed found' claimed).trans (if_neg score))
    · intro sc arrives granted
      exact exec_accept live arrives (stageAccept_of_take active' found' granted)
    · intro sc arrives granted lone
      have declines := stageAccept_of_decline active' found' granted
      exact ⟨fun none => exec_accept live arrives (declines.trans (endGrant_of_none found' (one lone) rfl none)),
        fun c mem best => exec_accept live arrives (declines.trans (endGrant_of_best found' (one lone) rfl mem best))⟩
    · intro a sc arrives left
      have runs {u : State} (is : stageAccept h.source lot ix a sc (heard h s) = u) : left u := exec_accept live arrives is
      exact ⟨fun k granted other => runs (stageAccept_of_score active' found' granted other),
        fun mine => runs (stageAccept_of_mine active' found' mine),
        fun c other taken => runs (stageAccept_of_other active' found' other taken),
        fun free => runs (stageAccept_of_free active' found' free)⟩
    · intro r arrives returned
      have runs {u : State} (is : stageReturn h.source lot ix r (heard h s) = u) : returned u := exec_return live arrives is
      have leaves : (afterGrant h.source (r == .operator) e).excluded = if r = .operator then shut else e.excluded := by
        by_cases byOperator : r = .operator
        · rw [if_pos byOperator, byOperator]
          rfl
        · rw [if_neg byOperator, beq_eq_false_iff_ne.2 byOperator]
          rfl
      refine ⟨fun claimed lone => runs ((stageReturn_of_claimed active' found' claimed).trans
        (congrArg _ (updateEntry_congr (one lone) ?_))), fun k granted lone => ?_, fun issued fresh => ?_,
        fun issued pending => ?_, fun other => runs (stageReturn_of_other active' found' other)⟩
      · dsimp only
        split <;> rfl
      · have ends := stageReturn_of_granted (r := r) active' found' granted
        exact ⟨fun none => runs (ends.trans (endGrant_of_none found' (one lone) leaves none)),
          fun c mem best => runs (ends.trans (endGrant_of_best found' (one lone) leaves mem best))⟩
      · exact runs ((stageReturn_of_issued active' found' issued).trans (if_neg (by simp [fresh])))
      · exact runs ((stageReturn_of_issued active' found' issued).trans (if_pos pending))
    · rintro c rfl rfl arrives role
      exact ⟨fun issued => exec_lotDone_stage live arrives role (stageLotDone_of_issued (by exact live) found' issued),
        fun other => exec_lotDone_stage live arrives role (stageLotDone_of_other (by exact live) found' other)⟩
  · intro h lot ix s absent active
    have live := isLive_of_isActive active
    have absent' : findEntry (heard h s) lot ix = none := absent
    have active' : (heard h s).isActive = true := active
    refine ⟨fun sc o arrives => exec_claim live arrives ?_, fun a sc arrives => exec_accept live arrives
      (stageAccept_of_absent active' absent'), fun r arrives => exec_return live arrives (stageReturn_of_absent absent'), ?_⟩
    · cases o with
      | false => rw [stageClaim_open active', claimOpen, absent']
      | true => rw [stageClaim_owned active', claimOwned, absent']
    · rintro c rfl rfl role arrives
      exact exec_lotDone_stage live arrives role (stageLotDone_of_absent absent')
  · intro h lot ix s idle
    exact ⟨fun sc o arrives => exec_unheeded (p := .claim lot ix sc o) rfl arrives rfl fun live =>
        (if_neg (by simp [live])).trans (stageClaim_of_idle (by exact idle)),
      fun a sc arrives => exec_unheeded (p := .accept lot ix a sc) rfl arrives rfl fun live =>
        (if_neg (by simp [live])).trans (stageAccept_of_idle (by exact idle)),
      fun r arrives => exec_unheeded (p := .return_ lot ix r) rfl arrives rfl fun live =>
        (if_neg (by simp [live])).trans (stageReturn_of_idle (by exact idle))⟩

end Sys2Proof.Machine
end

section
/-! PROOFS. The staging controller's timers and notices (R41, R43, R48, R50, R53, R54). -/
namespace Sys2Proof.Machine

variable {s t u : State} {lot ix n c d : Nat} {e : StageEntry}

/-! ## A stable sort -/

section
variable {α : Type} {before : α → α → Bool}

theorem perm_insertBy (x : α) (xs : List α) : (insertBy before x xs).Perm (x :: xs) := by
  induction xs with
  | nil => rfl
  | cons y ys ih =>
    rw [insertBy]
    split
    · rfl
    · exact (ih.cons y).trans (List.Perm.swap x y ys)

theorem perm_sortBy (xs : List α) : (sortBy before xs).Perm xs := by
  induction xs with
  | nil => rfl
  | cons x xs ih => exact (perm_insertBy x _).trans (ih.cons x)

/-- Of two elements of a list one comes before the other, or is not behind it and stands first in the list. -/
def SortedFrom (before : α → α → Bool) (xs : List α) (a b : α) : Prop :=
  before a b = true ∨ before b a = false ∧ [a, b].Sublist xs

theorem pairwise_sortBy (asymm : ∀ a b, before a b = true → before b a = false)
    (negtrans : ∀ a b c, before b a = false → before c b = false → before c a = false) (xs : List α) :
    (sortBy before xs).Pairwise (SortedFrom before xs) := by
  have behind (l : List α) (a b : α) (h : SortedFrom before l a b) : before b a = false := h.elim (asymm a b) And.left
  induction xs with
  | nil => exact .nil
  | cons x xs ih =>
    have grown : (sortBy before xs).Pairwise (SortedFrom before (x :: xs)) :=
      ih.imp fun h => h.imp_right fun k => ⟨k.1, k.2.cons x⟩
    have inside : ∀ y ∈ sortBy before xs, y ∈ xs := fun y mem => (perm_sortBy xs).subset mem
    rw [sortBy]
    generalize sortBy before xs = ys at grown inside
    clear ih
    induction ys with
    | nil => exact List.pairwise_singleton _ _
    | cons y ys ih =>
      obtain ⟨first, rest⟩ := List.pairwise_cons.1 grown
      obtain ⟨here, there⟩ := List.forall_mem_cons.1 inside
      have follows {z : α} (mem : z ∈ xs) (late : before z x = false) : SortedFrom before (x :: xs) x z :=
        .inr ⟨late, (List.singleton_sublist.2 mem).cons_cons x⟩
      rw [insertBy]
      split
      · next late =>
        have late : before y x = false := by simpa using late
        refine List.pairwise_cons.2 ⟨List.forall_mem_cons.2 ⟨follows here late, fun z mem => ?_⟩, grown⟩
        exact follows (there z mem) (negtrans _ _ _ late (behind _ _ _ (first z mem)))
      · next early =>
        refine List.pairwise_cons.2 ⟨fun z mem => ?_, ih rest there⟩
        rcases (mem_insertBy _ _ _ _).1 mem with rfl | mem
        · exact .inl (by simpa using early)
        · exact first z mem

end

/-! ## One entry among many -/

theorem findEntry_of_only (only : OnlyEntry s lot ix e) : findEntry s lot ix = some e := by
  rw [findEntry, ← List.head?_filter, show s.stage.entries.filter _ = [e] from only]
  rfl

theorem foldl_filter_of_idle {f : State → StageEntry → State} {p : StageEntry → Bool} {xs : List StageEntry}
    (idle : ∀ x ∈ xs, p x = false → ∀ v, f v x = v) (v : State) : xs.foldl f v = (xs.filter p).foldl f v := by
  induction xs generalizing v with
  | nil => rfl
  | cons x xs ih =>
    obtain ⟨first, rest⟩ := List.forall_mem_cons.1 idle
    rw [List.foldl_cons, ih rest, List.filter_cons]
    cases px : p x with
    | true => rfl
    | false => rw [first px]; rfl

/-! ## The offers (R43) -/

/-- The frame of an offer. -/
def offerFrame (zone : Nat) (e : StageEntry) : QFrame :=
  { addr := if zone = 0 then { type := .toAll, value := 0 } else { type := .toZone, value := zone }, payload := .offer e.lot }

theorem foldl_sendOffer (es : List StageEntry) (s : State) :
    es.foldl sendOffer s = s.setLink (s.link.posts (es.map (offerFrame s.start.config.offerZone))) := by
  induction es generalizing s with
  | nil => rfl
  | cons e es ih =>
    have sent : sendOffer s e = s.setLink (s.link.post (offerFrame s.start.config.offerZone e)) := by
      unfold sendOffer offerFrame
      split
      · exact post_eq _ _ s
      · exact post_eq _ _ s
    rw [List.foldl_cons, ih, sent]
    rfl

theorem offerExpiry_eq (s : State) : offerExpiry s = (s.setLink (s.link.posts
    ((offers s).map (offerFrame s.start.config.offerZone)))).setStage
      { s.stage with offerTimer := some (s.now + s.start.config.beaconInterval * 1000) } := by
  rw [offerExpiry, foldl_sendOffer]
  rfl

theorem length_offers_le (s : State) : (offers s).length ≤ 8 := List.length_take_le _ _

theorem offerBefore_iff {x y : StageEntry} : offerBefore s x y = true ↔ y.lot.priority < x.lot.priority ∨
    y.lot.priority = x.lot.priority ∧ s.age y.arrived < s.age x.arrived := by
  simp [offerBefore, eq_comm (a := y.lot.priority)]

theorem offerBefore_eq_false {x y : StageEntry} : offerBefore s x y = false ↔ x.lot.priority ≤ y.lot.priority ∧
    (y.lot.priority = x.lot.priority → s.age x.arrived ≤ s.age y.arrived) := by
  rw [← Bool.not_eq_true, offerBefore_iff]
  omega

/-- The WAITING entries that are not held in the order of the offers. -/
def offerOrder (s : State) : List StageEntry := sortBy (offerBefore s) (offerable s)

theorem offerOrder_sorted (s : State) : (offerOrder s).Pairwise fun x y =>
    y.lot.priority < x.lot.priority ∨ y.lot.priority = x.lot.priority ∧
      (s.age y.arrived < s.age x.arrived ∨ s.age y.arrived = s.age x.arrived ∧ [x, y].Sublist s.stage.entries) := by
  refine (pairwise_sortBy (fun a b h => ?_) (fun a b c h k => ?_) (offerable s)).imp fun {x y} h => ?_
  · rw [offerBefore_iff] at h
    rw [offerBefore_eq_false]
    omega
  · rw [offerBefore_eq_false] at h k ⊢
    omega
  · rcases h with ahead | ⟨level, first⟩
    · rw [offerBefore_iff] at ahead
      omega
    · rw [offerBefore_eq_false] at level
      have listed : [x, y].Sublist s.stage.entries := first.trans List.filter_sublist
      by_cases lower : y.lot.priority < x.lot.priority
      · exact .inl lower
      · by_cases older : s.age y.arrived < s.age x.arrived
        · exact .inr ⟨by omega, .inl older⟩
        · exact .inr ⟨by omega, .inr ⟨by omega, listed⟩⟩

theorem mem_offerable : e ∈ offerable s ↔ e ∈ s.stage.entries ∧ e.state = .waiting ∧ entryHeld s e = false := by
  simp [offerable]

/-- An entry that could be offered and is not, is left out behind eight that are. -/
theorem left_out (could : e ∈ offerable s) (left : e ∉ offers s) : e ∈ (offerOrder s).drop 8 ∧ (offers s).length = 8 := by
  have listed : e ∈ offerOrder s := (mem_sortBy _ _ _).2 could
  have behind : e ∈ (offerOrder s).drop 8 := by
    rw [← List.take_append_drop 8 (offerOrder s)] at listed
    exact (List.mem_append.1 listed).resolve_left left
  refine ⟨behind, ?_⟩
  have long : 0 < ((offerOrder s).drop 8).length := List.length_pos_of_mem behind
  rw [List.length_drop] at long
  have taken : (offers s).length = min 8 (offerOrder s).length := List.length_take
  omega

theorem priority_of_left_out {x : StageEntry} (offered : e ∈ offers s) (could : x ∈ offerable s) (left : x ∉ offers s) :
    x.lot.priority ≤ e.lot.priority := by
  have order := offerOrder_sorted s
  rw [← List.take_append_drop 8 (offerOrder s)] at order
  have := (List.pairwise_append.1 order).2.2 e offered x (left_out could left).1
  omega

theorem offerExpiry_queue (on : s.link.tx ≠ .off) (room : s.link.queue.length ≤ 8) :
    (offerExpiry s).link.queue = s.link.queue ++ (offers s).map (offerFrame s.start.config.offerZone) := by
  rw [offerExpiry_eq]
  refine posts_queue on ?_
  rw [List.length_map]
  have := length_offers_le s
  omega

/-! ## Held entries and peers (R41, R54) -/

section
variable (only : OnlyEntry s lot ix e)
include only

theorem named_of_only : isLot e.lot lot ix = true := by
  have mem : e ∈ [e] := List.mem_singleton_self e
  rw [← show s.stage.entries.filter (fun x => isLot x.lot lot ix) = [e] from only] at mem
  exact (List.mem_filter.1 mem).2

theorem filter_of_only {p : StageEntry → Bool} (mine : p e = true) (rest : ∀ x ∈ s.stage.entries, x = e ∨ p x = false) :
    s.stage.entries.filter p = [e] := by
  refine Eq.trans (List.filter_congr fun x mem => ?_) only
  rcases rest x mem with rfl | other
  · rw [mine, named_of_only only]
  · rw [other]
    symm
    rw [Bool.eq_false_iff]
    intro named
    have one : x ∈ [e] := only ▸ List.mem_filter.2 ⟨mem, named⟩
    rw [List.mem_singleton.1 one, mine] at other
    cases other

theorem stageNotice_of_only (rest : ∀ x ∈ s.stage.entries, x = e ∨ entryHeld s x = false) :
    stageNotice s = if entryHeld s e then holdEntry s e else s := by
  unfold stageNotice
  split
  · next held => rw [filter_of_only only held rest]; rfl
  · next free =>
    have none : s.stage.entries.filter (entryHeld s) = [] := List.filter_eq_nil_iff.2 fun x mem held =>
      (rest x mem).elim (fun is => free (is ▸ held)) fun other => by simp [other] at held
    rw [none]
    rfl

theorem stagePeerGone_of_only {b : Bool}
    (rest : ∀ x ∈ s.stage.entries, x = e ∨ x.state = .waiting ∨ ∃ c, x.state = .issued c) :
    stagePeerGone n b s = peerGoneEntry n b s e := by
  have lone : s.stage.entries.filter (fun x => isLot x.lot lot ix) = [e] := only
  rw [stagePeerGone, foldl_filter_of_idle (p := fun x => isLot x.lot lot ix), lone]
  · rfl
  · intro x mem other v
    rcases rest x mem with rfl | is | ⟨c, is⟩
    · rw [named_of_only only] at other
      cases other
    · simp only [peerGoneEntry, is]
    · simp only [peerGoneEntry, is]

end

theorem roleLost_of_stage (live : s.isLive = true) (role : s.start.role = .stage) : roleLost n s = stagePeerGone n false s := by
  rw [roleLost, if_pos live, role]

theorem roleRestart_of_stage (live : s.isLive = true) (role : s.start.role = .stage) :
    roleRestart n s = stagePeerGone n true s := by rw [roleRestart, if_pos live, role]

theorem roleBack_of_stage (role : s.start.role = .stage) : roleBack n s = s := by
  unfold roleBack
  rw [role]
  exact ite_self s

theorem notice_of_stage {names : List NoticeKey} (live : s.isLive = true) (role : s.start.role = .stage) :
    notice names s = stageNotice s := by rw [notice, if_pos live, role]

/-! ## A CLEAR with SCRAP (R53) -/

theorem raise_setStage (e : Event) (g : Stage) (s : State) : raise e (s.setStage g) = (raise e s).setStage g := by
  rcases raise_cases e s with ⟨room, is⟩ | ⟨full, is⟩
  · rw [is, raise_of_room (by exact room)]
    rfl
  · rw [is, raise, if_neg (Nat.not_lt.2 (by exact full))]
    rfl

/-- The REVOKE that a deleted entry's cell is told. -/
def toldScrapped (key : Nat) (u : State) (e : StageEntry) : State :=
  match e.state with
  | .granted c _ | .claimed c =>
    raise (.lotRevoked key e.lot.index c none) (sendTo c (.revoke key e.lot.index .conflict) u)
  | .waiting | .contest | .issued _ => u

theorem toldScrapped_setStage {key : Nat} (g : Stage) (u : State) (e : StageEntry) :
    toldScrapped key (u.setStage g) e = (toldScrapped key u e).setStage g := by
  have told (c : Nat) : raise (.lotRevoked key e.lot.index c none)
      (sendTo c (.revoke key e.lot.index .conflict) (u.setStage g)) =
      (raise (.lotRevoked key e.lot.index c none) (sendTo c (.revoke key e.lot.index .conflict) u)).setStage g := by
    rw [← raise_setStage, sendTo, post_eq, sendTo, post_eq]
    rfl
  unfold toldScrapped
  split
  · exact told _
  · exact told _
  all_goals rfl

theorem toldScrapped_stage {key : Nat} (u : State) (e : StageEntry) : (toldScrapped key u e).stage = u.stage := by
  unfold toldScrapped
  split <;> simp

theorem removeEntry_eq {key : Nat} (named : e.lot.lotId = key) (s : State) :
    removeEntry e s = (toldScrapped key s e).setStage { s.stage with
      entries := s.stage.entries.filter fun x => !isLot x.lot e.lot.lotId e.lot.index } := by
  rw [← toldScrapped_setStage]
  subst named
  unfold removeEntry toldScrapped
  split <;> rename_i is <;> simp only [is] <;> rfl

theorem foldl_removeEntry {key : Nat} (es : List StageEntry) (named : ∀ e ∈ es, e.lot.lotId = key) (s : State) :
    es.foldl (fun s e => removeEntry e s) s = (es.foldl (toldScrapped key) s).setStage { s.stage with
      entries := s.stage.entries.filter fun x => es.all fun e => !isLot x.lot e.lot.lotId e.lot.index } := by
  induction es generalizing s with
  | nil =>
    have all : (s.stage.entries.filter fun _ => [].all fun e : StageEntry => !isLot e.lot 0 0) = s.stage.entries := by simp
    rw [List.foldl_nil, List.foldl_nil]
    exact (congrArg (fun es => s.setStage { s.stage with entries := es }) all).symm
  | cons e es ih =>
    obtain ⟨first, rest⟩ := List.forall_mem_cons.1 named
    have moved (g : Stage) (v : State) : es.foldl (toldScrapped key) (v.setStage g) = (es.foldl (toldScrapped key) v).setStage g := by
      clear ih named rest
      induction es generalizing v with
      | nil => rfl
      | cons x xs ihx => rw [List.foldl_cons, List.foldl_cons, toldScrapped_setStage, ihx]
    rw [List.foldl_cons, ih rest, removeEntry_eq first, moved, List.foldl_cons]
    refine congrArg (fun es' => ((es.foldl (toldScrapped key) (toldScrapped key s e)).setStage
      { s.stage with entries := es' })) ((List.filter_filter ..).trans (List.filter_congr fun x _ => ?_))
    rw [List.all_cons, Bool.and_comm]

theorem stageHandoff_of_scrap {key : Nat} (live : s.isLive = true) : stageHandoff .lot key .scrap s =
    ((s.stage.entries.filter fun e => e.lot.lotId == key).foldl (toldScrapped key) s).setStage
      { s.stage with entries := s.stage.entries.filter fun e => e.lot.lotId != key } := by
  have mine : ∀ e ∈ s.stage.entries.filter (fun e => e.lot.lotId == key), e.lot.lotId = key := fun e mem => by
    simpa using (List.mem_filter.1 mem).2
  rw [stageHandoff, if_pos (by simp [live]), foldl_removeEntry _ mine]
  generalize (s.stage.entries.filter fun e => e.lot.lotId == key).foldl (toldScrapped key) s = v
  refine congrArg (fun es => v.setStage { s.stage with entries := es }) (List.filter_congr fun x mem => ?_)
  rw [Bool.eq_iff_iff]
  simp only [List.all_eq_true, List.mem_filter, beq_iff_eq, Bool.not_eq_true', bne_iff_ne, ← Bool.not_eq_true, isLot_iff]
  constructor
  · exact fun h own => h x ⟨mem, own⟩ ⟨rfl, rfl⟩
  · exact fun h e ⟨_, own⟩ same => h (same.1.trans own)

/-! ## The timers -/

section
variable (running : s.pins.inReset = false) (only : OnlyEntry s lot ix e)
include running only

theorem exec_contestWindow (contest : e.state = .contest) (window : e.window = some d)
    (is : grantBest lot ix (s.setNow (max s.now d)) = t) : exec (.contestWindowExpiry lot ix) s = .next (settle s t) := by
  refine next_event (body := windowExpiry lot ix) running ?_
  rw [windowExpiry, windowTimer, findEntry_of_only only]
  simp only [contest, if_true, window, expire]
  exact is

theorem exec_acceptTimer {k : Nat} (granted : e.state = .granted c k) (timer : e.accept = some d)
    (is : endGrant lot ix c true (s.setNow (max s.now d)) = t) : exec (.acceptTimerExpiry lot ix) s = .next (settle s t) := by
  refine next_event (body := acceptExpiry lot ix) running ?_
  rw [acceptExpiry, acceptTimer, findEntry_of_only only]
  simp only [Option.map_some, granted, timer, expire]
  exact is

end

/-- Settles O44. -/
theorem stagingTimersGrantAndOffer : Obligations.StagingTimersGrantAndOffer := by
  refine ⟨?_, ?_, ?_, ?_, ?_⟩
  · intro lot ix d e c s running only contest window mem best
    refine exec_contestWindow running only contest window
      ((grantBest_of_best (findEntry_of_only (by exact only)) mem best).trans (congrArg _ (updateEntry_congr (by exact only) rfl)))
  · intro lot ix d c sc e s running only granted timer none
    exact exec_acceptTimer running only granted timer
      (endGrant_of_none (findEntry_of_only (by exact only)) (by exact only) rfl none)
  · intro d s running timer on room
    have run : exec .offerTimerExpiry s = .next (settle s (offerExpiry (s.advanceTo d))) :=
      next_event (body := fun s => expire s.stage.offerTimer offerExpiry s) running (by rw [timer]; rfl)
    obtain ⟨more, queue⟩ := queue_settle s (offerExpiry (s.advanceTo d))
    refine ⟨_, run, ⟨more, ?_⟩, ?_, length_offers_le _, ⟨offerOrder (s.advanceTo d), perm_sortBy _, offerOrder_sorted _, rfl⟩,
      fun x mem waiting free left => (left_out (s := s.advanceTo d) (mem_offerable.2 ⟨mem, waiting, free⟩) left).2, fun e offered => ?_⟩
    · rw [queue, offerExpiry_queue (by exact on) (by exact room)]
      rfl
    · rw [settle_stage, offerExpiry_eq]
      rfl
    · obtain ⟨mem, waiting, free⟩ := mem_offerable.1 ((mem_sortBy _ _ _).1 (List.mem_of_mem_take offered))
      exact ⟨mem, waiting, free, fun x held rests loose left =>
        priority_of_left_out (s := s.advanceTo d) offered (mem_offerable.2 ⟨held, rests, loose⟩) left⟩
  · intro lot ix e s only change waiting best shut next
    have one : OnlyEntry s lot ix e := only
    refine ⟨fun d running contest window none => ?_, fun d old k c running granted timer first => ?_,
      fun names role live named index rest => ⟨fun free => ?_, fun held => ?_⟩, fun n role live named index rest => ?_⟩
    · exact exec_contestWindow running one contest window (grantBest_of_none (findEntry_of_only (by exact only)) none)
    · exact exec_acceptTimer running one granted timer
        (endGrant_of_best (findEntry_of_only (by exact only)) (by exact only) rfl first.1 first.2)
    · rw [notice_of_stage live role, stageNotice_of_only one rest, if_neg (by simp [free])]
    · rw [notice_of_stage live role, stageNotice_of_only one rest, if_pos held]
      subst named index
      refine ⟨fun stays => ?_, fun contest => ?_, fun c taken => ?_⟩
      · rcases stays with is | ⟨c, is⟩ <;> simp only [holdEntry, is]
      · simp only [holdEntry, contest]
        rfl
      · rcases taken with ⟨k, is⟩ | is <;> simp only [holdEntry, is] <;> rfl
    · intro both
      have lost := (roleLost_of_stage (n := n) live role).trans (stagePeerGone_of_only one rest)
      have again := (roleRestart_of_stage (n := n) live role).trans (stagePeerGone_of_only one rest)
      subst named index
      have found := findEntry_of_only one
      have gone {u : State} (is : ∀ b, peerGoneEntry n b s e = u) : both u := ⟨lost.trans (is _), again.trans (is _)⟩
      have drops : updateEntry e.lot.lotId e.lot.index (fun x => { x with claims := dropClaim n x.claims }) s =
          change s fun x => { x with claims := e.claims.filter fun y => y.cell != n } := updateEntry_congr one rfl
      refine ⟨fun stays => gone fun b => ?_, fun bids => gone fun b => ?_, fun k granted => ?_, fun claimed => ⟨?_, ?_⟩,
        roleBack_of_stage role⟩
      · rcases stays with is | ⟨c, is | ⟨is, other⟩⟩
        · simp only [peerGoneEntry, is]
        · simp only [peerGoneEntry, is]
        · simp [peerGoneEntry, is, other]
      · rcases bids with is | ⟨c, k, is, other⟩
        · simp only [peerGoneEntry, is]
          exact drops
        · simp only [peerGoneEntry, is, other, if_false]
          exact drops
      · have ends (b : Bool) : peerGoneEntry n b s e = endGrant e.lot.lotId e.lot.index n true s := by
          simp only [peerGoneEntry, granted, if_true]
        exact ⟨fun none => gone fun b => (ends b).trans (endGrant_of_none found one rfl none),
          fun c first => gone fun b => (ends b).trans (endGrant_of_best found one rfl first.1 first.2)⟩
      · rw [lost]
        simp [peerGoneEntry, claimed]
      · rw [again]
        simp only [peerGoneEntry, claimed, decide_true, Bool.and_self, if_true]
        rfl
  · intro sc key d b s role
    refine ⟨fun rests => ?_, fun live lot scrap => ?_⟩
    · unfold handoff
      rw [role]
      refine ite_eq_right_iff.2 fun live => if_neg ?_
      rcases rests with dead | other | other
      · simp [dead]
      · simp [other]
      · simp [other]
    · intro told
      subst lot scrap
      rw [handoff, if_pos live, role]
      refine (stageHandoff_of_scrap live).trans ?_
      refine congrArg (fun f => (List.foldl f s _).setStage _) (funext₂ fun u e => ?_)
      unfold toldScrapped
      cases e.state <;> rfl

end Sys2Proof.Machine
end

section
/-! PROOFS. The dispatch controller's sightings, claims and grants (R56, R57, R60 to R64, R130). -/
namespace Sys2Proof.Machine

variable {s t u : State} {h : Header} {l : LotRecord} {lot ix n sc : Nat} {x : Sighting}

/-! ## The frames as they arrive -/

section
variable (live : s.isLive = true)
include live

theorem exec_offer (arrives : Arrives h (.offer l) s) (is : cellOffer h.source l (heard h s) = t) :
    exec (.offer h l) s = .next (settle s t) :=
  exec_role (p := .offer l) rfl arrives rfl ((if_neg (by simp [live])).trans is)

theorem exec_grant (arrives : Arrives h (.grant lot ix n sc) s)
    (is : cellGrant h.source lot ix n sc (heard h s) = t) : exec (.grant h lot ix n sc) s = .next (settle s t) :=
  exec_role (p := .grant lot ix n sc) rfl arrives rfl ((if_neg (by simp [live])).trans is)

theorem exec_revoke {r : RevokeReason} (arrives : Arrives h (.revoke lot ix r) s)
    (is : cellRevoke h.source lot ix r (heard h s) = t) : exec (.revoke h lot ix r) s = .next (settle s t) :=
  exec_role (p := .revoke lot ix r) rfl arrives rfl ((if_neg (by simp [live])).trans is)

end

section
variable (idle : s.isActive = false)
include idle

theorem cellOffer_of_idle : cellOffer n l s = s := if_pos (by simp [idle])
theorem cellGrant_of_idle {c : Nat} : cellGrant n lot ix c sc s = s := if_pos (by simp [idle])
theorem cellRevoke_of_idle {r : RevokeReason} : cellRevoke n lot ix r s = s := if_pos (by simp [idle])

end

/-! ## The checks at a GRANT (R62) -/

theorem takeChecks_iff : takeChecks s l = true ↔ s.start.station = .active ∧ s.holds.overflow = false ∧
    lotMatched s.holds (queryOf l) = false ∧ s.cell.outbox.length < 8 := by
  simp only [takeChecks, State.isActive, Bool.and_eq_true, beq_iff_eq, Bool.not_eq_true', decide_eq_true_eq, and_assoc]
  rfl

/-! ## OFFER (R56, R61) -/

theorem bestBy_split_eq {α : Type} {better : α → α → Bool} {pre post : List α} {z : α}
    (ahead : ∀ x ∈ pre, better z x = true) (behind : ∀ x ∈ post, better x z = false) :
    bestBy better (pre ++ z :: post) = some z := by
  induction pre with
  | nil =>
    rw [List.nil_append, bestBy]
    split
    · rfl
    · next y found => rw [if_neg (by simp [behind y (mem_of_bestBy _ found)])]
  | cons x xs ih =>
    obtain ⟨first, rest⟩ := List.forall_mem_cons.1 ahead
    rw [List.cons_append, bestBy, ih rest]
    exact if_pos first

theorem oldestSeen_eq {o : Sighting} {pre post : List Sighting} (split : s.cell.sightings = pre ++ o :: post)
    (seen : isSeen o = true) (ahead : ∀ x ∈ pre, isSeen x = true → s.age x.lastOffered < s.age o.lastOffered)
    (behind : ∀ x ∈ post, isSeen x = true → s.age x.lastOffered ≤ s.age o.lastOffered) : oldestSeen s = some o := by
  rw [oldestSeen, split, List.filter_append, List.filter_cons, if_pos seen]
  refine bestBy_split_eq (fun x mem => ?_) fun x mem => ?_
  · simpa using ahead x (List.mem_filter.1 mem).1 (List.mem_filter.1 mem).2
  · simpa using behind x (List.mem_filter.1 mem).1 (List.mem_filter.1 mem).2

theorem addSighting_of_room (room : s.cell.sightings.length < 32) :
    addSighting x s = setSightings (s.cell.sightings ++ [x]) s := if_pos room

theorem addSighting_of_unseen (full : 32 ≤ s.cell.sightings.length) (unseen : ∀ y ∈ s.cell.sightings, isSeen y = false) :
    addSighting x s = s := by
  have none : oldestSeen s = none := by
    rw [oldestSeen, bestBy_eq_none]
    exact List.filter_eq_nil_iff.2 fun y mem => by simp [unseen y mem]
  rw [addSighting, if_neg (Nat.not_lt.2 (by exact full)), none]

theorem addSighting_of_oldest {o : Sighting} (full : 32 ≤ s.cell.sightings.length) (oldest : oldestSeen s = some o) :
    addSighting x s =
      setSightings ((s.cell.sightings.filter fun y => !isLot y.lot o.lot.lotId o.lot.index) ++ [x]) s := by
  rw [addSighting, if_neg (Nat.not_lt.2 (by exact full)), oldest]

theorem refreshSighting_eq (y : Sighting) : refreshSighting n l s y =
    { y with
      lot := l, stage := n, lastOffered := s.clock, state := if y.stage = n then y.state else .seen,
      marked := if y.stage = n then y.marked else false } := by
  unfold refreshSighting Sighting.toSeen
  split <;> simp only [*]

section
variable (active : s.isActive = true)
include active

theorem cellOffer_of_activeLot (mine : isActiveLot s.cell l.lotId l.index = true) : cellOffer n l s =
    if s.holds.overflow then s else sendTo n (.claim l.lotId l.index 255 true) s :=
  (if_neg (by simp [active])).trans (if_pos mine)

theorem cellOffer_of_queued (other : isActiveLot s.cell l.lotId l.index = false)
    (queued : inQueue s.cell l.lotId l.index = true) : cellOffer n l s =
      if s.holds.overflow then s else sendTo n (.claim l.lotId l.index (load s.cell) true) s :=
  (if_neg (by simp [active])).trans ((if_neg (by simp [other])).trans (if_pos queued))

section
variable (other : isActiveLot s.cell l.lotId l.index = false) (unqueued : inQueue s.cell l.lotId l.index = false)
include other unqueued

theorem cellOffer_of_matched (held : lotMatched s.holds (queryOf l) = true) :
    cellOffer n l s = dropSighting l.lotId l.index s :=
  (if_neg (by simp [active])).trans ((if_neg (by simp [other])).trans ((if_neg (by simp [unqueued])).trans (if_pos held)))

variable (free : lotMatched s.holds (queryOf l) = false)
include free

theorem cellOffer_of_known (known : findSighting s l.lotId l.index = some x) : cellOffer n l s =
    updateSighting l.lotId l.index (refreshSighting n l s) s := by
  simp [cellOffer, active, other, unqueued, free, known]

theorem cellOffer_of_new (new : findSighting s l.lotId l.index = none) :
    cellOffer n l s = addSighting (newSighting n l s) s := by
  simp [cellOffer, active, other, unqueued, free, new]

end

/-! ## GRANT (R57, R62) -/

theorem cellGrant_here : cellGrant n lot ix s.start.number sc s = grantHere n lot ix sc s :=
  (if_neg (by simp [active])).trans (if_pos rfl)

theorem cellGrant_elsewhere {c : Nat} (other : c ≠ s.start.number) :
    cellGrant n lot ix c sc s = grantElsewhere n lot ix s := (if_neg (by simp [active])).trans (if_neg other)

end

theorem grantHere_of_held (held : inQueue s.cell lot ix = true ∨ isActiveLot s.cell lot ix = true) :
    grantHere n lot ix sc s = sendTo n (.accept lot ix .take sc) s := if_pos (by simpa using held)

section
variable (unqueued : inQueue s.cell lot ix = false) (other : isActiveLot s.cell lot ix = false)
include unqueued other

theorem grantHere_of_strange (strange : findSighting s lot ix = none ∨ ∃ x, findSighting s lot ix = some x ∧ x.stage ≠ n) :
    grantHere n lot ix sc s = sendTo n (.accept lot ix .decline sc) s := by
  rw [grantHere, if_neg (by simp [unqueued, other])]
  rcases strange with none | ⟨x, found, away⟩
  · rw [none]
    rfl
  · rw [found]
    exact if_neg away

variable (found : findSighting s lot ix = some x) (here : x.stage = n)
include found here

theorem grantHere_of_declined (declines : isSeen x = true ∨ takeChecks s x.lot = false) :
    grantHere n lot ix sc s = dropSighting lot ix (sendTo n (.accept lot ix .decline sc) s) := by
  rw [grantHere, if_neg (by simp [unqueued, other]), found]
  cases seen : isSeen x with
  | true => simp only [here, if_true, seen, sendAccept]
  | false =>
    have fails := declines.resolve_left (by simp [seen])
    simp only [here, if_true, seen, fails, sendAccept, Bool.false_eq_true, if_false]

theorem grantHere_of_taken (pending : isSeen x = false) (passes : takeChecks s x.lot = true) : grantHere n lot ix sc s =
    raise (.lotGranted lot ix n) ((sendTo n (.accept lot ix .take sc) s).setCell { s.cell with
      sightings := s.cell.sightings.filter fun y => !isLot y.lot lot ix,
      queue := s.cell.queue ++ [{ lot := x.lot, stage := n, accepted := s.clock }] }) := by
  rw [grantHere, if_neg (by simp [unqueued, other]), found]
  simp only [here, if_true, pending, passes, sendAccept, Bool.false_eq_true, if_false, dropSighting, setSightings, sendTo_eq]
  rfl

end

theorem grantElsewhere_of_strange
    (strange : findSighting s lot ix = none ∨ ∃ x, findSighting s lot ix = some x ∧ x.stage ≠ n) :
    grantElsewhere n lot ix s = s := by
  rw [grantElsewhere]
  rcases strange with none | ⟨x, found, away⟩
  · rw [none]
  · rw [found]
    exact if_neg away

theorem grantElsewhere_of_known (found : findSighting s lot ix = some x) (here : x.stage = n) : grantElsewhere n lot ix s =
    if isSeen x then dropSighting lot ix s else updateSighting lot ix (fun y => { y with marked := true }) s := by
  rw [grantElsewhere, found]
  exact if_pos here

/-! ## REVOKE (R63) -/

theorem raise_setCell (e : Event) (c : Cell) (s : State) : raise e (s.setCell c) = (raise e s).setCell c := by
  rcases raise_cases e s with ⟨room, is⟩ | ⟨full, is⟩
  · rw [is, raise_of_room (by exact room)]
    rfl
  · rw [is, raise, if_neg (Nat.not_lt.2 (by exact full))]
    rfl

theorem cellRevoke_of_queued {r : RevokeReason} {q : QueuedLot} (active : s.isActive = true) (mem : q ∈ s.cell.queue)
    (named : isLot q.lot lot ix = true) (here : q.stage = n) : cellRevoke n lot ix r s =
      (raise (.lotRevoked lot ix n (some r)) s).setCell { s.cell with
        queue := s.cell.queue.filter fun y => !isLot y.lot lot ix,
        sightings := s.cell.sightings.filter fun y => !isLot y.lot lot ix } := by
  have any : s.cell.queue.any (fun q => isLot q.lot lot ix && q.stage == n) = true :=
    List.any_eq_true.2 ⟨q, mem, by simp [named, here]⟩
  rw [cellRevoke, if_neg (by simp [active]), any, if_pos rfl, raise_setCell]
  rfl

theorem cellRevoke_of_unqueued {r : RevokeReason} (active : s.isActive = true)
    (none : ∀ q ∈ s.cell.queue, isLot q.lot lot ix = true → q.stage ≠ n) :
    cellRevoke n lot ix r s = dropSighting lot ix s := by
  have any : s.cell.queue.any (fun q => isLot q.lot lot ix && q.stage == n) = false :=
    List.any_eq_false.2 fun q mem => by simpa using none q mem
  rw [cellRevoke, if_neg (by simp [active]), any]
  rfl

/-! ## Ageing and lapse (R57, R60) -/

theorem findSighting_lot (found : findSighting s lot ix = some x) : x.lot.lotId = lot ∧ x.lot.index = ix :=
  isLot_iff.1 (List.find?_some found :)

theorem expire_agedAt {act : State → State} (stored ms : Nat) :
    expire (some (agedAt s stored ms)) act s = act (s.setNow (s.now + (ms - s.age stored))) := by
  rw [expire, State.advanceTo, agedAt, Nat.max_eq_right (Nat.le_add_right _ _)]

section
variable (active : s.isActive = true) (found : findSighting s lot ix = some x)
include active found

theorem ageSighting_of_seen (seen : x.state = .seen) : ageSighting lot ix s =
    dropSighting lot ix (s.setNow (s.now + (3 * s.beaconMs - s.age x.lastOffered))) := by
  rw [ageSighting, found]
  refine Eq.trans ?_ (expire_agedAt x.lastOffered (3 * s.beaconMs))
  simp [ageingMoment, active, isSeen, seen]

theorem lapseExpiry_of_pending {t : Nat} (pending : x.state = .pending sc t) : lapseExpiry lot ix s =
    lapseClaim x (s.setNow (s.now + (2 * s.beaconMs - s.age t))) := by
  rw [lapseExpiry, found]
  refine Eq.trans ?_ (expire_agedAt t (2 * s.beaconMs))
  simp [lapseMoment, active, pending]

end

theorem lapseClaim_of_gone (gone : x.marked = true ∨ sightingAged s x = true) :
    lapseClaim x s = dropSighting x.lot.lotId x.lot.index s := if_pos (by simpa using gone)

theorem lapseClaim_of_kept (unmarked : x.marked = false) (young : sightingAged s x = false) :
    lapseClaim x s = updateSighting x.lot.lotId x.lot.index Sighting.toSeen s := if_neg (by simp [unmarked, young])

/-! ## A held-state notice (R57, R64, R130) -/

theorem holdReasonCode_injective {a b : HoldReason} (h : holdReasonCode a = holdReasonCode b) : a = b := by
  exact Option.some.inj ((holdReasonOf_code a).symm.trans ((congrArg (fun c => holdReasonOf (c % 256)) h).trans (holdReasonOf_code b)))

theorem holdReasonCode_lt (r : HoldReason) : holdReasonCode r < 16 := by cases r <;> decide

theorem reasonBit_in (m : Mask16) (r : HoldReason) :
    m &&& reasonBit r ≠ 0#16 ↔ m.getLsbD (holdReasonCode r) = true := by
  rw [reasonBit, BitVec.and_twoPow]
  cases bit : m.getLsbD (holdReasonCode r) with
  | false => simp
  | true =>
    refine ⟨fun _ => rfl, fun _ zero => ?_⟩
    have set := congrArg (BitVec.getLsbD · (holdReasonCode r)) zero
    simp [holdReasonCode_lt] at set

theorem reasonBit_self_iff {q r : HoldReason} : (reasonBit q).getLsbD (holdReasonCode r) = true ↔ q = r := by
  rw [reasonBit, BitVec.getLsbD_twoPow]
  simp only [Bool.and_eq_true, decide_eq_true_eq]
  exact ⟨fun h => holdReasonCode_injective h.2, fun h => ⟨holdReasonCode_lt q, by rw [h]⟩⟩

theorem mem_reasonsOf {rs : List HoldRec} {r : HoldReason} :
    reasonsOf rs &&& reasonBit r ≠ 0#16 ↔ ∃ x ∈ rs, x.reason = r := by
  have grows (m : Mask16) : (rs.foldl (fun m r => m ||| reasonBit r.reason) m).getLsbD (holdReasonCode r) = true ↔
      m.getLsbD (holdReasonCode r) = true ∨ ∃ x ∈ rs, x.reason = r := by
    induction rs generalizing m with
    | nil => simp
    | cons y ys ih =>
      rw [List.foldl_cons, ih, BitVec.getLsbD_or, Bool.or_eq_true, reasonBit_self_iff, List.exists_mem_cons_iff, or_assoc]
  rw [reasonBit_in, reasonsOf, grows]
  simp

theorem mem_reasons_or {a b : Mask16} {r : HoldReason} :
    (a ||| b) &&& reasonBit r ≠ 0#16 ↔ a &&& reasonBit r ≠ 0#16 ∨ b &&& reasonBit r ≠ 0#16 := by
  rw [reasonBit_in, reasonBit_in, reasonBit_in, BitVec.getLsbD_or, Bool.or_eq_true]

theorem returnHeld_setCell (c : Cell) (u : State) (q : QueuedLot) :
    returnHeld (u.setCell c) q = (returnHeld u q).setCell c := by
  rw [returnHeld, returnHeld, ← raise_setCell, sendTo_eq, sendTo_eq]
  rfl

theorem foldl_returnHeld_setCell (qs : List QueuedLot) (c : Cell) (u : State) :
    qs.foldl returnHeld (u.setCell c) = (qs.foldl returnHeld u).setCell c := by
  induction qs generalizing u with
  | nil => rfl
  | cons q qs ih => rw [List.foldl_cons, returnHeld_setCell, ih]; rfl

theorem foldl_returnHeld_cell (qs : List QueuedLot) (u : State) : (qs.foldl returnHeld u).cell = u.cell := by
  induction qs generalizing u with
  | nil => rfl
  | cons q qs ih =>
    rw [List.foldl_cons, ih]
    simp [returnHeld]

/-- The reasons of the holds that match an active lot have joined its own, unless it is FINISHED. -/
def withReasons (h : HoldTable) (a : ActiveLot) : ActiveLot :=
  if a.phase = .finished then a
  else { a with reasons := a.reasons ||| reasonsOf (matchingHolds h (queryOf a.lot)) }

theorem notice_of_cell {names : List NoticeKey} (live : s.isLive = true) (role : s.start.role = .cell) : notice names s =
    (s.cell.queue.filter fun q => lotHeld s.holds (queryOf q.lot)).foldl returnHeld (s.setCell { s.cell with
      sightings := s.cell.sightings.filter fun x => !lotMatched s.holds (queryOf x.lot),
      queue := s.cell.queue.filter fun q => !lotHeld s.holds (queryOf q.lot),
      active := s.cell.active.map (withReasons s.holds) }) := by
  have holds : (cellNoticeLots s).holds = s.holds := (acts_cellNoticeLots s).holds
  have cell : (cellNoticeLots s).cell = { s.cell with
      sightings := s.cell.sightings.filter fun x => !lotMatched s.holds (queryOf x.lot),
      queue := s.cell.queue.filter fun q => !lotHeld s.holds (queryOf q.lot) } := by
    rw [cellNoticeLots, foldl_returnHeld_cell]
    rfl
  have split : notice names s = noteReasons (cellNoticeLots s) := by rw [notice, if_pos live, role]
  rw [split, noteReasons, updateActive, holds, cell, cellNoticeLots, ← foldl_returnHeld_setCell]
  rfl

/-- Settles O45. -/
theorem sightingsClaimsAndGrants : Obligations.SightingsClaimsAndGrants := by
  have unmatched (s : State) (l : LotRecord) : lotMatched s.holds (queryOf l) = false ↔
      ∀ x ∈ s.holds.records, x.hold.state = .inForce →
        ¬(x.hold.scope = .lot ∧ x.hold.key = l.lotId ∨ x.hold.scope = .product ∧ x.hold.key = l.product ∨
          x.hold.scope = .group ∧ x.hold.key = l.group ∧ l.group ≠ 0 ∨
          x.hold.scope = .program ∧ x.hold.key = l.program) := by
    rw [← Bool.not_eq_true, lotMatched_iff]
    simp only [not_exists, not_and]
  refine ⟨fun s l => ?_, fun h s idle => ⟨fun l arrives => ?_, fun lot ix n sc arrives => ?_, fun lot ix r arrives => ?_⟩, ?_⟩
  · rw [takeChecks_iff, unmatched]
  · exact exec_unheeded (p := .offer l) rfl arrives rfl fun live =>
      (if_neg (by simp [live])).trans (cellOffer_of_idle (by exact idle))
  · exact exec_unheeded (p := .grant lot ix n sc) rfl arrives rfl fun live =>
      (if_neg (by simp [live])).trans (cellGrant_of_idle (by exact idle))
  · exact exec_unheeded (p := .revoke lot ix r) rfl arrives rfl fun live =>
      (if_neg (by simp [live])).trans (cellRevoke_of_idle (by exact idle))
  intro s active role sight without changed
  have live := isLive_of_isActive active
  have active' (h : Header) : (heard h s).isActive = true := active
  have sendsTo (h : Header) (p : Payload) (lot ix : Nat) : dropSighting lot ix (sendTo h.source p (heard h s)) =
      (sendTo h.source p (heard h s)).setCell { s.cell with sightings := without lot ix } := by
    rw [dropSighting, setSightings, sendTo_cell]
    rfl
  refine ⟨?_, ?_, ?_, ?_, ?_, ?_, ?_, ?_, ?_, ?_⟩
  · intro h l arrives other unqueued free new room
    exact exec_offer live arrives ((cellOffer_of_new (s := heard h s) (active' h) other unqueued free new).trans
      (addSighting_of_room (s := heard h s) (by exact room)))
  · intro h l arrives clear
    have sends {u v : State} : (if (heard h s).holds.overflow then u else v) = v := if_neg (by simp [clear])
    exact ⟨fun mine => exec_offer live arrives ((cellOffer_of_activeLot (s := heard h s) (active' h) mine).trans sends),
      fun other queued => exec_offer live arrives ((cellOffer_of_queued (s := heard h s) (active' h) other queued).trans sends)⟩
  · intro h l arrives offered mine new
    have runs {u : State} (is : cellOffer h.source l (heard h s) = u) : offered u := exec_offer live arrives is
    have apart (free : mine = false) : isActiveLot s.cell l.lotId l.index = false ∧ inQueue s.cell l.lotId l.index = false :=
      Bool.or_eq_false_iff.1 free
    refine ⟨fun own flooded => ?_, fun strange held => ?_, fun strange free => ⟨fun x known => ?_, fun unknown full => ?_⟩⟩
    · have quiet {v : State} : (if (heard h s).holds.overflow then heard h s else v) = heard h s := if_pos flooded
      cases is : isActiveLot s.cell l.lotId l.index with
      | true => exact runs ((cellOffer_of_activeLot (s := heard h s) (active' h) is).trans quiet)
      | false =>
        have queued : inQueue s.cell l.lotId l.index = true := (Bool.or_eq_true _ _ ▸ own).resolve_left (by simp [is])
        exact runs ((cellOffer_of_queued (s := heard h s) (active' h) is queued).trans quiet)
    · obtain ⟨other, unqueued⟩ := apart strange
      exact runs (cellOffer_of_matched (s := heard h s) (active' h) other unqueued held)
    · obtain ⟨other, unqueued⟩ := apart strange
      refine runs ((cellOffer_of_known (s := heard h s) (active' h) other unqueued free known).trans ?_)
      refine congrArg (fun xs => sight xs (heard h s)) (List.map_congr_left fun y mem => ?_)
      split
      · exact refreshSighting_eq y
      · rfl
    · obtain ⟨other, unqueued⟩ := apart strange
      have made := cellOffer_of_new (s := heard h s) (n := h.source) (active' h) other unqueued free unknown
      refine ⟨fun unseen => runs (made.trans (addSighting_of_unseen (s := heard h s) (by exact full) unseen)),
        fun o pre post split seen ahead behind => runs (made.trans (addSighting_of_oldest (s := heard h s) (by exact full) ?_))⟩
      exact oldestSeen_eq (s := heard h s) split seen ahead behind
  · intro h lot ix sc x arrives unqueued other found here
    have grants := cellGrant_here (s := heard h s) (n := h.source) (lot := lot) (ix := ix) (sc := sc) (active' h)
    refine ⟨fun pending passes => exec_grant live arrives (grants.trans
      (grantHere_of_taken (s := heard h s) unqueued other found here pending (by exact passes))), fun declines => ?_⟩
    exact exec_grant live arrives (grants.trans
      ((grantHere_of_declined (s := heard h s) unqueued other found here (by exact declines)).trans (sendsTo h _ lot ix)))
  · intro h lot ix sc arrives answers
    have grants := cellGrant_here (s := heard h s) (n := h.source) (lot := lot) (ix := ix) (sc := sc) (active' h)
    exact ⟨fun held => exec_grant live arrives (grants.trans (grantHere_of_held (s := heard h s) held)),
      fun unqueued other strange => exec_grant live arrives (grants.trans (grantHere_of_strange (s := heard h s) unqueued other strange))⟩
  · intro h lot ix n sc arrives other heardOf
    have grants := cellGrant_elsewhere (s := heard h s) (n := h.source) (lot := lot) (ix := ix) (sc := sc) (active' h) other
    refine ⟨fun x found here => ?_,
      fun strange => exec_grant live arrives (grants.trans (grantElsewhere_of_strange (s := heard h s) strange))⟩
    have known := grants.trans (grantElsewhere_of_known (s := heard h s) found here)
    exact ⟨fun seen => exec_grant live arrives (known.trans (if_pos seen)),
      fun pending => exec_grant live arrives (known.trans (if_neg (by simp [pending])))⟩
  · intro h lot ix r q arrives mem named here
    exact exec_revoke live arrives (cellRevoke_of_queued (s := heard h s) active mem named here)
  · intro h lot ix r arrives none
    exact exec_revoke live arrives (cellRevoke_of_unqueued (s := heard h s) active none)
  · intro lot ix x running found gone
    obtain ⟨lotIs, ixIs⟩ := findSighting_lot found
    have lapses {v : State} (is : lapseExpiry lot ix s = v) : exec (.claimLapse lot ix) s = .next (settle s v) :=
      next_event (body := lapseExpiry lot ix) running is
    have drops (n : Nat) : dropSighting x.lot.lotId x.lot.index (s.setNow n) = gone n := by
      rw [lotIs, ixIs]
      rfl
    refine ⟨fun seen => next_event (body := ageSighting lot ix) running (ageSighting_of_seen active found seen),
      fun sc t pending marked => ?_, fun sc t pending unmarked => ?_⟩
    · exact lapses ((lapseExpiry_of_pending active found pending).trans
        ((lapseClaim_of_gone (.inl marked)).trans (drops _)))
    · intro n old
      have ends := lapseExpiry_of_pending active found pending
      have aged : sightingAged (s.setNow n) x = true ↔ old := by
        rw [sightingAged, decide_eq_true_eq]
        rfl
      refine ⟨fun is => lapses (ends.trans ((lapseClaim_of_gone (.inr (aged.2 is))).trans (drops n))), fun young => ?_⟩
      refine lapses (ends.trans ((lapseClaim_of_kept unmarked (Bool.eq_false_iff.2 fun is => young (aged.1 is))).trans ?_))
      rw [lotIs, ixIs]
      rfl
  · intro names hits
    refine ⟨fun l => lotMatched_iff, s.cell.active.map (withReasons s.holds), notice_of_cell live role, ?_, fun a is => ?_⟩
    · intro none
      rw [none]
      rfl
    · rw [is, Option.map_some]
      unfold withReasons
      by_cases finished : a.phase = .finished
      · rw [if_pos finished]
        exact ⟨a.reasons, rfl, fun _ => rfl, fun no => absurd finished no⟩
      · rw [if_neg finished]
        refine ⟨_, rfl, fun no => absurd no finished, fun _ r => ?_⟩
        rw [mem_reasons_or, mem_reasonsOf]
        refine or_congr_right ⟨?_, ?_⟩
        · rintro ⟨y, mem, rfl⟩
          obtain ⟨listed, matches_⟩ := List.mem_filter.1 mem
          obtain ⟨x, held, rfl⟩ := List.mem_map.1 listed
          rw [holdMatches, Bool.and_eq_true, beq_iff_eq, keyMatches_iff] at matches_
          exact ⟨x, held, matches_, rfl⟩
        · rintro ⟨x, mem, matches_, reason⟩
          refine ⟨x.hold, List.mem_filter.2 ⟨List.mem_map_of_mem mem, ?_⟩, reason⟩
          rw [holdMatches, Bool.and_eq_true, beq_iff_eq, keyMatches_iff]
          exact matches_

end Sys2Proof.Machine
end

section
/-! PROOFS. The done outbox (R70, R72, R73). -/
namespace Sys2Proof.Machine

variable {s t u : State} {h : Header} {lot ix n i : Nat} {r q : OutboxRecord} {xs : List OutboxRecord}

/-! ## The lists -/

theorem getElem?_modifyAt {α : Type} (f : α → α) (n : Nat) (l : List α) (j : Nat) :
    (modifyAt f n l)[j]? = if j = n then l[j]?.map f else l[j]? := by
  induction l generalizing n j with
  | nil => simp [modifyAt]
  | cons x xs ih =>
    cases n with
    | zero => cases j <;> simp [modifyAt]
    | succ n =>
      cases j with
      | zero => simp [modifyAt]
      | succ j => simp [modifyAt, ih]

/-- A record whose LOT-DONE is sent once more. -/
def counted (r : OutboxRecord) : OutboxRecord := { r with sent := min (r.sent + 1) 255 }

/-- The outbox after an expiry that sends two records: both are counted, and the second is marked. -/
def deliveredTwo (i : Nat) (xs : List OutboxRecord) : List OutboxRecord :=
  xs.zipIdx.map fun p => { p.1 with
    sent := if p.2 = 0 ∨ p.2 = i then min (p.1.sent + 1) 255 else p.1.sent, mark := p.2 == i }

theorem markAt_counted (second : i ≠ 0) (xs : List OutboxRecord) :
    markAt i (modifyAt counted i (modifyAt counted 0 xs)) = deliveredTwo i xs := by
  refine List.ext_getElem? fun j => ?_
  simp only [markAt, deliveredTwo, List.getElem?_map, List.getElem?_zipIdx, getElem?_modifyAt, Option.map_map, Nat.zero_add]
  cases xs[j]? with
  | none => simp
  | some x =>
    by_cases first : j = 0
    · subst first
      simp [counted, Ne.symm second, second]
    · by_cases here : j = i
      · simp [counted, here, second]
      · simp [first, here, Ne.symm here]

/-! ## The delivery (R73) -/

theorem sendLotDone_eq (at_ : s.cell.outbox[i]? = some r) : sendLotDone i s =
    (sendAll (.lotDone r.record) s).setCell { s.cell with outbox := modifyAt counted i s.cell.outbox } := by
  rw [sendLotDone, at_]
  simp only [setOutbox, sendAll_cell]
  rfl

theorem secondSend_counted (xs : List OutboxRecord) : secondSend (modifyAt counted 0 xs) = secondSend xs := by
  cases xs with
  | nil => rfl
  | cons x xs => simp [modifyAt, secondSend, counted, List.findIdx?_cons]

/-- The delivery timer started again at one beacon interval. -/
def deliveryRestarted (s : State) : State := s.setCell { s.cell with deliveryTimer := s.after s.beaconMs }

theorem deliveryExpiry_of_few {v : State} (first : sendLotDone 0 s = v) (few : ¬2 ≤ v.cell.outbox.length) :
    deliveryExpiry s = deliveryRestarted v := by
  subst first
  exact congrArg deliveryRestarted (if_neg few)

theorem deliveryExpiry_of_many {v w : State} (first : sendLotDone 0 s = v) (many : 2 ≤ v.cell.outbox.length)
    (next : sendLotDone (secondSend v.cell.outbox) v = w) : deliveryExpiry s =
      deliveryRestarted (setOutbox (markAt (secondSend v.cell.outbox) w.cell.outbox) w) := by
  subst first next
  exact congrArg deliveryRestarted (if_pos many)

theorem deliveryExpiry_of_one (one : s.cell.outbox = [r]) : deliveryExpiry s =
    (sendAll (.lotDone r.record) s).setCell { s.cell with
      outbox := [counted r], deliveryTimer := some (s.now + s.start.config.beaconInterval * 1000) } := by
  have first := sendLotDone_eq (s := s) (i := 0) (r := r) (by rw [one]; rfl)
  rw [one] at first
  rw [deliveryExpiry_of_few first (show ¬2 ≤ 1 by decide), sendAll, post_eq]
  rfl

theorem deliveryExpiry_of_two (many : 2 ≤ s.cell.outbox.length) (second : i ≠ 0) (first : s.cell.outbox[0]? = some r)
    (next : s.cell.outbox[i]? = some q) (send : secondSend s.cell.outbox = i) : deliveryExpiry s =
    (sendAll (.lotDone q.record) (sendAll (.lotDone r.record) s)).setCell { s.cell with
      outbox := deliveredTwo i s.cell.outbox,
      deliveryTimer := some (s.now + s.start.config.beaconInterval * 1000) } := by
  have sent := sendLotDone_eq first
  generalize sent_is : (sendAll (.lotDone r.record) s).setCell { s.cell with outbox := modifyAt counted 0 s.cell.outbox } = v
    at sent
  have outbox : v.cell.outbox = modifyAt counted 0 s.cell.outbox := by rw [← sent_is]; rfl
  have target : secondSend v.cell.outbox = i := by rw [outbox, secondSend_counted, send]
  have again := sendLotDone_eq (s := v) (i := i) (r := q) (by rw [outbox, getElem?_modifyAt, if_neg second, next])
  rw [deliveryExpiry_of_many sent (by rw [outbox]; simpa using many) (by rw [target, again]), target,
    ← markAt_counted second, outbox, ← sent_is, sendAll, sendAll, sendAll, post_eq, post_eq, post_eq]
  rfl

theorem secondSend_of_marks (marks : (∀ x ∈ xs, x.mark = false) ∧ i = 1 ∨
    ∃ k m, xs[k]? = some m ∧ m.mark = true ∧ (∀ j x, j < k → xs[j]? = some x → x.mark = false) ∧
      i = if k + 1 < xs.length then k + 1 else 1) : secondSend xs = i := by
  rw [secondSend]
  rcases marks with ⟨none, rfl⟩ | ⟨k, m, at_, mark, before, rfl⟩
  · rw [List.findIdx?_eq_none_iff.2 none]
  · obtain ⟨low, is⟩ := List.getElem?_eq_some_iff.1 at_
    have found : xs.findIdx? OutboxRecord.mark = some k := List.findIdx?_eq_some_iff_getElem.2
      ⟨low, by rw [is]; exact mark, fun j less => by simp [before j _ less (List.getElem?_eq_getElem (less.trans low))]⟩
    rw [found]

/-! ## DONE-TAKEN (R70, R73) -/

theorem exec_doneTaken (live : s.isLive = true) (arrives : Arrives h (.doneTaken lot ix) s)
    (is : cellDoneTaken h.source lot ix (heard h s) = t) : exec (.doneTaken h lot ix) s = .next (settle s t) :=
  exec_role (p := .doneTaken lot ix) rfl arrives rfl ((if_neg (by simp [live])).trans is)

theorem takeRecord_of_some (at_ : xs[i]? = some r) : takeRecord i xs =
    if r.mark = true ∧ 0 < i then (xs.eraseIdx i).zipIdx.map fun p => { p.1 with mark := p.2 == i - 1 }
    else xs.eraseIdx i := by
  have marks (ys : List OutboxRecord) : markAt (i - 1) ys = ys.zipIdx.map fun p => { p.1 with mark := p.2 == i - 1 } :=
    List.map_congr_left fun p _ => by simp only [Bool.beq_comm (a := i - 1)]
  simp only [takeRecord, at_, marks]
  cases mark : r.mark with
  | false => simp
  | true =>
    cases i with
    | zero => simp
    | succ i => simp

/-- The record a DONE-TAKEN is for: the first of its lot, from the pack station it names. -/
theorem findIdx_of_first (at_ : xs[i]? = some r) (named : isRecordOf r.record lot ix = true)
    (here : r.record.packStation = n) (first : ∀ j x, j < i → xs[j]? = some x → isRecordOf x.record lot ix = false) :
    xs.findIdx? (fun r => isRecordOf r.record lot ix && r.record.packStation == n) = some i := by
  obtain ⟨low, is⟩ := List.getElem?_eq_some_iff.1 at_
  exact List.findIdx?_eq_some_iff_getElem.2 ⟨low, by simp [is, named, here],
    fun j less => by simp [first j _ less (List.getElem?_eq_getElem (less.trans low))]⟩

theorem cellDoneTaken_of_found (active : s.isActive = true)
    (found : s.cell.outbox.findIdx? (fun r => isRecordOf r.record lot ix && r.record.packStation == n) = some i)
    {rest : List OutboxRecord} (takes : takeRecord i s.cell.outbox = rest) : cellDoneTaken n lot ix s =
      admitWaiting (s.setCell { s.cell with
        outbox := rest, deliveryTimer := if rest.isEmpty then none else s.cell.deliveryTimer }) := by
  rw [cellDoneTaken, if_neg (by simp [active]), found]
  simp only [takes]
  refine congrArg admitWaiting ?_
  cases rest with
  | nil => rfl
  | cons x xs => rfl

theorem cellDoneTaken_of_unknown (active : s.isActive = true)
    (none : ∀ x ∈ s.cell.outbox, isRecordOf x.record lot ix = false ∨ x.record.packStation ≠ n) :
    cellDoneTaken n lot ix s = s := by
  have found : s.cell.outbox.findIdx? (fun r => isRecordOf r.record lot ix && r.record.packStation == n) = Option.none :=
    List.findIdx?_eq_none_iff.2 fun x mem => by simpa [imp_iff_not_or] using none x mem
  rw [cellDoneTaken, if_neg (by simp [active]), found]

theorem admitWaiting_of_none (none : ∀ a, s.cell.active = some a → a.waiting = none) : admitWaiting s = s := by
  unfold admitWaiting
  split
  · next a active =>
    rw [none a active]
  · rfl

theorem admitWaiting_of_some {a : ActiveLot} {c : Completion} (active : s.cell.active = some a) (waits : a.waiting = some c)
    (room : s.cell.outbox.length < 8) (filled : s.cell.outbox ≠ [])
    (fresh : ∀ x ∈ s.cell.outbox, isRecordOf x.record c.lotId c.index = false) : admitWaiting s =
      s.setCell { s.cell with
        active := some { a with waiting := none },
        outbox := s.cell.outbox ++ [{ record := c, sent := 0, mark := false }] } := by
  have absent (b : Option ActiveLot) : outboxHas { s.cell with active := b } c.lotId c.index = false :=
    List.any_eq_false.2 fun x mem => by simp [fresh x mem]
  have there : s.cell.outbox.isEmpty = false := by simpa using filled
  simp only [admitWaiting, active, waits]
  rw [if_pos (by exact room), enterOutbox, if_neg (by exact Bool.eq_false_iff.1 (absent _))]
  rw [if_neg (by exact Bool.eq_false_iff.1 there)]
  rfl

/-- Settles O46. -/
theorem outboxDeliversAndRetires : Obligations.OutboxDeliversAndRetires := by
  intro s role
  have expires {d : Nat} {v : State} (running : s.pins.inReset = false) (timer : s.cell.deliveryTimer = some d)
      (is : deliveryExpiry (s.setNow (max s.now d)) = v) : exec .deliveryTimerExpiry s = .next (settle s v) :=
    next_event (body := fun s => expire s.cell.deliveryTimer deliveryExpiry s) running (by rw [timer]; exact is)
  refine ⟨?_, ?_, ?_, ?_, ?_, ?_⟩
  · intro h lot ix r arrives active one named here calm
    have found := findIdx_of_first (xs := s.cell.outbox) (i := 0) (by rw [one]; rfl) named here (fun j x no => by omega)
    have takes : takeRecord 0 (heard h s).cell.outbox = [] := by
      rw [show (heard h s).cell.outbox = [r] from one, takeRecord_of_some (r := r) rfl, if_neg (by simp)]
      rfl
    exact exec_doneTaken (isLive_of_isActive active) arrives
      ((cellDoneTaken_of_found (s := heard h s) active found takes).trans (admitWaiting_of_none calm))
  · intro d r running timer one
    exact expires running timer (deliveryExpiry_of_one (s := s.setNow (max s.now d)) one)
  · intro d r q running timer two
    have next : secondSend s.cell.outbox = 1 := by
      rw [two]
      cases left : r.mark <;> cases right : q.mark <;> simp [secondSend, List.findIdx?_cons, left, right]
    refine expires running timer ((deliveryExpiry_of_two (s := s.setNow (max s.now d)) (r := r) (q := q)
      (by rw [show (s.setNow (max s.now d)).cell.outbox = _ from two]; exact Nat.le_refl 2) Nat.one_ne_zero
      (by rw [show (s.setNow (max s.now d)).cell.outbox = _ from two]; rfl)
      (by rw [show (s.setNow (max s.now d)).cell.outbox = _ from two]; rfl) next).trans ?_)
    rw [show (s.setNow (max s.now d)).cell.outbox = _ from two]
    rfl
  · intro d i r q xs running timer is many first next marks
    subst is
    have send := secondSend_of_marks marks
    have second : i ≠ 0 := by
      rcases marks with ⟨-, rfl⟩ | ⟨k, m, -, -, -, rfl⟩
      · exact Nat.one_ne_zero
      · split <;> omega
    exact expires running timer (deliveryExpiry_of_two (s := s.setNow (max s.now d)) many second first next send)
  · intro h lot ix i r arrives active at_ named here first many short rest
    have found := findIdx_of_first at_ named here first
    have takes : takeRecord i (heard h s).cell.outbox = rest := takeRecord_of_some at_
    have low : i < s.cell.outbox.length := (List.getElem?_eq_some_iff.1 at_).1
    have length : rest.length = s.cell.outbox.length - 1 := by
      have erased := List.length_eraseIdx_of_lt low
      change (if _ then _ else _ : List OutboxRecord).length = _
      split
      · rw [List.length_map, List.length_zipIdx, erased]
      · exact erased
    have filled : rest ≠ [] := fun none => by rw [none, List.length_nil] at length; omega
    have retires := cellDoneTaken_of_found (s := heard h s) active found takes
    rw [if_neg (by simpa using filled)] at retires
    refine ⟨fun calm => exec_doneTaken (isLive_of_isActive active) arrives (retires.trans (admitWaiting_of_none calm)),
      fun a c slot waits fresh => exec_doneTaken (isLive_of_isActive active) arrives (retires.trans ?_)⟩
    exact admitWaiting_of_some (s := (heard h s).setCell { s.cell with outbox := rest }) slot waits (by show rest.length < 8; omega) filled fresh
  · intro h lot ix arrives active none
    exact exec_doneTaken (isLive_of_isActive active) arrives (cellDoneTaken_of_unknown (s := heard h s) active none)

end Sys2Proof.Machine
end

section
/-! PROOFS. The search for a handler (R74 to R77). -/
namespace Sys2Proof.Machine

variable {s t u v : State} {h : Header} {n k m : Nat} {temp : Int}

/-! ## The orders -/

theorem candidateBefore_iff {a b : Candidate} : candidateBefore a b = true ↔
    b.idle < a.idle ∨ a.idle = b.idle ∧ a.handler < b.handler := by
  simp [candidateBefore]

theorem wantedFirst_iff (s : State) (x y : Sighting) : wantedFirst s x y = true ↔
    y.lot.priority < x.lot.priority ∨
      y.lot.priority = x.lot.priority ∧ (s.age y.firstHeard < s.age x.firstHeard ∨
        s.age y.firstHeard = s.age x.firstHeard ∧ (x.lot.lotId < y.lot.lotId ∨
          x.lot.lotId = y.lot.lotId ∧ x.lot.index < y.lot.index)) := by
  unfold wantedFirst
  split_ifs <;> simp only [decide_eq_true_eq] <;> omega

theorem callsForHandler_iff {x : Sighting} : callsForHandler x = true ↔
    x.result = .noHandler ∨ x.result = .kit ∨ x.result = .temperature := by
  simp [callsForHandler, or_assoc]

/-! ## The candidate list (R76) -/

/-- A list in an order stays in it when an element joins that the order places against each of the others. -/
theorem pairwise_insertBy_of_total {α : Type} {before : α → α → Bool} {x : α} {xs : List α}
    (trans : ∀ a b c, before a b = true → before b c = true → before a c = true)
    (sorted : xs.Pairwise fun a b => before a b = true)
    (total : ∀ y ∈ xs, before x y = true ∨ before y x = true) :
    (insertBy before x xs).Pairwise fun a b => before a b = true := by
  induction xs with
  | nil => exact List.pairwise_singleton _ _
  | cons y ys ih =>
    obtain ⟨first, rest⟩ := List.pairwise_cons.1 sorted
    obtain ⟨here, there⟩ := List.forall_mem_cons.1 total
    rw [insertBy]
    split
    · next ahead =>
      exact List.pairwise_cons.2 ⟨List.forall_mem_cons.2 ⟨ahead, fun z mem => trans _ _ _ ahead (first z mem)⟩, sorted⟩
    · next behind =>
      refine List.pairwise_cons.2 ⟨fun z mem => ?_, ih rest there⟩
      rcases (mem_insertBy _ _ _ _).1 mem with rfl | mem
      · exact here.resolve_left behind
      · exact first z mem

section
variable (c : Candidate) {cs : List Candidate} (sorted : cs.Pairwise fun a b => candidateBefore a b = true)
include sorted

theorem insert_candidate_sorted : (insertBy candidateBefore c (dropCandidate c.handler cs)).Pairwise
    fun a b => candidateBefore a b = true := by
  refine pairwise_insertBy_of_total (fun x y z h k => ?_) (sorted.filter _) fun y mem => ?_
  · rw [candidateBefore_iff] at h k ⊢
    omega
  · have other : y.handler ≠ c.handler := by simpa using (List.mem_filter.1 mem).2
    rw [candidateBefore_iff, candidateBefore_iff]
    omega

theorem joinCandidates_spec : let offered := c :: cs.filter fun x => x.handler != c.handler
    (joinCandidates c cs).Pairwise (fun a b => candidateBefore a b = true) ∧
    (joinCandidates c cs).length = min 4 offered.length ∧ (∀ x ∈ joinCandidates c cs, x ∈ offered) ∧
    ∀ x ∈ offered, x ∉ joinCandidates c cs → ∀ y ∈ joinCandidates c cs, candidateBefore y x = true := by
  intro offered
  have perm : (insertBy candidateBefore c (dropCandidate c.handler cs)).Perm offered := perm_insertBy _ _
  have order := insert_candidate_sorted c sorted
  unfold joinCandidates
  generalize insertBy candidateBefore c (dropCandidate c.handler cs) = all at perm order
  refine ⟨order.sublist (List.take_sublist _ _), List.length_take.trans (congrArg _ perm.length_eq),
    fun x mem => perm.subset (List.mem_of_mem_take mem), fun x mem left y kept => ?_⟩
  rw [← List.take_append_drop Config.candidateSize all] at order perm
  have behind := (List.mem_append.1 (perm.symm.subset mem)).resolve_left left
  exact (List.pairwise_append.1 order).2.2 y kept x behind

end

/-! ## REQUEST HANDLER and the automatic search (R75) -/

theorem requestHandler_of_none (free : s.cell.reservation = .none) :
    requestHandler k temp s = (sendWanted k temp s, .done []) := by rw [requestHandler, free]

/-- The conditions of the automatic HANDLER-WANTED of an ACTIVE CELL stand. -/
def Stands (u : State) : Prop := u.cell.reservation = .none ∧
  (∀ d, u.cell.wantedSpacing = some d → d ≤ u.now) ∧ (u.cell.binding.state = .none ∨ u.cell.idleElapsed = true)

theorem wantedSpaced_iff : wantedSpaced s = true ↔ ∀ d, s.cell.wantedSpacing = some d → d ≤ s.now := by
  unfold wantedSpaced
  split
  · next is => simp [is]
  · next d is => simp [is]

section
variable (active : s.isActive = true)
include active

theorem wantedTest_condition : (s.isActive && s.cell.reservation == .none && wantedSpaced s &&
    (s.cell.binding.state == .none || s.cell.idleElapsed)) = true ↔ Stands s := by
  simp only [active, Bool.true_and, Bool.and_eq_true, Bool.or_eq_true, beq_iff_eq, wantedSpaced_iff, Stands, and_assoc]

theorem wantedTest_of_best {x : Sighting} (stands : Stands s)
    (best : bestBy (wantedFirst s) (s.cell.sightings.filter callsForHandler) = some x) :
    wantedTest s = sendWanted x.lot.kit x.lot.temp s := by
  rw [wantedTest, if_pos ((wantedTest_condition active).2 stands), best]

theorem wantedTest_of_still (still : ¬Stands s ∨ s.cell.sightings.filter callsForHandler = []) : wantedTest s = s := by
  unfold wantedTest
  split
  · next on =>
    rw [still.resolve_left fun no => no ((wantedTest_condition active).1 on)]
    rfl
  · rfl

theorem not_stands_wantedTest (interval : 0 < s.start.config.beaconInterval) :
    ¬(Stands (wantedTest s) ∧ ∃ x ∈ (wantedTest s).cell.sightings, callsForHandler x = true) := by
  rintro ⟨stands, x, mem, calls⟩
  by_cases stood : Stands s
  · cases best : bestBy (wantedFirst s) (s.cell.sightings.filter callsForHandler) with
    | none =>
      have absent := bestBy_eq_none.1 best
      rw [wantedTest_of_still active (.inr absent)] at mem
      exact List.filter_eq_nil_iff.1 absent x mem calls
    | some y =>
      rw [wantedTest_of_best active stood best] at stands
      by_cases zones : wantedZones s.start.config.zoneMask = []
      · rw [sendWanted_of_no_zone zones] at stands
        have late := stands.2.1 (s.now + 6 * (s.start.config.beaconInterval * 1000)) (by rw [raise_cell]; rfl)
        rw [raise_now] at late
        change _ ≤ s.now at late
        omega
      · rw [sendWanted_of_zones zones] at stands
        cases stands.1
  · rw [wantedTest_of_still active (.inl stood)] at stands
    exact stood stands

end

/-! ## At the end of an event -/

theorem settleRest_search (before u : State) : (settleRest before u).cell = u.cell ∧ (settleRest before u).now = u.now := by
  obtain ⟨gs, m, o, -, -, -, handled⟩ := settleHandler_eq before u
  rw [settleRest, handled]
  exact ⟨rfl, rfl⟩

theorem settlePermit_search (before u : State) :
    (settlePermit before u).cell = { u.cell with active := (settlePermit before u).cell.active } ∧
      (settlePermit before u).now = u.now := by
  unfold settlePermit
  split
  · rw [sendPermit_eq]
    exact ⟨rfl, rfl⟩
  · exact ⟨rfl, rfl⟩

theorem settle_cell_of_active (before : State) (active : s.isActive = true) (role : s.start.role = .cell) :
    (settle before s).cell = { (cellUpkeep (settleHolds before s)).cell with active := (settle before s).cell.active } ∧
      (settle before s).now = (cellUpkeep (settleHolds before s)).now := by
  have start : (settleHolds before s).start = s.start := (keeps_settleHolds (.refl s)).start
  have part : settleCell before (settleHolds before s) = settlePermit before (cellUpkeep (settleHolds before s)) :=
    if_pos (by simpa [State.isActive, State.isRole, start, role] using active)
  have ends : settle before s = settleRest before (settlePermit before (cellUpkeep (settleHolds before s))) := by
    rw [settle, part]
    rfl
  obtain ⟨cell, now⟩ := settleRest_search before (settlePermit before (cellUpkeep (settleHolds before s)))
  obtain ⟨permit, still⟩ := settlePermit_search before (cellUpkeep (settleHolds before s))
  rw [ends, cell, now]
  exact ⟨permit, still⟩

theorem wantedTest_idle (s : State) : (wantedTest s).cell.idleTimer = s.cell.idleTimer ∧
    (wantedTest s).cell.idleElapsed = s.cell.idleElapsed := by
  obtain none | ⟨k, temp, sent⟩ := wantedTest_cases s
  · rw [none]
    exact ⟨rfl, rfl⟩
  · rw [sent]
    by_cases zones : wantedZones s.start.config.zoneMask = []
    · rw [sendWanted_of_no_zone zones, raise_cell]
      exact ⟨rfl, rfl⟩
    · rw [sendWanted_of_zones zones]
      exact ⟨rfl, rfl⟩

theorem cellIdle_iff {c : Cell} : cellIdle c = true ↔ c.active = none ∧ c.queue = [] := by
  simp [cellIdle]

theorem idleUpkeep_of_busy (busy : ¬cellIdle s.cell = true) :
    idleUpkeep s = s.setCell { s.cell with idleTimer := none, idleElapsed := false } := if_neg busy

theorem idleUpkeep_of_started (idle : cellIdle s.cell = true) (off : s.cell.idleTimer = none)
    (fresh : s.cell.idleElapsed = false) (some_ : s.start.config.idleThreshold ≠ 0) : idleUpkeep s =
      s.setCell { s.cell with idleTimer := some (s.now + s.start.config.idleThreshold * 1000) } := by
  rw [idleUpkeep, if_pos idle, if_pos (by simp [off, fresh, some_])]
  rfl

theorem idleUpkeep_of_kept (idle : cellIdle s.cell = true)
    (kept : s.cell.idleTimer ≠ none ∨ s.cell.idleElapsed = true ∨ s.start.config.idleThreshold = 0) : idleUpkeep s = s := by
  rw [idleUpkeep, if_pos idle, if_neg]
  rcases kept with on | elapsed | zero
  · simp [on]
  · simp [elapsed]
  · simp [zero]

/-- The idle timer at the end of an event is what its upkeep makes of the state after the claims. -/
theorem settle_idle (before : State) (active : s.isActive = true) (role : s.start.role = .cell) : ∃ v : State,
    v.now = s.now ∧ v.start = s.start ∧ v.cell.active = s.cell.active ∧ v.cell.queue = s.cell.queue ∧
    v.cell.idleTimer = s.cell.idleTimer ∧ v.cell.idleElapsed = s.cell.idleElapsed ∧
    (settle before s).cell.idleTimer = (idleUpkeep v).cell.idleTimer ∧
    (settle before s).cell.idleElapsed = (idleUpkeep v).cell.idleElapsed := by
  obtain ⟨r, asked, -, -, -, held⟩ := settleHolds_eq before s
  obtain ⟨xs, claims, -, -, -, claimed⟩ := claimsMade_claimLoop Config.cellQueueSize (settleHolds before s)
  obtain ⟨cell, -⟩ := settle_cell_of_active before active role
  obtain ⟨timer, elapsed⟩ := wantedTest_idle (idleUpkeep (claimLoop Config.cellQueueSize (settleHolds before s)))
  have now : claimLoop Config.cellQueueSize (settleHolds before s) =
      (setSightings xs (settleHolds before s)).setLink ((settleHolds before s).link.posts claims) := claimed
  refine ⟨claimLoop Config.cellQueueSize (settleHolds before s), ?_, ?_, ?_, ?_, ?_, ?_, ?_, ?_⟩
  · rw [now, held]; rfl
  · rw [now, held]; rfl
  · rw [now, held]; rfl
  · rw [now, held]; rfl
  · rw [now, held]; rfl
  · rw [now, held]; rfl
  · rw [cell, ← timer] <;> rfl
  · rw [cell, ← elapsed] <;> rfl

/-! ## The frames and the timers (R76, R77) -/

section
variable (live : s.isLive = true)
include live

theorem exec_handlerAvailable {f : HandlerFit} (arrives : Arrives h (.handlerAvailable f m) s)
    (is : cellAvailable h.source f m (heard h s) = t) : exec (.handlerAvailable h f m) s = .next (settle s t) :=
  exec_role (p := .handlerAvailable f m) rfl arrives rfl ((if_neg (by simp [live])).trans is)

theorem exec_reserveReply {r : ReserveResult} (arrives : Arrives h (.reserveReply r m) s)
    (is : cellReserveReply h.source r m (heard h s) = t) : exec (.reserveReply h r m) s = .next (settle s t) :=
  exec_role (p := .reserveReply r m) rfl arrives rfl ((if_neg (by simp [live])).trans is)

end

section
variable {cs : List Candidate} {d : Option Nat} {r : ReserveResult} {f : HandlerFit}

theorem cellAvailable_of_collecting (collects : s.cell.reservation = .collecting k temp cs d) : cellAvailable n f m s =
    setReservation (.collecting k temp (joinCandidates { handler := n, fit := f, idle := m } cs) d) s := by
  rw [cellAvailable, collects]

theorem cellAvailable_of_other (other : ∀ k temp cs d, s.cell.reservation ≠ .collecting k temp cs d) :
    cellAvailable n f m s = s := by
  unfold cellAvailable
  split
  · next k temp cs d is => exact absurd is (other k temp cs d)
  · rfl

theorem candidateOut_eq (tries : s.cell.reservation = .reserving k temp n cs d) :
    candidateOut s = tryCandidates k temp (cs.filter fun c => c.handler != n) s := by
  rw [candidateOut, tries]
  rfl

theorem cellReserveReply_of_refused (tries : s.cell.reservation = .reserving k temp n cs d) (refused : r ≠ .ok) :
    cellReserveReply n r m s = tryCandidates k temp (cs.filter fun c => c.handler != n) s := by
  rw [cellReserveReply, tries]
  dsimp only
  rw [if_pos rfl, ← candidateOut_eq tries]
  cases r with
  | ok => exact absurd rfl refused
  | busy | lapsed => rfl

theorem cellReserveReply_of_ok {c : Candidate} (tries : s.cell.reservation = .reserving k temp n (c :: cs) d)
    (first : c.handler = n) : cellReserveReply n .ok m s =
      raise (.handlerReserved n) (setReservation (.reserved n c.fit (some (s.now + m * 60000))) s) := by
  have found : (c :: cs).find? (fun c => c.handler == n) = some c := List.find?_cons_of_pos (by simp [first])
  rw [cellReserveReply, tries]
  dsimp only
  rw [if_pos rfl, found] <;> rfl

theorem cellReserveReply_of_reserved {i : Nat} (holds : s.cell.reservation = .reserved i f d) : cellReserveReply n r m s =
    if i = n ∧ r = .lapsed then raise (.reservationLapsed i) (setReservation .none s) else s := by
  rw [cellReserveReply, holds]
  simp only [Bool.and_eq_true, decide_eq_true_eq, beq_iff_eq]

theorem cellReserveReply_of_idle {i : Nat} (idle : s.cell.reservation = .none ∨ s.cell.reservation = .collecting k temp cs d ∨
    s.cell.reservation = .reserving k temp i cs d ∧ i ≠ n) : cellReserveReply n r m s = s := by
  rw [cellReserveReply]
  rcases idle with is | is | ⟨is, other⟩
  · rw [is]
  · rw [is]
  · rw [is]
    exact if_neg other

end

/-- A timer that runs expires, its moment still to come or past. -/
theorem exec_expiry {i : Instr} {timer : Option Nat} {act : State → State} {d : Nat} (running : s.pins.inReset = false)
    (row : exec i s = .next (event (fun s' => expire timer act s') s)) (on : timer = some d)
    (is : act (s.setNow (max s.now d)) = t) : exec i s = .next (settle s t) := by
  rw [row]
  exact next_event (body := fun s' => expire timer act s') running (by rw [on]; exact is)

theorem tryCandidates_of_cons {c : Candidate} {cs : List Candidate} : tryCandidates k temp (c :: cs) s =
    (sendTo c.handler .reserve s).setCell { s.cell with
      reservation := .reserving k temp c.handler (c :: cs) (some (s.now + s.start.config.bindTimeout)) } := by
  rw [tryCandidates, setReservation, sendTo_cell]
  rfl

/-- Settles O47. -/
theorem findingAndReservingAHandler : Obligations.FindingAndReservingAHandler := by
  intro s running role with_ bindMs
  have asks {k : Nat} {t : Int} (takes : PortTakes (.requestHandler k t) s) {a : Answer} {v : State}
      (is : requestHandler k t s = (v, a)) : exec (.requestHandler k t) s = .next (settle s (setOutcome a 0x42 v)) :=
    exec_takes (c := .requestHandler k t) rfl takes is
  refine ⟨?_, ?_, ?_, ?_, ?_, ?_, ?_, ?_, ?_, ?_, ?_, ?_, ?_, ?_, ?_, ?_⟩
  · intro k t takes
    refine ⟨fun n f d holds => asks takes (by rw [requestHandler, holds]), fun free mask => ?_⟩
    have zones : wantedZones s.start.config.zoneMask = [1] := by rw [mask]; decide
    refine asks takes ((requestHandler_of_none free).trans ?_)
    rw [sendWanted_of_zones (by rw [zones]; exact List.cons_ne_nil _ _), wantedFrames, zones, sendZone, post_eq]
    rfl
  · intro h f m k t tm arrives live collects
    exact exec_handlerAvailable live arrives (cellAvailable_of_collecting (s := heard h s) collects)
  · intro k t c cs d collects
    refine exec_expiry (act := windowClosed) running rfl (by rw [collects]; rfl) ?_
    rw [windowClosed, show (s.setNow (max s.now d)).cell.reservation = _ from collects]
    exact tryCandidates_of_cons
  · intro k t d collects
    refine exec_expiry (act := windowClosed) running rfl (by rw [collects]; rfl) ?_
    rw [windowClosed, show (s.setNow (max s.now d)).cell.reservation = _ from collects]
    rfl
  · intro k t c b cs d apart others tries
    refine exec_expiry (act := candidateOut) running rfl (by rw [tries]; rfl) ?_
    have left : (c :: b :: cs).filter (fun x => x.handler != c.handler) = b :: cs := by
      rw [List.filter_cons_of_neg (by simp), List.filter_cons_of_pos (by simpa using Ne.symm apart),
        List.filter_eq_self.2 fun x mem => by simpa using others x mem]
    rw [candidateOut_eq (s := s.setNow (max s.now d)) tries, left]
    exact tryCandidates_of_cons
  · intro h m k t c cs tm arrives live tries mine
    exact exec_reserveReply live arrives (cellReserveReply_of_ok (s := heard h s) (mine ▸ tries) mine)
  · intro n f d holds
    refine exec_expiry (act := cellDeadlinePast) running rfl (by rw [holds]; rfl) ?_
    rw [cellDeadlinePast, show (s.setNow (max s.now d)).cell.reservation = _ from holds]
    rfl
  · intro d on
    exact exec_expiry (act := idleExpiry) running rfl on rfl
  · intro d on
    exact exec_expiry (act := wantedSpacingExpiry) running rfl on rfl
  · intro k t takes
    refine ⟨fun a b cs m n busy => asks takes ?_, fun free => ?_⟩
    · rcases busy with is | is <;> rw [requestHandler, is]
    · intro zones spaced
      refine ⟨fun none => asks takes ((requestHandler_of_none free).trans ?_),
        fun some_ => asks takes ((requestHandler_of_none free).trans ?_)⟩
      · rw [sendWanted_of_no_zone none]
        rfl
      · rw [sendWanted_of_zones some_, foldl_sendZone]
        rfl
  · intro h f m arrives live before new
    refine ⟨fun k t cs tm collects sorted short => ?_,
      fun other => exec_handlerAvailable live arrives (cellAvailable_of_other (s := heard h s) other)⟩
    intro offered
    obtain ⟨order, length, inside, last⟩ := joinCandidates_spec new (sorted.imp candidateBefore_iff.2)
    exact ⟨joinCandidates new cs, exec_handlerAvailable live arrives (cellAvailable_of_collecting (s := heard h s) collects),
      order.imp candidateBefore_iff.1, length, inside,
      fun x mem left y kept => candidateBefore_iff.1 (last x mem left y kept)⟩
  · intro h m k t c cs tm r arrives live refused tries left
    have runs := exec_reserveReply live arrives (cellReserveReply_of_refused (s := heard h s) (m := m) tries refused)
    rw [left] at runs
    refine ⟨fun none => ?_, fun b rest some_ => ?_⟩
    · rw [none] at runs
      exact runs
    · rw [some_, tryCandidates_of_cons] at runs
      rw [some_]
      exact runs
  · intro k t n cs d tries same
    refine exec_expiry (act := candidateOut) running rfl (by rw [tries]; rfl) ?_
    have none : cs.filter (fun x => x.handler != n) = [] := List.filter_eq_nil_iff.2 fun x mem => by simp [same x mem]
    rw [candidateOut_eq (s := s.setNow (max s.now d)) tries, none]
    rfl
  · intro h m r arrives live
    refine ⟨fun n f d holds => ⟨fun mine lapsed => ?_, fun away => ?_⟩, fun k t n cs tm idle => ?_⟩
    · exact exec_reserveReply live arrives ((cellReserveReply_of_reserved (s := heard h s) holds).trans (if_pos ⟨mine, lapsed⟩))
    · exact exec_reserveReply live arrives ((cellReserveReply_of_reserved (s := heard h s) holds).trans
        (if_neg fun both => away.elim (fun no => no both.1) fun no => no both.2))
    · exact exec_reserveReply live arrives (cellReserveReply_of_idle (s := heard h s) idle)
  · intro active calls stands first
    refine ⟨fun x mem call stood best => ?_, fun still => wantedTest_of_still active ?_, fun before interval => ?_⟩
    · have wanted : bestBy (wantedFirst s) (s.cell.sightings.filter callsForHandler) = some x :=
        bestBy_eq_some (List.mem_filter.2 ⟨mem, callsForHandler_iff.2 call⟩)
          (fun a b h => by
            rw [← Bool.not_eq_true]
            rw [wantedFirst_iff] at *
            omega)
          fun y found => (best y (List.mem_filter.1 found).1 (callsForHandler_iff.1 (List.mem_filter.1 found).2)).imp_right
            (wantedFirst_iff s x y).2
      rw [wantedTest_of_best active stood wanted, requestHandler_of_none stood.1]
    · exact still.imp_right fun none => List.filter_eq_nil_iff.2 fun x mem call => none x mem (callsForHandler_iff.1 call)
    · rintro ⟨stood, x, mem, call⟩
      obtain ⟨cell, now⟩ := settle_cell_of_active before active role
      obtain ⟨r, asked, -, -, -, held⟩ := settleHolds_eq before s
      obtain ⟨i, e, kept⟩ := idleUpkeep_eq (claimLoop Config.cellQueueSize (settleHolds before s))
      obtain ⟨xs, claims, -, -, -, claimed⟩ := claimsMade_claimLoop Config.cellQueueSize (settleHolds before s)
      have start : (idleUpkeep (claimLoop Config.cellQueueSize (settleHolds before s))).start = s.start := by
        rw [kept, claimed, held]
        rfl
      refine not_stands_wantedTest (s := idleUpkeep (claimLoop Config.cellQueueSize (settleHolds before s)))
        (by rw [State.isActive, start]; exact active) (by rw [start]; exact interval) ⟨?_, x, ?_, callsForHandler_iff.2 call⟩
      · have stood' : Stands (settle before s) := stood
        rw [Stands, cell, now] at stood'
        exact stood'
      · rw [cell] at mem
        exact mem
  · intro before c threshold idle kept
    refine ⟨fun off => ?_, fun active busy => ?_, fun active rests => ?_⟩
    · obtain ⟨fs, settled, -⟩ := settle_settledBy before s
      have same : c = s.cell := settled.elsewhere.resolve_left fun on => by rw [off] at on; cases on.1
      change c.idleTimer = _ ∧ c.idleElapsed = _
      rw [same]
      exact ⟨rfl, rfl⟩
    · obtain ⟨v, now, start, lot, queue, timer, elapsed, timerIs, elapsedIs⟩ := settle_idle before active role
      rw [idleUpkeep_of_busy (by rw [cellIdle_iff, lot, queue]; exact busy)] at timerIs elapsedIs
      exact ⟨timerIs, elapsedIs⟩
    · obtain ⟨v, now, start, lot, queue, timer, elapsed, timerIs, elapsedIs⟩ := settle_idle before active role
      have idles : cellIdle v.cell = true := by rw [cellIdle_iff, lot, queue]; exact rests
      refine ⟨fun off fresh some_ => ?_, fun stays => ?_⟩
      · rw [idleUpkeep_of_started idles (timer.trans off) (elapsed.trans fresh) (by rw [start]; exact some_), now, start] at timerIs
        rw [idleUpkeep_of_started idles (timer.trans off) (elapsed.trans fresh) (by rw [start]; exact some_)] at elapsedIs
        exact ⟨timerIs, elapsedIs.trans (elapsed.trans fresh)⟩
      · rw [idleUpkeep_of_kept idles (by rw [timer, elapsed, start]; exact stays)] at timerIs elapsedIs
        exact ⟨timerIs.trans timer, elapsedIs.trans elapsed⟩

end Sys2Proof.Machine
end

section
/-! PROOFS. The binding part (R68, R86 to R93). -/
namespace Sys2Proof.Machine

variable {s t u : State} {h : Header} {n k m : Nat}

/-! ## DOCK and UNDOCK (R87, R90) -/

section
variable {a : Answer}

theorem dock_of_self : dock s.start.number s = (s, .refused .content) := if_pos rfl

variable (other : n ≠ s.start.number)
include other

theorem dock_of_present (present : s.cell.binding.state = .bound ∨ s.cell.binding.state = .orphaned) :
    dock n s = (s, .refused .handlerPresent) := by
  rw [dock, if_neg (show n ≠ s.own from other)]
  rcases present with is | is <;> rw [is]

theorem dock_of_binding (busy : s.cell.binding.state = .binding) : dock n s = (s, .refused .busy) := by
  rw [dock, if_neg (show n ≠ s.own from other), busy]

theorem dock_of_none (free : s.cell.binding.state = .none) : dock n s =
    ((sendTo n (.bindReq (expectedKit s.cell n)) s).setCell { s.cell with
      binding := { state := .binding, handler := n, fit := HandlerFit.none, mask := 0,
                   timer := some (s.now + s.start.config.bindTimeout), prev := .none, first := true } }, .done []) := by
  rw [dock, if_neg (show n ≠ s.own from other), free, setBinding]
  simp only [sendTo_cell]
  rfl

end

theorem expectedKit_of_mine {f : HandlerFit} {d : Option Nat} (mine : s.cell.reservation = .reserved n f d) :
    expectedKit s.cell n = f.kit := by
  rw [expectedKit, mine]
  exact if_pos rfl

theorem expectedKit_of_other (other : ∀ f d, s.cell.reservation ≠ .reserved n f d) : expectedKit s.cell n = 0 := by
  unfold expectedKit
  split
  · next i f d is =>
    refine if_neg ?_
    rintro rfl
    exact other f d is
  · rfl

theorem undock_of_none (free : s.cell.binding.state = .none) : undock s = (s, .refused .notBound) := by
  rw [undock, free]

theorem sendTo_setCell (n : Nat) (p : Payload) (c : Cell) (s : State) :
    sendTo n p (s.setCell c) = (sendTo n p s).setCell c := by
  rw [sendTo_eq, sendTo_eq]
  rfl

/-- The state once UNDOCK has ended the binding, before the reservation on the handler ends. -/
def undocked (s : State) : State :=
  raise (.unbound s.cell.binding.handler 0) (dropBinding (sendTo s.cell.binding.handler (.unbind .undock) s))

theorem undocked_eq (s : State) : undocked s =
    (raise (.unbound s.cell.binding.handler 0) (sendTo s.cell.binding.handler (.unbind .undock) s)).setCell { s.cell with
      binding := BindingPart.none, ready := false, reached := none, mask := 0,
      marks := List.replicate 8 SiteStatus.up, permitTimer := none } := by
  rw [undocked, dropBinding, raise_setCell, sendTo_cell]

theorem undock_of_mine {f : HandlerFit} {d : Option Nat} (attached : s.cell.binding.state ≠ .none)
    (mine : s.cell.reservation = .reserved s.cell.binding.handler f d) :
    undock s = (setReservation .none (undocked s), .done []) := by
  have search : (undocked s).cell.reservation = .reserved s.cell.binding.handler f d := by
    rw [undocked_eq]
    exact mine
  unfold undocked at search ⊢
  cases is : s.cell.binding.state with
  | none => exact absurd is attached
  | binding | bound | orphaned =>
    rw [undock, is]
    simp only [unboundUndock, search, if_true]

theorem undock_of_other (attached : s.cell.binding.state ≠ .none)
    (other : ∀ f d, s.cell.reservation ≠ .reserved s.cell.binding.handler f d) : undock s = (undocked s, .done []) := by
  have search : (undocked s).cell.reservation = s.cell.reservation := by
    rw [undocked_eq]
    rfl
  have rest : (match (undocked s).cell.reservation with
      | .reserved m _ _ => if m = s.cell.binding.handler then setReservation .none (undocked s) else undocked s
      | _ => undocked s) = undocked s := by
    rw [search]
    split
    · next i f d is =>
      refine if_neg ?_
      rintro rfl
      exact other f d is
    · rfl
  cases is : s.cell.binding.state with
  | none => exact absurd is attached
  | binding | bound | orphaned =>
    rw [undock, is]
    exact congrArg (·, Answer.done []) rest

/-! ## BIND-REPLY (R88, R89) -/

section
variable (live : s.isLive = true)
include live

theorem exec_bindReply {r : BindResult} {f : HandlerFit} {m : SiteMask} (arrives : Arrives h (.bindReply r f m) s)
    (is : cellBindReply h.source r f m (heard h s) = t) : exec (.bindReply h r f m) s = .next (settle s t) :=
  exec_role (p := .bindReply r f m) rfl arrives rfl ((if_neg (by simp [live])).trans is)

theorem exec_unbind_cell {r : UnbindReason} (role : s.start.role = .cell) (arrives : Arrives h (.unbind r) s)
    (is : cellUnbind h.source r (heard h s) = t) : exec (.unbind h r) s = .next (settle s t) :=
  exec_role (p := .unbind r) rfl arrives rfl ((if_neg (by simp [live])).trans
    ((if_pos (by simp [State.isRole, role])).trans is))

theorem exec_handlerStatus {b : StatusBody} (arrives : Arrives h (.handlerStatus b) s)
    (is : cellStatus h.source b (heard h s) = t) : exec (.handlerStatus h b) s = .next (settle s t) :=
  exec_role (p := .handlerStatus b) rfl arrives rfl ((if_neg (by simp [live])).trans is)

end

section
variable {r : BindResult} {f : HandlerFit} {mask : SiteMask}

theorem cellBindReply_of_other (other : s.cell.binding.state ≠ .binding ∨ s.cell.binding.handler ≠ n) :
    cellBindReply n r f mask s = s := if_neg fun h => other.elim (· h.1) (· h.2)

variable (binds : s.cell.binding.state = .binding) (mine : s.cell.binding.handler = n)
include binds mine

theorem cellBindReply_of_ok : cellBindReply n .ok f mask s = bindOk n f mask s := by
  rw [cellBindReply, if_pos ⟨binds, mine⟩]

theorem cellBindReply_of_first (refused : r ≠ .ok) (first : s.cell.binding.first = true) : cellBindReply n r f mask s =
    raise (.cellBindFailed n (if r = .busy then 1 else 2) f.kit) (dropBinding s) := by
  refine (if_pos ⟨binds, mine⟩).trans ?_
  cases r with
  | ok => exact absurd rfl refused
  | busy | mismatch => exact if_pos first

theorem cellBindReply_of_rebind (refused : r ≠ .ok) (again : s.cell.binding.first = false) : cellBindReply n r f mask s =
    raise (.unbound n 2) (dropBinding s) := by
  refine (if_pos ⟨binds, mine⟩).trans ?_
  cases r with
  | ok => exact absurd rfl refused
  | busy | mismatch => exact if_neg (by simp [again])

end

/-- The cell's records once a handler is BOUND. -/
def boundCell (n : Nat) (f : HandlerFit) (mask : SiteMask) (s : State) : Cell := { s.cell with
  binding := { state := .bound, handler := n, fit := f, mask := mask, timer := none, prev := .none, first := false },
  ready := false, permitTimer := some (s.now + s.start.config.beaconInterval * 1000) }

theorem bindOk_eq (n : Nat) (f : HandlerFit) (mask : SiteMask) (s : State) : bindOk n f mask s =
    settleReservation n (raise (.bound n) ((sendTo n (.bindConfirm f.kit f.sites) s).setCell (boundCell n f mask s))) := by
  rw [bindOk, sendTo_eq]
  rfl

section
variable {f : HandlerFit} {d : Option Nat}

theorem settleReservation_of_mine (mine : s.cell.reservation = .reserved n f d) :
    settleReservation n s = setReservation .none s := by
  rw [settleReservation, mine]
  exact if_pos rfl

theorem settleReservation_of_other {i : Nat} (holds : s.cell.reservation = .reserved i f d) (other : i ≠ n) :
    settleReservation n s = setReservation .none (sendTo i (.unbind .cancel) s) := by
  rw [settleReservation, holds]
  exact if_neg other

theorem settleReservation_of_none (none : ∀ i f d, s.cell.reservation ≠ .reserved i f d) : settleReservation n s = s := by
  unfold settleReservation
  split
  · next i f d is => exact absurd is (none i f d)
  · rfl

end

/-! ## UNBIND and HANDLER-STATUS (R86, R91) -/

section
variable {r : UnbindReason}

theorem cellUnbind_of_strange (strange : s.cell.binding.state = .none ∨ s.cell.binding.handler ≠ n) :
    cellUnbind n r s = s := by
  unfold cellUnbind
  split
  · next mine =>
    rw [strange.resolve_right fun no => no mine]
  · rfl

variable (mine : s.cell.binding.handler = n)
include mine

theorem cellUnbind_of_bound (bound : s.cell.binding.state = .bound ∨ s.cell.binding.state = .orphaned) :
    cellUnbind n r s = raise (.unbound n (unbindReasonCode r)) (dropBinding s) := by
  rw [cellUnbind, if_pos mine]
  rcases bound with is | is <;> rw [is]

theorem cellUnbind_of_binding (binds : s.cell.binding.state = .binding) : cellUnbind n r s =
    if s.cell.binding.first then raise (.cellBindFailed n 3 0) (dropBinding s) else dropBinding s := by
  rw [cellUnbind, if_pos mine, binds] <;> rfl

end

section
variable {b : StatusBody} (active : s.isActive = true)
include active

theorem cellStatus_of_strange (strange : s.cell.binding.state = .none ∨ s.cell.binding.handler ≠ n) :
    cellStatus n b s = sendTo n (.unbind .undock) s := by
  rw [cellStatus, if_neg (by simp [active]), if_neg]
  exact fun h => strange.elim h.1 fun no => no h.2

theorem cellStatus_of_orphaned (orphaned : s.cell.binding.state = .orphaned) (mine : s.cell.binding.handler = n) :
    cellStatus n b s = s := by
  rw [cellStatus, if_neg (by simp [active]), if_pos ⟨by simp [orphaned], mine⟩, orphaned]

end

/-! ## The timers (R68, R89) -/

theorem permitNow_of_none (none : s.cell.active = none) :
    permitNow s = { run := false, lotId := 0, index := 0, kit := 0, temp := 0 } := by
  rw [permitNow, none]
  rfl

theorem permitExpiry_eq (s : State) : permitExpiry s =
    (sendTo s.cell.binding.handler (.permit (permitNow s)) s).setCell { s.cell with
      active := s.cell.active.map fun a => { a with lastPermit := some (permitNow s) },
      permitTimer := some (s.now + s.start.config.beaconInterval * 1000) } := by
  rw [permitExpiry, sendPermit_eq, sendTo_eq]
  rfl

theorem cellBindExpiry_of_first (first : s.cell.binding.first = true) : cellBindExpiry s =
    raise (.cellBindFailed s.cell.binding.handler 3 0) (dropBinding (sendTo s.cell.binding.handler (.unbind .timeout) s)) :=
  if_pos first

theorem cellBindExpiry_of_rebind (again : s.cell.binding.first = false) : cellBindExpiry s =
    (sendTo s.cell.binding.handler (.unbind .timeout) s).setCell { s.cell with
      binding := { s.cell.binding with state := s.cell.binding.prev, timer := none, prev := .none },
      ready := false,
      permitTimer := if s.cell.binding.prev = .bound then some (s.now + s.start.config.beaconInterval * 1000)
        else none } := by
  rw [cellBindExpiry, sendTo_eq]
  exact if_neg (by simp [again])

/-! ## The notices (R57, R76, R77, R92) -/

/-- What becomes of a search when a peer restarts. -/
def searchRestarted (n : Nat) (s : State) : Reservation → State
  | .reserved j f m => cellWithout n (if j = n then .none else .reserved j f m) s
  | .none => searchWithout n s .none
  | .collecting k p cs m => searchWithout n s (.collecting k p cs m)
  | .reserving k p j cs m => searchWithout n s (.reserving k p j cs m)

theorem reservationPeerGone_restarted (n : Nat) (s : State) :
    reservationPeerGone n true (sightingsPeerGone n s) = searchRestarted n s s.cell.reservation := by
  have same : (sightingsPeerGone n s).cell.reservation = s.cell.reservation := rfl
  cases search : s.cell.reservation with
  | reserved j f m =>
    rw [reservationPeerGone, same, search]
    simp only [searchRestarted, cellWithout, Bool.and_true, decide_eq_true_eq]
    split
    · rfl
    · rw [← search]
      rfl
  | none | collecting k p cs m | reserving k p j cs m =>
    rw [searchRestarted, ← search, ← reservationPeerGone_lost, reservationPeerGone, reservationPeerGone, same, search]

theorem tryCandidates_binding (k : Nat) (p : Int) (cs : List Candidate) (u : State) :
    (tryCandidates k p cs u).cell.binding = u.cell.binding := by
  unfold tryCandidates
  split <;> simp [setReservation]

theorem searchWithout_binding (n : Nat) (s : State) (r : Reservation) :
    (searchWithout n s r).cell.binding = s.cell.binding := by
  unfold searchWithout
  split
  · rfl
  · rfl
  · split
    · exact tryCandidates_binding _ _ _ _
    · rfl
  · rfl

theorem searchRestarted_binding (n : Nat) (s : State) (r : Reservation) :
    (searchRestarted n s r).cell.binding = s.cell.binding := by
  cases r with
  | reserved j f m => rfl
  | none => exact searchWithout_binding n s .none
  | collecting k p cs m => exact searchWithout_binding n s (.collecting k p cs m)
  | reserving k p j cs m => exact searchWithout_binding n s (.reserving k p j cs m)

section
variable (live : s.isLive = true) (role : s.start.role = .cell)
include live role

theorem roleLost_eq_of_cell (n : Nat) : roleLost n s = bindingPeerLost n (searchWithout n s s.cell.reservation) := by
  rw [roleLost, if_pos live, role, ← reservationPeerGone_lost]

theorem roleRestart_eq_of_cell (n : Nat) :
    roleRestart n s = bindingPeerRestart n (searchRestarted n s s.cell.reservation) := by
  rw [roleRestart, if_pos live, role, ← reservationPeerGone_restarted]

theorem roleBack_eq_of_cell (n : Nat) : roleBack n s = bindingPeerBack n s := by
  rw [roleBack, if_pos live, role]

end

section
variable {b : BindingPart} (binding : u.cell.binding = b)
include binding

theorem bindingPeerRestart_of_strange (strange : b.handler ≠ n ∨ b.state = .none) : bindingPeerRestart n u = u := by
  unfold bindingPeerRestart
  rw [binding]
  split
  · next mine => rw [strange.resolve_left fun no => no mine]
  · rfl

variable (mine : b.handler = n)
include mine

theorem bindingPeerRestart_of_bound (bound : b.state = .bound ∨ b.state = .orphaned ∨ b.state = .binding ∧ b.first = false) :
    bindingPeerRestart n u = raise (.unbound n 3) (dropBinding u) := by
  rw [bindingPeerRestart, binding, if_pos mine]
  rcases bound with is | is | ⟨is, again⟩
  · rw [is] <;> rfl
  · rw [is] <;> rfl
  · rw [is]
    exact if_neg (by simp [again])

theorem bindingPeerRestart_of_first (binds : b.state = .binding) (first : b.first = true) :
    bindingPeerRestart n u = raise (.cellBindFailed n 4 0) (dropBinding u) := by
  rw [bindingPeerRestart, binding, if_pos mine, binds]
  exact if_pos first

end

theorem bindingPeerBack_of_orphaned (orphaned : s.cell.binding.state = .orphaned) :
    bindingPeerBack s.cell.binding.handler s = (sendTo s.cell.binding.handler (.bindReq 0) s).setCell { s.cell with
      binding := { s.cell.binding with
        state := .binding, prev := .orphaned, first := false, timer := some (s.now + s.start.config.bindTimeout) },
      ready := false, permitTimer := none } := by
  rw [bindingPeerBack, if_pos ⟨rfl, orphaned⟩, rebind, sendTo_eq]
  rfl

theorem bindingPeerBack_of_other (other : s.cell.binding.handler ≠ n ∨ s.cell.binding.state ≠ .orphaned) :
    bindingPeerBack n s = s := if_neg fun h => other.elim (· h.1) (· h.2)

/-- Settles O48. -/
theorem bindingPartMoves : Obligations.BindingPartMoves := by
  intro s running role ended interval
  have docks {n : Nat} (takes : PortTakes (.dock n) s) {a : Answer} {v : State} (is : dock n s = (v, a)) :
      exec (.dock n) s = .next (settle s (setOutcome a 0x40 v)) := exec_takes (c := .dock n) rfl takes is
  have undocks (takes : PortTakes .undock s) {a : Answer} {v : State} (is : undock s = (v, a)) :
      exec .undock s = .next (settle s (setOutcome a 0x41 v)) := exec_takes (c := .undock) rfl takes is
  have bindTimer {d : Nat} {v : State} (binds : s.cell.binding.state = .binding) (timer : s.cell.binding.timer = some d)
      (is : cellBindExpiry (s.setNow (max s.now d)) = v) : exec .cellBindTimerExpiry s = .next (settle s v) :=
    exec_expiry (act := cellBindExpiry) running rfl (by rw [cellBindTimer, if_pos binds, timer]) is
  have permitTimer {d : Nat} {v : State} (timer : s.cell.permitTimer = some d)
      (is : permitExpiry (s.setNow (max s.now d)) = v) : exec .permitTimerExpiry s = .next (settle s v) :=
    exec_expiry (act := permitExpiry) running rfl timer is
  refine ⟨?_, ?_, ?_, ?_, ?_, ?_, ?_, ?_, ?_, ?_, ?_, ?_, ?_, ?_, ?_, ?_, ?_, ?_, ?_⟩
  · intro n takes other free search
    refine docks takes ((dock_of_none other free).trans ?_)
    rw [expectedKit_of_other fun f d is => by rw [search] at is; cases is]
  · exact fun n takes other present => docks takes (dock_of_present other present)
  · refine fun n takes => ⟨?_, fun other busy => docks takes (dock_of_binding other busy), fun other free kit expects => ?_⟩
    · rintro rfl
      exact docks takes dock_of_self
    · refine docks takes ((dock_of_none other free).trans ?_)
      rcases expects with ⟨f, d, mine, rfl⟩ | ⟨rfl, none⟩
      · rw [expectedKit_of_mine mine]
      · rw [expectedKit_of_other none]
  · intro h f m arrives live binds mine search
    refine exec_bindReply live arrives ((cellBindReply_of_ok (s := heard h s) binds mine).trans ((bindOk_eq ..).trans ?_))
    refine settleReservation_of_none fun i g d is => ?_
    rw [raise_cell] at is
    exact absurd (search.symm.trans is) (by simp)
  · intro h f m arrives live binds mine bound settled
    have runs {v : State} (is : bindOk h.source f m (heard h s) = v) : exec (.bindReply h .ok f m) s = .next (settle s v) :=
      exec_bindReply live arrives ((cellBindReply_of_ok (s := heard h s) binds mine).trans is)
    generalize sent_is : raise (.bound h.source) (sendTo h.source (.bindConfirm f.kit f.sites) (heard h s)) = v
    have done : bindOk h.source f m (heard h s) = settleReservation h.source (v.setCell (boundCell h.source f m (heard h s))) := by
      rw [bindOk_eq, raise_setCell, sent_is]
    simp only [settled, sent_is]
    generalize w_is : v.setCell (boundCell h.source f m (heard h s)) = w at done
    have same : w.cell.reservation = s.cell.reservation := by rw [← w_is]; rfl
    refine ⟨fun g d search => runs (done.trans ((settleReservation_of_mine (same.trans search)).trans ?_)),
      fun j g d search other => runs (done.trans ((settleReservation_of_other (same.trans search) other).trans ?_)),
      fun none => runs (done.trans ((settleReservation_of_none (by rw [same]; exact none)).trans ?_))⟩
    · rw [← w_is]
      rfl
    · rw [← w_is, sendTo_setCell]
      rfl
    · rw [← w_is]
      rfl
  · intro h r f m arrives live
    refine ⟨fun refused binds mine => ⟨fun first => ?_, fun again => ?_⟩, fun other => ?_⟩
    · exact exec_bindReply live arrives (cellBindReply_of_first (s := heard h s) binds mine refused first)
    · exact exec_bindReply live arrives (cellBindReply_of_rebind (s := heard h s) binds mine refused again)
    · exact exec_bindReply live arrives (cellBindReply_of_other (s := heard h s) other)
  · exact fun d binds timer again => bindTimer binds timer (cellBindExpiry_of_rebind (s := s.setNow (max s.now d)) again)
  · intro d binds timer first
    refine bindTimer binds timer ((cellBindExpiry_of_first (s := s.setNow (max s.now d)) first).trans ?_)
    rw [dropBinding, sendTo_cell]
    rfl
  · intro takes attached search
    refine undocks takes ((undock_of_other attached fun f d is => by rw [search] at is; cases is).trans ?_)
    rw [undocked, dropBinding, sendTo_cell]
  · intro takes attached left
    refine ⟨fun f d mine => undocks takes ((undock_of_mine attached mine).trans ?_),
      fun other => undocks takes ((undock_of_other attached other).trans ?_)⟩
    · rw [undocked_eq]
      rfl
    · rw [undocked_eq]
  · exact fun takes free => undocks takes (undock_of_none free)
  · intro h arrives live mine bound
    exact exec_unbind_cell live role arrives (cellUnbind_of_bound (s := heard h s) mine bound)
  · intro h r arrives live unbinds
    have runs {v : State} (is : cellUnbind h.source r (heard h s) = v) : unbinds v := exec_unbind_cell live role arrives is
    refine ⟨fun mine => ⟨fun bound => runs ((cellUnbind_of_bound (s := heard h s) mine bound).trans ?_), fun binds first => ?_,
      fun binds again => ?_⟩, fun strange => runs (cellUnbind_of_strange (s := heard h s) strange)⟩
    · cases r <;> rfl
    · exact runs ((cellUnbind_of_binding (s := heard h s) mine binds).trans (if_pos first))
    · exact runs ((cellUnbind_of_binding (s := heard h s) mine binds).trans (if_neg (by simp [again])))
  · intro h b arrives active
    have live := isLive_of_isActive active
    exact ⟨fun strange => exec_handlerStatus live arrives (cellStatus_of_strange (s := heard h s) active strange),
      fun orphaned mine => exec_handlerStatus live arrives (cellStatus_of_orphaned (s := heard h s) active orphaned mine)⟩
  · intro d a timer active
    refine permitTimer timer ((permitExpiry_eq _).trans ?_)
    rw [show (s.setNow (max s.now d)).cell.active = _ from active]
    rfl
  · intro d timer none
    refine permitTimer timer ((permitExpiry_eq _).trans ?_)
    rw [permitNow_of_none (s := s.setNow (max s.now d)) none]
    have keeps (f : ActiveLot → ActiveLot) : s.cell.active.map f = s.cell.active := by rw [none]; rfl
    exact congrArg (fun a => State.setCell _ { s.cell with active := a, permitTimer := some (max s.now d + interval) }) (keeps _)
  · intro live _ n kept without
    have lost := roleLost_eq_of_cell live role n
    have again := roleRestart_eq_of_cell live role n
    have back := roleBack_eq_of_cell live role n
    have kept_is (search : s.cell.reservation = .none) : searchWithout n s s.cell.reservation =
        s.setCell { s.cell with sightings := kept } := by
      rw [search, searchWithout, cellWithout, ← search]
    refine ⟨fun search bound => ?_, fun search attached => ?_, fun f d search => ?_, fun k p cs m search all bound => ?_,
      fun orphaned => ?_, fun other => ?_⟩
    · rw [lost, kept_is search]
      exact if_pos ⟨rfl, bound⟩
    · rw [lost, kept_is search]
      exact if_neg fun both => by rcases attached with is | is <;> exact absurd (is.symm.trans both.2) (by decide)
    · intro ended_
      have gone : searchRestarted n s s.cell.reservation = cellWithout n .none s := by
        rcases search with is | is
        · rw [is]
          rfl
        · rw [is, searchRestarted, if_pos rfl]
      rw [gone] at again
      exact ⟨fun bound => again.trans (bindingPeerRestart_of_bound rfl rfl bound),
        fun binds first => again.trans (bindingPeerRestart_of_first rfl rfl binds first)⟩
    · have none : dropCandidate n cs = [] := List.filter_eq_nil_iff.2 fun c mem => by simp [all c mem]
      have gone : searchRestarted n s s.cell.reservation = (raise (.noHandler k p) s).setCell { s.cell with
          sightings := kept, reservation := .none } := by
        rw [search, searchRestarted, searchWithout, if_pos rfl, none, tryCandidates_nil, cellWithout, raise_setCell]
      rw [gone] at again
      have ends := bindingPeerRestart_of_bound (n := n) (u := (raise (.noHandler k p) s).setCell { s.cell with
        sightings := kept, reservation := .none }) (b := s.cell.binding) rfl rfl (bound.imp_right .inl)
      refine again.trans (ends.trans ?_)
      rw [dropBinding, raise_setCell, raise_setCell]
      rfl
    · exact back.trans (bindingPeerBack_of_orphaned orphaned)
    · exact back.trans (bindingPeerBack_of_other (.inr (by rcases other with is | is <;> simp [is])))
  · intro n live other search
    refine ⟨?_, (roleBack_eq_of_cell live role n).trans (bindingPeerBack_of_other (.inl other))⟩
    have gone : searchRestarted n s s.cell.reservation = s.setCell { s.cell with
        sightings := s.cell.sightings.filter fun x => x.stage != n } := by
      rw [search, searchRestarted, searchWithout, cellWithout, ← search]
    rw [roleRestart_eq_of_cell live role n, gone]
    exact bindingPeerRestart_of_strange rfl (.inl other)
  · intro n live gone searched
    have again := roleRestart_eq_of_cell live role n
    have restarts {u : State} (is : searchRestarted n s s.cell.reservation = u) : searched u := by
      have binding : u.cell.binding = s.cell.binding := is ▸ searchRestarted_binding n s _
      rw [is] at again
      exact ⟨fun strange => again.trans (bindingPeerRestart_of_strange binding strange),
        fun mine => ⟨fun bound => again.trans (bindingPeerRestart_of_bound binding mine bound),
          fun binds first => again.trans (bindingPeerRestart_of_first binding mine binds first)⟩⟩
    refine ⟨fun other => (roleBack_eq_of_cell live role n).trans (bindingPeerBack_of_other (.inl other)),
      fun search => restarts (by rw [search]; rfl), fun k p cs m search => restarts (by rw [search]; rfl),
      fun k p j cs m search other => restarts ?_, fun k p cs m search => ⟨fun all => restarts ?_, fun c rest left => restarts ?_⟩,
      fun j f m search => restarts (by rw [search]; rfl)⟩
    · rw [search, searchRestarted, searchWithout, if_neg other]
      rfl
    · have none : dropCandidate n cs = [] := List.filter_eq_nil_iff.2 fun c mem => by simp [all c mem]
      rw [search, searchRestarted, searchWithout, if_pos rfl, none, tryCandidates_nil]
      rfl
    · rw [search, searchRestarted, searchWithout, if_pos rfl, show dropCandidate n cs = c :: rest from left, tryCandidates_cons]
      rfl

end Sys2Proof.Machine
end

section
/-! PROOFS. UNQUEUE and LOT LOADED (R65, R66, R115, R116). -/
namespace Sys2Proof.Machine

variable {s t u : State} {lot ix : Nat} {q : QueuedLot}

theorem findQueued_of_absent (absent : inQueue s.cell lot ix = false) :
    (s.cell.queue.find? fun q => isLot q.lot lot ix) = none :=
  List.find?_eq_none.2 fun q mem => by simpa using List.any_eq_false.1 absent q mem

theorem findQueued_of_only (only : (s.cell.queue.filter fun y => isLot y.lot lot ix) = [q]) :
    (s.cell.queue.find? fun q => isLot q.lot lot ix) = some q := by
  rw [← List.head?_filter, only]
  rfl

theorem unqueue_of_absent (absent : inQueue s.cell lot ix = false) : unqueue lot ix s = (s, .refused .notQueued) := by
  rw [unqueue, findQueued_of_absent absent]

theorem lotLoaded_of_absent (absent : inQueue s.cell lot ix = false) : lotLoaded lot ix s = (s, .refused .notQueued) := by
  rw [lotLoaded, findQueued_of_absent absent]

section
variable (only : (s.cell.queue.filter fun y => isLot y.lot lot ix) = [q])
include only

theorem unqueue_of_only : unqueue lot ix s =
    ((sendTo q.stage (.return_ lot ix .operator) s).setCell { s.cell with
      queue := s.cell.queue.filter fun y => !isLot y.lot lot ix },
    .done (be1 (s.cell.queue.filter fun y => !isLot y.lot lot ix).length)) := by
  rw [unqueue, findQueued_of_only only]
  simp only [sendTo_cell]

theorem lotLoaded_of_busy (busy : s.cell.active.isSome = true) : lotLoaded lot ix s = (s, .refused .busy) := by
  rw [lotLoaded, findQueued_of_only only]
  exact if_pos busy

theorem lotLoaded_of_free (free : s.cell.active = none) : lotLoaded lot ix s =
    (s.setCell { s.cell with
      queue := s.cell.queue.filter fun y => !isLot y.lot lot ix, active := some (newActive s q), ready := false },
    .done (be1 (limitSourceCode (newActive s q).source))) := by
  rw [lotLoaded, findQueued_of_only only]
  exact if_neg (by simp [free])

end

/-! ## The limits of a lot (R115) -/

theorem productEntry_of_mem {t : LimitTable} {p : Nat} {lim : LimitEntry} (mem : (p, lim) ∈ t.products)
    (one : ∀ x ∈ t.products, x.1 = p → x.2 = lim) : productEntry t p = some lim := by
  unfold productEntry
  cases found : t.products.find? fun x => x.1 == p with
  | none => exact absurd (beq_self_eq_true p) (List.find?_eq_none.1 found (p, lim) mem)
  | some x =>
    have named : x.1 = p := by simpa using List.find?_some found
    rw [Option.map_some, one x (List.mem_of_find?_eq_some found) named]

theorem productEntry_of_absent {t : LimitTable} {p : Nat} (absent : ∀ x ∈ t.products, x.1 ≠ p) :
    productEntry t p = none := by
  unfold productEntry
  rw [List.find?_eq_none.2 fun x mem => by simpa using absent x mem]
  rfl

theorem limitsFor_eq {t : LimitTable} {p : Nat} {src : LimitSource} {lim : LimitEntry}
    (is : src = .product ∧ (p, lim) ∈ t.products ∧ (∀ x ∈ t.products, x.1 = p → x.2 = lim) ∨
      src = .default ∧ lim = t.default ∧ ∀ x ∈ t.products, x.1 ≠ p) : limitsFor t p = (src, lim) := by
  rcases is with ⟨rfl, mem, one⟩ | ⟨rfl, rfl, absent⟩
  · rw [limitsFor, productEntry_of_mem mem one]
  · rw [limitsFor, productEntry_of_absent absent]

/-- Settles O49. -/
theorem queuedLotsAreReturnedOrLoaded : Obligations.QueuedLotsAreReturnedOrLoaded := by
  intro lot ix s takes rest
  have unqueues {a : Answer} {v : State} (is : unqueue lot ix s = (v, a)) :
      exec (.unqueue lot ix) s = .next (settle s (setOutcome a 0x43 v)) := exec_takes (c := .unqueue lot ix) rfl takes is
  have loads {a : Answer} {v : State} (is : lotLoaded lot ix s = (v, a)) :
      exec (.lotLoaded lot ix) s = .next (settle s (setOutcome a 0x44 v)) :=
    exec_takes (c := .lotLoaded lot ix) rfl takes is
  refine ⟨fun absent => ⟨unqueues (unqueue_of_absent absent), loads (lotLoaded_of_absent absent)⟩,
    fun q only => ⟨unqueues (unqueue_of_only only), fun a active => loads (lotLoaded_of_busy only (by simp [active])),
      fun free src lim is => loads ((lotLoaded_of_free only free).trans ?_)⟩⟩
  rw [newActive, limitsFor_eq is]

end Sys2Proof.Machine
end

section
/-! PROOFS. END PASS, the judgment and LOT UNLOADED (R69 to R71, R131, R132, R136). -/
namespace Sys2Proof.Machine

variable {s t u : State} {a : ActiveLot} {r : HoldReason} {res : CompletionResult}

/-! ## A hold that is placed and the active lot -/

theorem storeNew_cell {x : StoredHold} (stores : storeNew x s = some u) : u.cell = s.cell ∧ u.start = s.start := by
  unfold storeNew at stores
  split at stores
  · cases stores
    exact ⟨rfl, rfl⟩
  · split at stores <;> cases stores
    exact ⟨rfl, rfl⟩

theorem announce_cell (x : HoldRec) (s : State) : (announce x s).cell = s.cell := by
  unfold announce
  split <;> simp

theorem enterOverflow_cell (s : State) : (enterOverflow s).cell = s.cell := by
  unfold enterOverflow
  split <;> simp

theorem placeCore_cell (sc : Scope) (k : Nat) (r : HoldReason) (dt tr : Nat) (s : State) :
    (placeCore sc k r dt tr s).1.cell = s.cell ∧ (placeCore sc k r dt tr s).1.start = s.start := by
  cases found : findHold s.holds sc k with
  | some old =>
    cases state : old.hold.state with
    | inForce => rw [placeCore_of_force found state]; exact ⟨rfl, rfl⟩
    | cleared =>
      rw [placeCore_of_cleared found state]
      exact ⟨announce_cell _ _, announce_start _ _⟩
  | none =>
    cases stores : storeNew (stamp (placedRec s sc k 1 r dt tr) s) s with
    | some v =>
      rw [placeCore_of_stored found stores]
      exact ⟨(announce_cell _ _).trans (storeNew_cell stores).1, (announce_start _ _).trans (storeNew_cell stores).2⟩
    | none =>
      rw [placeCore_of_full found stores]
      exact ⟨(enterOverflow_cell _).trans (announce_cell _ _), (enterOverflow_start _).trans (announce_start _ _)⟩

/-- A change of the active lot's reasons alone. -/
def OnlyReasons (f : ActiveLot → ActiveLot) : Prop := ∀ a, ∃ m, f a = { a with reasons := m }

theorem onlyReasons_withReasons (h : HoldTable) : OnlyReasons (withReasons h) := fun a => by
  unfold withReasons
  split
  · exact ⟨a.reasons, rfl⟩
  · exact ⟨_, rfl⟩

theorem notice_active {names : List NoticeKey} (role : s.start.role = .cell) :
    ∃ f, OnlyReasons f ∧ (notice names s).cell.active = s.cell.active.map f := by
  cases live : s.isLive with
  | true =>
    refine ⟨withReasons s.holds, onlyReasons_withReasons _, ?_⟩
    rw [notice_of_cell live role, foldl_returnHeld_cell]
    rfl
  | false =>
    refine ⟨id, fun a => ⟨a.reasons, rfl⟩, ?_⟩
    rw [notice_of_dead live, Option.map_id]
    rfl

/-- A hold that a CELL places changes of its active lot the reasons alone. -/
theorem placeHold_active (role : s.start.role = .cell) (sc : Scope) (k : Nat) (r : HoldReason) (dt tr : Nat) :
    ∃ f, OnlyReasons f ∧ (placeHold sc k r dt tr s).1.cell.active = s.cell.active.map f := by
  obtain ⟨cell, start⟩ := placeCore_cell sc k r dt tr s
  unfold placeHold
  dsimp only
  split
  · refine ⟨id, fun a => ⟨a.reasons, rfl⟩, ?_⟩
    rw [Option.map_id]
    exact congrArg Cell.active cell
  · obtain ⟨f, only, acts⟩ := notice_active (names := (placeCore sc k r dt tr s).2.2) (start ▸ role)
    exact ⟨f, only, acts.trans (by rw [cell])⟩

/-! ## The trigger handling (R130) -/

theorem lotHeld_of_keyInForce {l : LotRecord} (force : keyInForce s.holds .lot l.lotId = true) :
    lotHeld s.holds (queryOf l) = true := by
  unfold keyInForce at force
  split at force
  · next x found =>
    obtain ⟨mem, scope, key⟩ := findHold_eq_some found
    exact lotHeld_iff.2 (.inr ⟨x, mem, by simpa using force, .inl ⟨scope, key⟩⟩)
  · cases force

/-- A lot in a pass that is not held: no LOT hold of it is in force. -/
theorem unheld_of_running (state : lotState s a = .running ∨ lotState s a = .paused) :
    keyInForce s.holds .lot a.lot.lotId = false := by
  rw [Bool.eq_false_iff]
  intro force
  by_cases finished : a.phase = .finished
  · rw [lotState_finished finished] at state
    rcases state with no | no <;> cases no
  · rw [lotState_held finished (.inr (lotHeld_of_keyInForce force))] at state
    rcases state with no | no <;> cases no

theorem endHeld_of_unheld (unheld : keyInForce s.holds .lot a.lot.lotId = false) (b : ActiveLot)
    (same : b.lot = a.lot) : endHeld b r s = (placeHold .lot a.lot.lotId r 0 0 (s.setCell { s.cell with
      active := some { b with phase := .awaiting, reasons := b.reasons ||| reasonBit r } })).1 := by
  have word : triggerWord [(r, 0)] = reasonBit r := BitVec.zero_or
  rw [endHeld, handleTriggers, same, updateActive_of_some rfl, word]
  exact if_neg (by simpa using unheld)

/-- The pass of the active lot that a judgment holds. -/
theorem passNow_placeHold (role : s.start.role = .cell) {b : ActiveLot} (active : s.cell.active = some b) (k dt : Nat) :
    passNow (placeHold .lot k r dt 0 s).1 = b.pass := by
  obtain ⟨f, only, acts⟩ := placeHold_active role .lot k r dt 0
  obtain ⟨m, reasons⟩ := only b
  rw [passNow, acts, active, Option.map_some, reasons]

/-! ## Completion (R70, R136) -/

theorem finishLot_of_new (room : s.cell.outbox.length < 8) (fresh : outboxHas s.cell a.lot.lotId a.lot.index = false) :
    finishLot a res s = raise (.cellFinished a.lot.lotId a.lot.index res) (s.setCell { s.cell with
      active := some { a with phase := .finished, unretested := a.pool },
      deliveryTimer := if s.cell.outbox.isEmpty then some s.now else s.cell.deliveryTimer,
      outbox := s.cell.outbox ++ [{ record := completionOf s a res, sent := 0, mark := false }] }) := by
  have place : outboxPlace s.cell a.lot.lotId a.lot.index = true := by
    rw [outboxPlace, fresh]
    exact decide_eq_true room
  rw [finishLot, if_pos place, enterOutbox, if_neg (by exact Bool.eq_false_iff.1 (by rw [raise_cell]; exact fresh)),
    raise_setCell, raise_eq]
  cases empty : s.cell.outbox.isEmpty with
  | true => simp [empty, setOutbox] <;> rfl
  | false => simp [empty, setOutbox] <;> rfl

theorem finishLot_of_full (full : 8 ≤ s.cell.outbox.length) (fresh : outboxHas s.cell a.lot.lotId a.lot.index = false) :
    finishLot a res s = raise (.cellFinished a.lot.lotId a.lot.index res) (s.setCell { s.cell with
      active := some { a with phase := .finished, unretested := a.pool, waiting := some (completionOf s a res) } }) := by
  have place : outboxPlace s.cell a.lot.lotId a.lot.index = false := by
    rw [outboxPlace, fresh]
    exact decide_eq_false (Nat.not_lt.2 full)
  rw [finishLot, if_neg (by exact Bool.eq_false_iff.1 place), raise_setCell, raise_cell]

theorem outboxHas_iff {lot ix : Nat} : outboxHas s.cell lot ix = true ↔
    ∃ x ∈ s.cell.outbox, x.record.lotId = lot ∧ x.record.index = ix := by
  simp [outboxHas, isRecordOf]

theorem finishLot_of_again (again : outboxHas s.cell a.lot.lotId a.lot.index = true) : finishLot a res s =
    raise (.cellFinished a.lot.lotId a.lot.index res) (s.setCell { s.cell with
      active := some { a with phase := .finished, unretested := a.pool },
      outbox := s.cell.outbox.map fun x => if x.record.lotId = a.lot.lotId ∧ x.record.index = a.lot.index
        then { record := completionOf s a res, sent := 0, mark := x.mark } else x }) := by
  have place : outboxPlace s.cell a.lot.lotId a.lot.index = true := by rw [outboxPlace, again, Bool.true_or]
  rw [finishLot, if_pos place, enterOutbox, if_pos (by exact by rw [raise_cell]; exact again), raise_setCell, raise_cell]
  have map (b : Option ActiveLot) : (s.cell.outbox.map fun r =>
      if isRecordOf r.record a.lot.lotId a.lot.index then { r with record := completionOf s a res, sent := 0 } else r) =
      s.cell.outbox.map fun x => if x.record.lotId = a.lot.lotId ∧ x.record.index = a.lot.index
        then { record := completionOf s a res, sent := 0, mark := x.mark } else x :=
    List.map_congr_left fun x _ => by simp only [isRecordOf, Bool.and_eq_true, beq_iff_eq]
  rw [← map none]
  rfl

/-! ## The judgment (R131, R132) -/

/-- The active lot as the judgment takes it. -/
def judged (a : ActiveLot) : ActiveLot := { a with unretested := a.pool }

theorem judgePass_of_untested (untested : a.tested = 0) :
    judgePass a s = (endHeld (judged a) .noUnits s, .held) := if_pos untested

theorem judgePass_of_passed (tested : a.tested ≠ 0)
    (passed : a.limits.lyf ≤ 4096 * goodCount a.bins a.limits.good / a.tested) :
    judgePass a s = (finishLot (judged a) .passed s, .finished) := (if_neg tested).trans (if_pos passed)

section
variable (tested : a.tested ≠ 0) (failed : 4096 * goodCount a.bins a.limits.good / a.tested < a.limits.lyf)
include tested failed

theorem judgePass_of_retest (may : a.pass ≤ a.allowance)
    (some_ : 0 < a.pool + goodCount a.bins a.limits.retestable) :
    judgePass a s = (startRetest (judged a) (min (a.pass + 1) 255) s, .retest) :=
  (if_neg tested).trans ((if_neg (Nat.not_le.2 failed)).trans (if_pos ⟨may, some_⟩))

theorem judgePass_of_failed (spent : a.allowance < a.pass ∨ a.pool + goodCount a.bins a.limits.retestable = 0) :
    judgePass a s = (endHeld (judged a) .finalYield s, .held) :=
  (if_neg tested).trans ((if_neg (Nat.not_le.2 failed)).trans (if_neg fun h => by
    obtain ⟨may, some_⟩ := h
    change 0 < a.pool + goodCount a.bins a.limits.retestable at some_
    change a.pass ≤ a.allowance at may
    omega))

end

/-! ## END PASS and LOT UNLOADED (R69, R71) -/

section
variable (active : s.cell.active = some a)
include active

theorem endPass_of_idle (idle : lotState s a = .finished ∨ lotState s a = .setup) :
    endPass s = (s, .refused .notRunning) := by
  rw [endPass, active]
  rcases idle with is | is <;> simp only [is]

theorem endPass_of_held (held : lotState s a = .held) : endPass s = (s, .refused .held) := by
  rw [endPass, active]
  simp only [held]

theorem endPass_of_running (runs : lotState s a = .running ∨ lotState s a = .paused) {e : Ending}
    (judges : judgePass a s = (u, e)) {p : Nat} (pass : passNow u = p) :
    endPass s = (u, .done (be1 (endingCode e) ++ be1 p)) := by
  rw [endPass, active]
  rcases runs with is | is <;> simp only [is, judges, pass]

theorem lotUnloaded_of_held (held : lotState s a = .held) : lotUnloaded s =
    if outboxPlace s.cell a.lot.lotId a.lot.index then (freeSlot (finishLot a .held s), .done [])
    else (s, .refused .full) := by
  rw [lotUnloaded, active]
  simp only [held]

theorem lotUnloaded_of_finished (finished : lotState s a = .finished) : lotUnloaded s =
    if a.waiting.isSome then (s, .refused .full) else (freeSlot s, .done []) := by
  rw [lotUnloaded, active]
  simp only [finished]

theorem lotUnloaded_of_open (open_ : lotState s a = .setup ∨ lotState s a = .running ∨ lotState s a = .paused) :
    lotUnloaded s = (s, .refused .notEnded) := by
  rw [lotUnloaded, active]
  rcases open_ with is | is | is <;> simp only [is]

end

theorem freeSlot_raise (e : Event) (c : Cell) (s : State) :
    freeSlot (raise e (s.setCell c)) = raise e (s.setCell { c with active := none }) := by
  rw [freeSlot, raise_setCell, raise_setCell]
  rfl

/-- Settles O50. -/
theorem passesEndAndLotsAreUnloaded : Obligations.PassesEndAndLotsAreUnloaded := by
  intro s takes
  have ends {x : Answer} {v : State} (is : endPass s = (v, x)) :
      exec .endPass s = .next (settle s (setOutcome x 0x46 v)) := exec_takes (c := .endPass) rfl takes is
  have unloads {x : Answer} {v : State} (is : lotUnloaded s = (v, x)) :
      exec .lotUnloaded s = .next (settle s (setOutcome x 0x47 v)) := exec_takes (c := .lotUnloaded) rfl takes is
  have role : s.start.role = .cell := by
    have code : s.isRole .cell = true := takes.2.2.1
    simpa [State.isRole] using code
  refine ⟨fun none => ⟨ends (by rw [endPass, none]), unloads (by rw [lotUnloaded, none])⟩, fun a active => ?_⟩
  intro record held
  have holds {r : HoldReason} (runs : lotState s a = .running ∨ lotState s a = .paused)
      (judges : judgePass a s = (endHeld (judged a) r s, .held)) :
      exec .endPass s = .next (settle s (setOutcome (.done (be1 2 ++ be1 a.pass)) 0x46 (held r))) := by
    have comes : endHeld (judged a) r s = held r := endHeld_of_unheld (unheld_of_running runs) (judged a) rfl
    rw [comes] at judges
    have pass : passNow (held r) = a.pass := passNow_placeHold
      (b := { judged a with phase := .awaiting, reasons := a.reasons ||| reasonBit r }) (by exact role) rfl _ _
    exact ends (endPass_of_running active runs judges pass)
  refine ⟨fun idle => ends (endPass_of_idle active idle), fun is => ends (endPass_of_held active is),
    fun runs tested passed room fresh => ?_, fun runs tested passed full fresh => ?_,
    fun runs tested failed may some_ low => ?_, fun runs untested => holds runs (judgePass_of_untested untested),
    fun runs tested failed spent => holds runs (judgePass_of_failed tested failed spent), fun is room fresh => ?_, ?_,
    fun is full fresh => ?_, fun finished none => ?_, fun finished some_ => ?_, fun open_ => unloads (lotUnloaded_of_open active open_)⟩
  · have judges := judgePass_of_passed (s := s) tested passed
    rw [finishLot_of_new (a := judged a) room fresh] at judges
    exact ends (endPass_of_running active runs judges (by rw [passNow, raise_cell]; rfl))
  · have judges := judgePass_of_passed (s := s) tested passed
    rw [finishLot_of_full (a := judged a) full fresh] at judges
    exact ends (endPass_of_running active runs judges (by rw [passNow, raise_cell]; rfl))
  · have judges := judgePass_of_retest (s := s) tested failed may some_
    rw [Nat.min_eq_left (by omega)] at judges
    exact ends (endPass_of_running active runs judges (by rw [startRetest, passNow, raise_cell]; rfl))
  · refine unloads ((lotUnloaded_of_held active is).trans ((if_pos ?_).trans ?_))
    · rw [outboxPlace, fresh]
      exact decide_eq_true room
    · rw [finishLot_of_new room fresh, freeSlot_raise]
      rfl
  · intro replaced present
    have again : outboxHas s.cell a.lot.lotId a.lot.index = true := outboxHas_iff.2 present
    refine ⟨fun runs tested passed => ?_, fun is => ?_⟩
    · have judges := judgePass_of_passed (s := s) tested passed
      rw [finishLot_of_again (a := judged a) again] at judges
      exact ends (endPass_of_running active runs judges (by rw [passNow, raise_cell]; rfl))
    · refine unloads ((lotUnloaded_of_held active is).trans ((if_pos (by rw [outboxPlace, again, Bool.true_or])).trans ?_))
      rw [finishLot_of_again again, freeSlot_raise]
      rfl
  · refine unloads ((lotUnloaded_of_held active is).trans (if_neg ?_))
    rw [outboxPlace, fresh, Bool.false_or]
    exact fun room => absurd (of_decide_eq_true room) (Nat.not_lt.2 full)
  · exact unloads ((lotUnloaded_of_finished active (lotState_finished finished)).trans (if_neg (by simp [none])))
  · exact unloads ((lotUnloaded_of_finished active (lotState_finished finished)).trans
      (if_pos (by simpa [Option.isSome_iff_ne_none] using some_)))

end Sys2Proof.Machine
end

section
/-! PROOFS. The limit table's commands (R113, R114). -/
namespace Sys2Proof.Machine

variable {s : State} {a : LimitPartA} {t : LimitTable} {pairs : List (Nat × Nat)} {p jam : Nat}

theorem isSome_productEntry_iff : (productEntry t p).isSome = true ↔ ∃ x ∈ t.products, x.1 = p := by
  simp [productEntry, -Prod.exists]

theorem isNone_productEntry_iff : (productEntry t p).isNone = true ↔ ¬∃ x ∈ t.products, x.1 = p := by
  rw [← isSome_productEntry_iff, Option.not_isSome_iff_eq_none, Option.isNone_iff_eq_none]

theorem limitSetB_of_other (other : ∀ a, s.cell.partA = some a → a.product ≠ p) :
    limitSetB p pairs jam s = (s, .refused .noPartA) := by
  unfold limitSetB
  split
  · rfl
  · exact if_pos (other _ ‹_›)

section
variable (held : s.cell.partA = some a) (same : a.product = p)
include held same

theorem limitSetB_of_full (product : p ≠ 0) (new : ¬∃ x ∈ s.limits.products, x.1 = p)
    (full : 8 ≤ s.limits.products.length) : limitSetB p pairs jam s = (s, .refused .full) := by
  simp only [limitSetB, held]
  exact (if_neg (not_not.2 same)).trans (if_pos ⟨product, isNone_productEntry_iff.2 new, full⟩)

theorem limitSetB_of_room
    (room : p = 0 ∨ (∃ x ∈ s.limits.products, x.1 = p) ∨ s.limits.products.length < 8) :
    limitSetB p pairs jam s =
      ((s.setLimits (putEntry p (joinParts a pairs jam) s.limits)).setCell { s.cell with partA := none },
        .done (be1 (putEntry p (joinParts a pairs jam) s.limits).products.length)) := by
  simp only [limitSetB, held]
  refine (if_neg (not_not.2 same)).trans (if_neg ?_)
  rintro ⟨product, new, full⟩
  rcases room with default | known | free
  · exact product default
  · exact isNone_productEntry_iff.1 new known
  · exact absurd full (Nat.not_le.2 free)

end

section
variable {e : LimitEntry}

theorem putEntry_default : putEntry 0 e t = { t with default := e } := if_pos rfl

theorem putEntry_of_known (product : p ≠ 0) (known : ∃ x ∈ t.products, x.1 = p) :
    putEntry p e t = { t with products := t.products.map fun x => if x.1 = p then (p, e) else x } :=
  (if_neg product).trans (if_pos (isSome_productEntry_iff.2 known))

theorem putEntry_of_new (product : p ≠ 0) (new : ¬∃ x ∈ t.products, x.1 = p) :
    putEntry p e t = { t with products := t.products ++ [(p, e)] } :=
  (if_neg product).trans (if_neg (mt isSome_productEntry_iff.1 new))

end

theorem limitClear_default : limitClear 0 s =
    (s.setLimits { s.limits with default := s.start.config.limits.default }, .done []) := if_pos rfl

theorem limitClear_of_known (product : p ≠ 0) (known : ∃ x ∈ s.limits.products, x.1 = p) : limitClear p s =
    (s.setLimits { s.limits with products := s.limits.products.filter fun x => x.1 != p },
      .done (be1 (s.limits.products.filter fun x => x.1 != p).length)) :=
  (if_neg product).trans (if_pos (isSome_productEntry_iff.2 known))

theorem limitClear_of_absent (product : p ≠ 0) (absent : ∀ x ∈ s.limits.products, x.1 ≠ p) :
    limitClear p s = (s, .refused .unknown) :=
  (if_neg product).trans (if_neg fun known =>
    (isSome_productEntry_iff.1 known).elim fun x is => absent x is.1 is.2)

/-- Settles O52. -/
theorem limitEntriesAreSetAndCleared : Obligations.LimitEntriesAreSetAndCleared := by
  refine ⟨fun a s takes => exec_takes (c := .limitSetA a) rfl takes rfl,
    fun p jam pairs s takes => ⟨fun other => exec_takes (c := .limitSetB p pairs jam) rfl takes
      (limitSetB_of_other other), fun a held same => ?_⟩, fun p s takes => ⟨?_, fun product known => ⟨?_, ?_⟩,
      fun product absent => exec_takes (c := .limitClear p) rfl takes (limitClear_of_absent product absent)⟩⟩
  · intro e set known
    have sets {l : LimitTable} (room : p = 0 ∨ known ∨ s.limits.products.length < 8)
        (put : putEntry p (joinParts a pairs jam) s.limits = l) : set l :=
      exec_takes (c := .limitSetB p pairs jam) rfl takes ((limitSetB_of_room held same room).trans (by rw [put]))
    refine ⟨fun default => ?_, fun product is => sets (.inr (.inl is)) (putEntry_of_known product is),
      fun product new free => sets (.inr (.inr free)) (putEntry_of_new product new),
      fun product new full => exec_takes (c := .limitSetB p pairs jam) rfl takes
        (limitSetB_of_full held same product new full)⟩
    subst default
    exact sets (.inl rfl) putEntry_default
  · intro default
    subst default
    exact exec_takes (c := .limitClear 0) rfl takes limitClear_default
  · exact exec_takes (c := .limitClear p) rfl takes (limitClear_of_known product known)
  · exact limitsFor_eq (.inr ⟨rfl, rfl, fun x mem => by simpa using (List.mem_filter.1 mem).2⟩)

end Sys2Proof.Machine
end

section
/-! PROOFS. The handler's relation (R78 to R85, R96). -/
namespace Sys2Proof.Machine

variable {s t u : State} {n k : Nat} {h : Header}

theorem raise_setHandler (e : Event) (x : Handler) (s : State) :
    raise e (s.setHandler x) = (raise e s).setHandler x := by
  unfold raise
  rw [apply_ite (State.setHandler · x)]
  rfl

theorem sendTo_setHandler (n : Nat) (p : Payload) (x : Handler) (s : State) :
    sendTo n p (s.setHandler x) = (sendTo n p s).setHandler x := by
  rw [sendTo_eq, sendTo_eq]
  rfl

/-! ## HANDLER-WANTED and RESERVE (R79, R80) -/

theorem handlerWanted_of_unfit {temp : Int} (unfit : s.isActive = false ∨ s.holds.overflow = true ∨
      s.handler.rel ≠ .free ∨ k ≠ s.handler.kit ∨ temp < s.start.config.tempMin ∨ s.start.config.tempMax < temp) :
    handlerWanted n k temp s = s := by
  refine if_neg fun fits => ?_
  simp only [Bool.and_eq_true, decide_eq_true_eq, beq_iff_eq, Bool.not_eq_true'] at fits
  obtain ⟨⟨⟨⟨⟨active, open_⟩, free⟩, kit⟩, low⟩, high⟩ := fits
  rcases unfit with is | is | is | is | is | is
  · exact absurd active (by simp [is])
  · exact absurd open_ (by simp [is])
  · exact is free
  · exact is kit.symm
  · exact absurd low (Int.not_le.2 is)
  · exact absurd high (Int.not_le.2 is)

theorem handlerWanted_of_fit {temp : Int} (active : s.isActive = true) (room : s.holds.overflow = false)
    (free : s.handler.rel = .free) (kit : k = s.handler.kit) (low : s.start.config.tempMin ≤ temp)
    (high : temp ≤ s.start.config.tempMax) :
    handlerWanted n k temp s = sendTo n (.handlerAvailable (ownFit s) (idleMinutes s)) s :=
  if_pos (by simp [active, room, free, kit, low, high])

theorem reserve_of_idle (idle : s.isActive = false) : reserve n s = s := if_pos (by simp [idle])

section
variable (active : s.isActive = true)
include active

theorem reserve_of_free (free : s.handler.rel = .free) : reserve n s =
    raise (.handlerReserved n) (sendTo n (.reserveReply .ok s.start.config.reservation) (s.setHandler { s.handler with
      rel := .reserved, cell := n, deadline := some (s.now + s.start.config.reservation * 60000) })) := by
  refine (if_neg (by simp [active])).trans ?_
  rw [free]
  rfl

theorem reserve_of_taken (taken : s.handler.rel = .binding ∨ s.handler.rel = .bound ∨ s.handler.rel = .orphaned) :
    reserve n s = sendTo n (.reserveReply .busy 0) s := by
  refine (if_neg (by simp [active])).trans ?_
  rcases taken with is | is | is <;> rw [is]

theorem reserve_of_mine {d : Nat} (reserved : s.handler.rel = .reserved) (mine : s.handler.cell = n)
    (deadline : s.handler.deadline = some d) :
    reserve n s = sendTo n (.reserveReply .ok (max 1 ((d - s.now + 59999) / 60000))) s := by
  refine (if_neg (by simp [active])).trans ?_
  rw [reserved, deadline, Nat.add_comm (d - s.now)]
  exact if_pos mine

theorem reserve_of_other (reserved : s.handler.rel = .reserved) (other : s.handler.cell ≠ n) :
    reserve n s = sendTo n (.reserveReply .busy 0) s := by
  refine (if_neg (by simp [active])).trans ?_
  rw [reserved]
  exact if_neg other

end

/-! ## BIND-REQ (R83) -/

theorem kitPasses_iff : kitPasses s k = true ↔ k = 0 ∨ k = s.handler.kit := by simp [kitPasses]

theorem bindReq_of_idle (idle : s.isActive = false) : bindReq n k s = s := if_pos (by simp [idle])

/-- BINDING with the cell `n` opened by BIND-REPLY(OK) (R83). -/
def opened (n : Nat) (reserved : Bool) (s : State) : State :=
  (sendBindReply n .ok s).setHandler { s.handler with
    rel := .binding, cell := n, bindTimer := some (s.now + s.start.config.bindTimeout), prevReserved := reserved }

theorem startBinding_reply (reserved : Bool) : startBinding n reserved (sendBindReply n .ok s) = opened n reserved s := by
  simp only [startBinding, sendBindReply, sendTo_handler, sendTo_start, State.after, sendTo_now, opened]

section
variable (active : s.isActive = true)
include active

theorem bindReq_of_free (free : s.handler.rel = .free) : bindReq n k s =
    if k = 0 ∨ k = s.handler.kit then opened n false s else sendBindReply n .mismatch s := by
  refine (if_neg (by simp [active])).trans ?_
  rw [free]
  simp only [kitPasses_iff, startBinding_reply]

theorem bindReq_of_other (taken : s.handler.rel ≠ .free) (other : s.handler.cell ≠ n) :
    bindReq n k s = sendBindReply n .busy s := by
  refine (if_neg (by simp [active])).trans ?_
  cases rel : s.handler.rel with
  | free => exact absurd rel taken
  | reserved => exact if_pos other
  | binding => exact if_pos other
  | bound => exact if_pos other
  | orphaned => exact if_pos other

variable (mine : s.handler.cell = n)
include mine

theorem bindReq_of_reserved (reserved : s.handler.rel = .reserved) : bindReq n k s =
    if k = 0 ∨ k = s.handler.kit then opened n true s else sendBindReply n .mismatch s := by
  refine (if_neg (by simp [active])).trans ?_
  rw [reserved]
  refine (if_neg (not_not.2 mine)).trans ?_
  simp only [kitPasses_iff, startBinding_reply]

theorem bindReq_of_binding (binds : s.handler.rel = .binding) : bindReq n k s =
    if k = 0 ∨ k = s.handler.kit then opened n s.handler.prevReserved s else sendBindReply n .mismatch s := by
  refine (if_neg (by simp [active])).trans ?_
  rw [binds]
  refine (if_neg (not_not.2 mine)).trans ?_
  simp only [kitPasses_iff, startBinding_reply]

theorem bindReq_of_bound (bound : s.handler.rel = .bound) : bindReq n k s =
    (sendBindReply n .ok s).setHandler { s.handler with statusOwed := true } := by
  refine (if_neg (by simp [active])).trans ?_
  rw [bound]
  refine (if_neg (not_not.2 mine)).trans ?_
  simp only [sendBindReply, sendTo_handler]

theorem bindReq_of_orphaned (orphaned : s.handler.rel = .orphaned) : bindReq n k s =
    raise (.bound n) ((sendBindReply n .ok s).setHandler { s.handler with
      rel := .bound, deadline := none, bindTimer := none, prevReserved := false,
      orphanTimer := none, permit := Permit.idle }) := by
  refine (if_neg (by simp [active])).trans ?_
  rw [orphaned]
  refine (if_neg (not_not.2 mine)).trans ?_
  subst mine
  simp only [enterBound, sendBindReply, sendTo_handler]

end

/-! ## A handshake that fails, and the end of the relation (R78, R81, R84) -/

/-- FREE entered by a handler that was `x` (R78). -/
def freed (x : Handler) (u : State) : State := u.setHandler { x with
  rel := .free, cell := 0, deadline := none, bindTimer := none, prevReserved := false,
  orphanTimer := none, freeSince := u.clock, permit := Permit.idle }

theorem enterFree_eq (s : State) : enterFree s = freed s.handler s := rfl

theorem endRelation_eq (reason : Nat) (s : State) :
    endRelation reason s = raise (.unbound s.handler.cell reason) (freed s.handler s) := rfl

theorem lapseReservation_eq (s : State) : lapseReservation s = raise (.reservationLapsed s.handler.cell)
    (freed s.handler (sendTo s.handler.cell (.reserveReply .lapsed 0) s)) := by
  rw [lapseReservation, enterFree_eq, sendTo_handler]

theorem deadlinePast_of_some {d : Nat} (deadline : s.handler.deadline = some d) :
    deadlinePast s = true ↔ d ≤ s.now := by
  rw [deadlinePast, deadline]
  exact decide_eq_true_iff

theorem failHandshake_of_first (first : s.handler.prevReserved = false) : failHandshake s =
    (raise (.handlerBindFailed s.handler.cell) s).setHandler { s.handler with
      rel := .free, cell := 0, deadline := none, bindTimer := none, prevReserved := false } := by
  simp only [failHandshake, raise_handler, first, Bool.false_eq_true, if_false]

/-- The state once a failed handshake has gone back to RESERVED. -/
def reservedAgain (s : State) : State := (raise (.handlerBindFailed s.handler.cell) s).setHandler
  { s.handler with rel := .reserved, bindTimer := none, prevReserved := false }

section
variable {d : Nat} (reserved : s.handler.prevReserved = true)
include reserved

theorem failHandshake_of_reserved :
    failHandshake s = if deadlinePast (reservedAgain s) then lapseReservation (reservedAgain s) else reservedAgain s := by
  simp only [failHandshake, raise_handler, reserved, if_true]
  rfl

variable (deadline : s.handler.deadline = some d)
include deadline

omit reserved in
theorem deadlinePast_reservedAgain : deadlinePast (reservedAgain s) = true ↔ d ≤ s.now := by
  rw [deadlinePast_of_some (s := reservedAgain s) deadline, show (reservedAgain s).now = s.now from raise_now _ s]

theorem failHandshake_of_early (early : s.now < d) : failHandshake s = reservedAgain s :=
  (failHandshake_of_reserved reserved).trans
    (if_neg (mt (deadlinePast_reservedAgain deadline).1 (Nat.not_le.2 early)))

theorem failHandshake_of_late (late : d ≤ s.now) : failHandshake s = raise (.reservationLapsed s.handler.cell)
    (freed s.handler (sendTo s.handler.cell (.reserveReply .lapsed 0) (raise (.handlerBindFailed s.handler.cell) s))) := by
  refine (failHandshake_of_reserved reserved).trans ((if_pos ((deadlinePast_reservedAgain deadline).2 late)).trans ?_)
  rw [lapseReservation_eq, reservedAgain, sendTo_setHandler]
  rfl

end

section
variable {r : UnbindReason}

theorem handlerUnbind_of_strange (strange : s.handler.rel = .free ∨ s.handler.cell ≠ n) : handlerUnbind n r s = s := by
  unfold handlerUnbind
  refine (ite_eq_left_iff).2 fun _ => ?_
  rcases strange with free | other
  · rw [free]
  · cases rel : s.handler.rel with
    | free => rfl
    | binding => exact if_neg other
    | reserved => exact if_neg fun both => other both.1
    | bound => exact if_neg fun both => other both.1
    | orphaned => exact if_neg fun both => other both.1

variable (live : s.isLive = true) (mine : s.handler.cell = n)
include live mine

theorem handlerUnbind_of_mine (taken : s.handler.rel ≠ .free) (ends : r ≠ .timeout) :
    handlerUnbind n r s = raise (.unbound n (unbindReasonCode r)) (freed s.handler s) := by
  rw [← mine, ← endRelation_eq]
  refine (if_neg (by simp [live])).trans ?_
  cases rel : s.handler.rel with
  | free => exact absurd rel taken
  | binding => exact (if_pos rfl).trans (if_neg ends)
  | reserved => exact if_pos ⟨rfl, ends⟩
  | bound => exact if_pos ⟨rfl, ends⟩
  | orphaned => exact if_pos ⟨rfl, ends⟩

theorem handlerUnbind_timeout_of_binding (binds : s.handler.rel = .binding) :
    handlerUnbind n .timeout s = failHandshake s := by
  refine (if_neg (by simp [live])).trans ?_
  rw [binds]
  exact (if_pos mine).trans (if_pos rfl)

omit mine in
theorem handlerUnbind_timeout_of_other (other : s.handler.rel ≠ .binding) : handlerUnbind n .timeout s = s := by
  refine (if_neg (by simp [live])).trans ?_
  cases rel : s.handler.rel with
  | free => rfl
  | binding => exact absurd rel other
  | reserved => exact if_neg fun both => both.2 rfl
  | bound => exact if_neg fun both => both.2 rfl
  | orphaned => exact if_neg fun both => both.2 rfl

end

theorem bindConfirm_of_match (active : s.isActive = true) (binds : s.handler.rel = .binding) (mine : s.handler.cell = n) :
    bindConfirm n s.handler.kit s.start.config.siteCount s = raise (.bound n) (enterBound n s) :=
  (if_pos ⟨active, binds, mine⟩).trans (if_pos ⟨rfl, rfl⟩)

theorem bindConfirm_of_mismatch {sites : Nat} (active : s.isActive = true) (binds : s.handler.rel = .binding)
    (mine : s.handler.cell = n) (mismatch : k ≠ s.handler.kit ∨ sites ≠ s.start.config.siteCount) :
    bindConfirm n k sites s = failHandshake s :=
  (if_pos ⟨active, binds, mine⟩).trans (if_neg fun both => mismatch.elim (· both.1) (· both.2))

theorem bindConfirm_of_other {sites : Nat} (other : s.handler.rel ≠ .binding ∨ s.handler.cell ≠ n) :
    bindConfirm n k sites s = s :=
  if_neg fun both => other.elim (· both.2.1) (· both.2.2)

/-! ## The notices (R85) -/

section
variable (live : s.isLive = true) (role : s.start.role = .handler)
include live role

theorem roleLost_of_handler (n : Nat) : roleLost n s = handlerPeerLost n s := by
  rw [roleLost, if_pos live, role]

theorem roleBack_of_handler (n : Nat) : roleBack n s = handlerPeerBack n s := by
  rw [roleBack, if_pos live, role]

theorem roleRestart_of_handler (n : Nat) : roleRestart n s = handlerPeerRestart n s := by
  rw [roleRestart, if_pos live, role]

end

/-- Settles O53. -/
theorem handlerRelationMoves : Obligations.HandlerRelationMoves := by
  refine ⟨fun h s idle => ⟨fun k t arrives => ?_, fun arrives => ?_, fun k arrives => ?_⟩,
    fun h k t s arrives unfit => ?_, fun s running role active => ?_⟩
  · exact exec_unheeded (p := .handlerWanted k t) rfl arrives rfl fun live =>
      (if_neg (by simp [live])).trans (handlerWanted_of_unfit (s := heard h s) (.inl idle))
  · exact exec_unheeded (p := .reserve) rfl arrives rfl fun live =>
      (if_neg (by simp [live])).trans (reserve_of_idle (s := heard h s) idle)
  · exact exec_unheeded (p := .bindReq k) rfl arrives rfl fun live =>
      (if_neg (by simp [live])).trans (bindReq_of_idle (s := heard h s) idle)
  · exact exec_unheeded (p := .handlerWanted k t) rfl arrives rfl fun live =>
      (if_neg (by simp [live])).trans (handlerWanted_of_unfit (s := heard h s) (.inr unfit))
  have live := isLive_of_isActive active
  intro fit frees failed
  have fails {u : State} (same : u.handler = s.handler) : failed u (failHandshake u) := by
    refine ⟨fun first => ?_, fun d reserved deadline => ⟨fun early => ?_, fun late => ?_⟩⟩
    · rw [failHandshake_of_first (by rw [same]; exact first), same]
    · rw [failHandshake_of_early (by rw [same]; exact reserved) (by rw [same]; exact deadline) early, reservedAgain, same]
    · rw [failHandshake_of_late (by rw [same]; exact reserved) (by rw [same]; exact deadline) late, same]
      rfl
  have reserves {h : Header} {t : State} (arrives : Arrives h .reserve s) (is : reserve h.source (heard h s) = t) :
      exec (.reserve h) s = .next (settle s t) :=
    exec_role (p := .reserve) rfl arrives rfl ((if_neg (by simp [live])).trans is)
  have asks {h : Header} {k : Nat} {t : State} (arrives : Arrives h (.bindReq k) s)
      (is : bindReq h.source k (heard h s) = t) : exec (.bindReq h k) s = .next (settle s t) :=
    exec_role (p := .bindReq k) rfl arrives rfl ((if_neg (by simp [live])).trans is)
  have confirms {h : Header} {k n : Nat} {t : State} (arrives : Arrives h (.bindConfirm k n) s)
      (is : bindConfirm h.source k n (heard h s) = t) : exec (.bindConfirm h k n) s = .next (settle s t) :=
    exec_role (p := .bindConfirm k n) rfl arrives rfl ((if_neg (by simp [live])).trans is)
  have unbinds {h : Header} {r : UnbindReason} {t : State} (arrives : Arrives h (.unbind r) s)
      (is : handlerUnbind h.source r (heard h s) = t) : exec (.unbind h r) s = .next (settle s t) :=
    exec_role (p := .unbind r) rfl arrives rfl ((if_neg (by simp [live])).trans
      ((if_neg (by simp [State.isRole, role])).trans is))
  refine ⟨fun h k t arrives room free kit low high => ?_, fun h arrives free => ?_, fun h arrives taken => ?_,
    fun h arrives reserved => ⟨fun d mine deadline => ?_, fun other => ?_⟩, fun h k arrives => ?_,
    fun h k n arrives => ⟨fun binds mine mismatch => ?_, fun other => ?_⟩, fun d binds on => ?_,
    fun h r arrives => ⟨fun strange => ?_, fun taken mine => ⟨fun ends => ?_, fun timeout other => ?_, fun timeout binds => ?_⟩⟩,
    fun d reserved on => ?_, fun h k arrives free => ⟨fun passes => ?_, fun some_ other => ?_⟩,
    fun h arrives binds mine => ?_, fun d binds on first => ?_,
    fun h r arrives bound mine => ⟨fun ends => ?_, fun timeout => ?_⟩, fun d orphaned on => ?_, ?_⟩
  · exact exec_role (p := .handlerWanted k t) rfl arrives rfl ((if_neg (by simp [live])).trans
      (handlerWanted_of_fit (s := heard h s) active room free kit low high))
  · exact reserves arrives (reserve_of_free (s := heard h s) active free)
  · exact reserves arrives (reserve_of_taken (s := heard h s) active taken)
  · exact reserves arrives (reserve_of_mine (s := heard h s) active reserved mine deadline)
  · exact reserves arrives (reserve_of_other (s := heard h s) active reserved other)
  · intro answered gives passes opens
    refine ⟨fun taken other => asks arrives (bindReq_of_other (s := heard h s) active taken other),
      fun reserved mine => ⟨fun pass => ?_, fun no => ?_⟩, fun binds mine => ⟨fun pass => ?_, fun no => ?_⟩,
      fun bound mine => asks arrives (bindReq_of_bound (s := heard h s) active mine bound),
      fun orphaned mine => asks arrives (bindReq_of_orphaned (s := heard h s) active mine orphaned)⟩
    · exact asks arrives ((bindReq_of_reserved (s := heard h s) active mine reserved).trans (if_pos pass))
    · exact asks arrives ((bindReq_of_reserved (s := heard h s) active mine reserved).trans (if_neg no))
    · exact asks arrives ((bindReq_of_binding (s := heard h s) active mine binds).trans (if_pos pass))
    · exact asks arrives ((bindReq_of_binding (s := heard h s) active mine binds).trans (if_neg no))
  · exact ⟨_, confirms arrives (bindConfirm_of_mismatch (s := heard h s) active binds mine mismatch), fails rfl⟩
  · exact confirms arrives (bindConfirm_of_other (s := heard h s) other)
  · exact ⟨_, exec_expiry (act := failHandshake) running rfl ((if_pos binds).trans on) rfl, fails rfl⟩
  · exact unbinds arrives (handlerUnbind_of_strange (s := heard h s) strange)
  · refine unbinds arrives ((handlerUnbind_of_mine (s := heard h s) live mine taken ends).trans ?_)
    cases r with
    | timeout => exact absurd rfl ends
    | undock => rfl
    | cancel => rfl
  · subst timeout
    exact unbinds arrives (handlerUnbind_timeout_of_other (s := heard h s) live other)
  · subst timeout
    exact ⟨_, unbinds arrives (handlerUnbind_timeout_of_binding (s := heard h s) live mine binds), fails rfl⟩
  · refine exec_expiry (act := handlerDeadlinePast) running rfl (by rw [handlerDeadline, reserved]; exact on) ?_
    exact (if_pos reserved).trans (lapseReservation_eq (s.setNow (max s.now d)))
  · exact asks arrives ((bindReq_of_free (s := heard h s) active free).trans (if_pos passes))
  · exact asks arrives ((bindReq_of_free (s := heard h s) active free).trans (if_neg (by simp_all)))
  · exact confirms arrives ((bindConfirm_of_match (s := heard h s) active binds mine))
  · exact exec_expiry (act := failHandshake) running rfl ((if_pos binds).trans on)
      (failHandshake_of_first (s := s.setNow (max s.now d)) first)
  · exact unbinds arrives (handlerUnbind_of_mine (s := heard h s) live mine (by simp [bound]) ends)
  · subst timeout
    exact unbinds arrives (handlerUnbind_timeout_of_other (s := heard h s) live (by simp [bound]))
  · refine exec_expiry (act := orphanExpiry) running rfl ((if_pos orphaned).trans on) ?_
    rw [orphanExpiry, endRelation_eq, sendTo_handler]
    rfl
  · intro n
    simp only [roleLost_of_handler live role, roleBack_of_handler live role, roleRestart_of_handler live role]
    refine ⟨fun bound => if_pos ⟨bound, rfl⟩, fun other => if_neg fun both => other both.1, fun orphaned => if_pos ⟨orphaned, rfl⟩,
      fun other => if_neg fun both => other both.1, fun taken => if_pos ⟨taken, rfl⟩, fun free => if_neg fun both => both.1 free,
      fun m other => ⟨if_neg fun both => other both.2.symm, if_neg fun both => other both.2.symm,
        if_neg fun both => other both.2.symm⟩⟩

end Sys2Proof.Machine
end

section
/-! PROOFS. The permit and the soak (R95, R97 to R100). -/
namespace Sys2Proof.Machine

variable {s t u : State} {n : Nat} {p : Permit}

/-! ## PERMIT (R95, R97) -/

/-- The handler once a PERMIT that names a lot is stored (R95, R101). -/
def permitted (p : Permit) (x : Handler) : Handler := { x with
  permit := p, jamLot := (p.lotId, p.index), jamCount := if (p.lotId, p.index) = x.jamLot then x.jamCount else 0 }

theorem permitJam_named (named : p.lotId ≠ 0) (x : Handler) : { permitJam p x with permit := p } = permitted p x := by
  unfold permitted permitJam
  split
  · rename_i new
    rw [if_neg new.2]
  · rename_i old
    have same : (p.lotId, p.index) = x.jamLot := not_not.1 fun other => old ⟨named, other⟩
    rw [if_pos same, same]

theorem permitJam_idle (idle : p.lotId = 0) (x : Handler) : permitJam p x = x := if_neg fun both => both.1 idle

theorem takePermit_of_other (other : s.isActive = false ∨ s.handler.rel ≠ .bound ∨ s.handler.cell ≠ n) :
    takePermit n p s = s := by
  refine if_neg ?_
  rintro ⟨active, bound, mine⟩
  rcases other with is | is | is
  · exact absurd active (by simp [is])
  · exact is bound
  · exact is mine

section
variable (active : s.isActive = true) (bound : s.handler.rel = .bound) (mine : s.handler.cell = n)
include active bound mine

theorem takePermit_idle (idle : p.lotId = 0) : takePermit n p s = s.setHandler { s.handler with permit := p } := by
  refine (if_pos ⟨active, bound, mine⟩).trans ((if_pos idle).trans ?_)
  rw [permitJam_idle idle]

theorem takePermit_named (named : p.lotId ≠ 0) :
    takePermit n p s = permitTarget p.temp (s.setHandler (permitted p s.handler)) := by
  refine (if_pos ⟨active, bound, mine⟩).trans ((if_neg named).trans ?_)
  rw [permitJam_named named]

theorem takePermit_new (named : p.lotId ≠ 0) (new : s.handler.soak = .unset ∨ s.handler.target ≠ some p.temp) :
    takePermit n p s = raise (.setpointRequest p.temp) (s.setHandler { permitted p s.handler with
      target := some p.temp, soakTimer := none, graceTimer := none, soak := .settling }) :=
  (takePermit_named active bound mine named).trans (if_pos new)

theorem takePermit_same (named : p.lotId ≠ 0) (set_ : s.handler.soak ≠ .unset) (same : s.handler.target = some p.temp) :
    takePermit n p s = s.setHandler (permitted p s.handler) :=
  (takePermit_named active bound mine named).trans (if_neg fun new => new.elim set_ fun other => other same)

end

/-- A PERMIT with no lot that passes the CONTENT check is in the idle form (R68). -/
theorem idle_of_permitOk (ok : permitOk p = true) (idle : p.lotId = 0) :
    p = { run := p.run, lotId := 0, index := 0, kit := 0, temp := 0 } := by
  rcases permitOk_iff.1 ok with ⟨-, index, kit, temp⟩ | ⟨named, -⟩
  · cases p
    simp_all
  · exact absurd idle named

/-! ## TEMP REACHED and TEMP LOST (R98, R99) -/

theorem tempReached_of_strange {t : Int} (set_ : s.handler.soak ≠ .unset) (other : s.handler.target ≠ some t) :
    tempReached t s = (s, .refused .wrongSetpoint) := by
  rw [tempReached]
  cases soak : s.handler.soak with
  | unset => exact absurd soak set_
  | settling => exact if_neg other
  | soaking => exact if_neg other
  | ready => exact if_neg other
  | excursion => exact if_neg other

theorem tempReached_of_done {t : Int} (done : s.handler.soak = .soaking ∨ s.handler.soak = .ready)
    (same : s.handler.target = some t) : tempReached t s = (s, .done (be1 (soakStateCode s.handler.soak))) := by
  rw [tempReached]
  rcases done with is | is
  · rw [is]
    exact (if_pos same).trans (by rw [soakAnswer, is])
  · rw [is]
    exact (if_pos same).trans (by rw [soakAnswer, is])

theorem soakAnswer_startSoak (seconds : Nat) (t : Int) (s : State) :
    soakAnswer (startSoak seconds t s) = (s.setHandler { s.handler with
      target := some t, graceTimer := none, soak := if seconds = 0 then .ready else .soaking,
      soakTimer := if seconds = 0 then none else some (s.now + seconds * 1000) },
    .done (be1 (if seconds = 0 then 3 else 2))) := by
  rw [soakAnswer, startSoak]
  split <;> rfl

theorem tempReached_of_band {t : Int}
    (starts : s.handler.soak = .unset ∨ s.handler.soak = .settling ∧ s.handler.target = some t) :
    tempReached t s = soakAnswer (startSoak (bandSoak s.start.config t) t s) := by
  rw [tempReached]
  rcases starts with is | ⟨is, same⟩
  · rw [is]
  · rw [is]
    exact if_pos same

theorem tempReached_of_recovery {t : Int} (out : s.handler.soak = .excursion) (same : s.handler.target = some t) :
    tempReached t s = soakAnswer (startSoak s.start.config.recoverySoak t s) := by
  rw [tempReached, out]
  exact if_pos same

/-- A command the station state does not allow (R174). -/
theorem transact_of_state {c : PortCommand} (kept : s.port.abandoned = false) (code : codeOk s (commandCode c) = true)
    (ok : commandOk s c = true) (may : available s (availability c) = false) :
    transact c s = setOutcome (.refused .state) (commandCode c) s := by
  simp [transact, kept, code, ok, may]

/-- Settles O54. -/
theorem soakStatesFollowTheChamber : Obligations.SoakStatesFollowTheChamber := by
  intro s running role
  have permits {h : Header} {p : Permit} {t : State} (arrives : Arrives h (.permit p) s) (live : s.isLive = true)
      (is : takePermit h.source p (heard h s) = t) : exec (.permit h p) s = .next (settle s t) :=
    exec_role (p := .permit p) rfl arrives rfl ((if_neg (by simp [live])).trans is)
  refine ⟨fun h p arrives active bound mine named => ?_, fun h p arrives active bound mine idle => ⟨?_, ?_⟩,
    fun h p arrives other => ?_, fun t takes => ?_, fun takes => ?_, ?_, fun d soaks on => ?_, fun d out on => ?_⟩
  · intro kept
    have live := isLive_of_isActive active
    exact ⟨fun new => permits arrives live (takePermit_new (s := heard h s) active bound mine named new),
      fun set_ same => permits arrives live (takePermit_same (s := heard h s) active bound mine named set_ same)⟩
  · exact idle_of_permitOk (by obtain ⟨-, -, -, -, -, ok, -⟩ := arrives; exact ok) idle
  · exact permits arrives (isLive_of_isActive active) (takePermit_idle (s := heard h s) active bound mine idle)
  · exact exec_unheeded (p := .permit p) rfl arrives rfl fun live =>
      (if_neg (by simp [live])).trans (takePermit_of_other (s := heard h s) other)
  · have reaches {a : Answer} {v : State} (is : tempReached t s = (v, a)) :
        exec (.tempReached t) s = .next (settle s (setOutcome a 0x60 v)) := exec_takes (c := .tempReached t) rfl takes is
    intro band soaks
    refine ⟨fun unset => ?_, fun settling same => ?_, fun out same => ?_, fun done same => reaches (tempReached_of_done done same),
      fun set_ other => reaches (tempReached_of_strange set_ other)⟩
    · exact reaches ((tempReached_of_band (.inl unset)).trans (soakAnswer_startSoak _ _ _))
    · exact reaches ((tempReached_of_band (.inr ⟨settling, same⟩)).trans (soakAnswer_startSoak _ _ _))
    · exact reaches ((tempReached_of_recovery out same).trans (soakAnswer_startSoak _ _ _))
  · have loses {a : Answer} {v : State} (is : tempLost s = (v, a)) :
        exec .tempLost s = .next (settle s (setOutcome a 0x61 v)) := exec_takes (c := .tempLost) rfl takes is
    refine ⟨fun soaks => loses ?_, fun ready grace => loses ?_, fun ready none => loses ?_, fun rests => loses ?_⟩
    · rw [tempLost, soaks]
      rfl
    · rw [tempLost, ready]
      simp only [if_neg grace]
      rfl
    · rw [tempLost, ready]
      simp only [if_pos none]
      rfl
    · rw [tempLost]
      rcases rests with is | is | is
      · rw [is]
        exact congrArg (Prod.mk s) (by rw [is])
      · rw [is]
        exact congrArg (Prod.mk s) (by rw [is])
      · rw [is]
        exact congrArg (Prod.mk s) (by rw [is])
  · intro c is ok kept frozen
    have dead : s.isLive = false := by rcases frozen with is | is <;> simp [State.isLive, is]
    have code : codeOk s (commandCode c) = true ∧ availability c = .live := by
      rcases is with rfl | ⟨t, rfl⟩ <;> exact ⟨beq_iff_eq.2 role, rfl⟩
    exact transact_of_state kept code.1 ok (by rw [code.2]; exact dead)
  · exact exec_expiry (act := soakExpiry) running rfl ((if_pos soaks).trans on) rfl
  · exact exec_expiry (act := graceExpiry) running rfl ((if_pos out).trans on) rfl

end Sys2Proof.Machine
end

section
/-! PROOFS. The handler's sites, their counters and its kit (R103 to R108). -/
namespace Sys2Proof.Machine

variable {s t u : State} {n : Nat}

theorem lifeReached_iff {c : Settings} {v : Nat} : lifeReached c v = true ↔ ∃ l, contactorLimit c = some l ∧ l ≤ v := by
  unfold lifeReached
  cases limit : contactorLimit c <;> simp

/-- The state with the status of site n replaced. -/
def putSite (n : Nat) (x : Site) (s : State) : State :=
  s.setHandler { s.handler with sites := s.handler.sites.set (n - 1) x }

theorem siteAt_of_pos {h : Handler} (pos : 1 ≤ n) : siteAt h n = h.sites.getD (n - 1) { status := .up, counter := 0 } :=
  if_neg (Nat.ne_of_gt pos)

theorem siteAt_putSite {x : Site} {m : Nat} (low : 1 ≤ n) (high : n ≤ s.handler.sites.length) (pos : 1 ≤ m) :
    siteAt (putSite n x s).handler m = if m = n then x else siteAt s.handler m := by
  rw [siteAt_of_pos pos, siteAt_of_pos pos, List.getD_eq_getElem?_getD, List.getD_eq_getElem?_getD]
  change ((s.handler.sites.set (n - 1) x)[m - 1]?).getD _ = _
  rw [List.getElem?_set]
  by_cases same : m = n
  · subst same
    rw [if_pos rfl, if_pos (by omega), if_pos rfl, Option.getD_some]
  · rw [if_neg (by omega), if_neg same]

theorem updateSite_eq {f : Site → Site} (low : 1 ≤ n) : updateSite n f s = putSite n (f (siteAt s.handler n)) s := by
  rw [updateSite, putSite, modifyAt_eq_set _ { status := .up, counter := 0 }, siteAt, nth1, if_neg (by omega)]

theorem putSite_putSite (x y : Site) : putSite n x (putSite n y s) = putSite n x s := by
  rw [putSite, putSite, putSite]
  simp only [State.setHandler, List.set_set]

section
variable (low : 1 ≤ n) (high : n ≤ s.handler.sites.length)
include low

theorem takeDown_eq (r : SiteStatus) : takeDown n r s = raise (.siteDown n r) (putSite n { siteAt s.handler n with status := r } s) := by
  rw [takeDown, updateSite_eq low]

include high

theorem applyLimit_putSite (x : Site) : applyLimit n (putSite n x s) =
    if lifeReached s.start.config x.counter = true ∧ x.status ≠ .contactLife then
      raise (.siteDown n .contactLife) (putSite n { status := .contactLife, counter := x.counter } s)
    else putSite n x s := by
  rw [applyLimit, takeDown_eq low, siteAt_putSite low high low, if_pos rfl, putSite_putSite]
  simp only [Bool.and_eq_true, bne_iff_ne]
  rfl

end

/-! ## UNIT INDEXED (R103) -/

/-- An insertion at a site of counter `v` wears it out (R104). -/
def wearsOut (c : Settings) (x : Site) : Bool := lifeReached c (min (x.counter + 1) 4294967295)

/-- A site that is up after an insertion (R103, R104). -/
def inserted (c : Settings) (x : Site) : Site :=
  { status := if wearsOut c x then .contactLife else .up, counter := min (x.counter + 1) 4294967295 }

section
variable (low : 1 ≤ n) (high : n ≤ s.handler.sites.length) (up : (siteAt s.handler n).status = .up)
include low high up

theorem insertUnit_of_worn (worn : wearsOut s.start.config (siteAt s.handler n) = true) : insertUnit s n =
    raise (.siteDown n .contactLife) (putSite n (inserted s.start.config (siteAt s.handler n)) s) := by
  rw [insertUnit, updateSite_eq low, applyLimit_putSite low high, if_pos ⟨worn, by simp [up]⟩, inserted, if_pos worn]

theorem insertUnit_of_fresh (fresh : wearsOut s.start.config (siteAt s.handler n) = false) : insertUnit s n =
    putSite n (inserted s.start.config (siteAt s.handler n)) s := by
  rw [insertUnit, updateSite_eq low, applyLimit_putSite low high,
    if_neg fun both => absurd (show wearsOut _ _ = true from both.1) (by simp [fresh]), inserted, fresh, up]
  rfl

end

/-- The sites once an insertion has been counted at each of `ns`. -/
def insertedSites (c : Settings) (h : Handler) (ns : List Nat) : List Site :=
  ns.foldl (fun xs n => xs.set (n - 1) (inserted c (siteAt h n))) h.sites

theorem getElem?_foldl_set {α : Type} (g : Nat → α) (ns : List Nat) (pos : ∀ n ∈ ns, 1 ≤ n) (xs : List α) (i : Nat) :
    (ns.foldl (fun xs n => xs.set (n - 1) (g n)) xs)[i]? =
      if i + 1 ∈ ns ∧ i < xs.length then some (g (i + 1)) else xs[i]? := by
  induction ns generalizing xs with
  | nil => simp
  | cons n ns ih =>
    have one := pos n List.mem_cons_self
    rw [List.foldl_cons, ih (fun m mem => pos m (List.mem_cons_of_mem n mem)), List.length_set, List.getElem?_set]
    by_cases same : n = i + 1
    · subst same
      simp only [Nat.add_sub_cancel, if_true, List.mem_cons, true_or, true_and]
      split <;> rename_i is <;> split <;> simp_all
    · have differ : ¬n - 1 = i := by omega
      simp [differ, Ne.symm same]

theorem length_foldl_set {α : Type} (g : Nat → α) (ns : List Nat) (xs : List α) :
    (ns.foldl (fun xs n => xs.set (n - 1) (g n)) xs).length = xs.length := by
  induction ns generalizing xs with
  | nil => rfl
  | cons n ns ih => rw [List.foldl_cons, ih, List.length_set]

/-- Insertions at sites that are up: the sites that wear out raise their events lowest first. -/
theorem foldl_insertUnit (ns : List Nat) (nodup : ns.Nodup)
    (ups : ∀ n ∈ ns, 1 ≤ n ∧ n ≤ s.handler.sites.length ∧ (siteAt s.handler n).status = .up) :
    ns.foldl insertUnit s =
      (ns.filter fun n => wearsOut s.start.config (siteAt s.handler n)).foldl (fun u n => raise (.siteDown n .contactLife) u)
        (s.setHandler { s.handler with sites := insertedSites s.start.config s.handler ns }) := by
  induction ns generalizing s with
  | nil => rfl
  | cons n ns ih =>
    obtain ⟨fresh, nodup⟩ := List.nodup_cons.1 nodup
    obtain ⟨low, high, up⟩ := ups n List.mem_cons_self
    have later (u : State) (start : u.start = s.start)
        (handler : u.handler = (putSite n (inserted s.start.config (siteAt s.handler n)) s).handler) :
        ns.foldl insertUnit u =
          (ns.filter fun n => wearsOut s.start.config (siteAt s.handler n)).foldl (fun u n => raise (.siteDown n .contactLife) u)
            (u.setHandler { s.handler with sites := insertedSites s.start.config s.handler (n :: ns) }) := by
      have same (m : Nat) (mem : m ∈ ns) : siteAt u.handler m = siteAt s.handler m := by
        rw [handler, siteAt_putSite low high (ups m (List.mem_cons_of_mem n mem)).1, if_neg fun (is : m = n) => fresh (is ▸ mem)]
      rw [ih nodup fun m mem => ?_, start, List.filter_congr fun m mem => by rw [same m mem]]
      · have sites : insertedSites s.start.config u.handler ns = insertedSites s.start.config s.handler (n :: ns) := by
          rw [insertedSites, insertedSites, List.foldl_cons, List.foldl_ext _ _ _ fun xs m mem => by rw [same m mem], handler]
          rfl
        rw [sites, handler]
        rfl
      · obtain ⟨pos, inside, stands⟩ := ups m (List.mem_cons_of_mem n mem)
        refine ⟨pos, ?_, by rw [same m mem]; exact stands⟩
        rw [handler]
        exact inside.trans_eq List.length_set.symm
    rw [List.foldl_cons]
    cases worn : wearsOut s.start.config (siteAt s.handler n) with
    | true =>
      rw [insertUnit_of_worn low high up worn]
      refine (later (raise _ (putSite _ _ s)) (raise_start _ _) (raise_handler _ _)).trans ?_
      rw [List.filter_cons, if_pos worn, List.foldl_cons, raise_setHandler, putSite, raise_setHandler]
      rfl
    | false =>
      rw [insertUnit_of_fresh low high up worn]
      refine (later (putSite _ _ s) rfl rfl).trans ?_
      rw [List.filter_cons, if_neg (by simp [worn])]
      rfl

theorem maskHas_and {w : Nat} (a b : BitVec w) (n : Nat) : maskHas (a &&& b) n = (maskHas a n && maskHas b n) := by
  rw [maskHas, maskHas, maskHas, BitVec.getLsbD_and]
  cases decide (1 ≤ n) <;> simp

theorem eq_of_maskHas {w : Nat} {a b : BitVec w} (same : ∀ n, maskHas a n = maskHas b n) : a = b :=
  BitVec.eq_of_getLsbD_eq fun i _ => by simpa [maskHas] using same (i + 1)

theorem maskHas_twoPow (low : 1 ≤ n) (high : n ≤ 8) (m : Nat) :
    maskHas (BitVec.twoPow 8 (n - 1)) m = true ↔ m = n := by
  simp only [maskHas, BitVec.getLsbD_twoPow, Bool.and_eq_true, decide_eq_true_eq]
  omega

/-- The sites UNIT INDEXED counts (R103). -/
def countedSites (m : SiteMask) (s : State) : List Nat := siteNumbers.filter (maskHas (m &&& siteMask s))

theorem mem_countedSites {m : SiteMask} : n ∈ countedSites m s ↔
    maskHas m n = true ∧ 1 ≤ n ∧ n ≤ 8 ∧ n ≤ s.start.config.siteCount ∧ (siteAt s.handler n).status = .up := by
  rw [countedSites, List.mem_filter, maskHas_and, mem_siteNumbers, Bool.and_eq_true, maskHas_siteMask]
  tauto

theorem unitIndexed_eq (m : SiteMask) (sites : s.handler.sites.length = 8) : unitIndexed m s =
    (((countedSites m s).filter fun n => wearsOut s.start.config (siteAt s.handler n)).foldl
        (fun u n => raise (.siteDown n .contactLife) u)
        (s.setHandler { s.handler with sites := insertedSites s.start.config s.handler (countedSites m s) }),
      .done (be1 (m &&& siteMask s).toNat ++ be1 (flagCode s.pins.indexEn))) := by
  have ups (n : Nat) (mem : n ∈ countedSites m s) :
      1 ≤ n ∧ n ≤ s.handler.sites.length ∧ (siteAt s.handler n).status = .up := by
    obtain ⟨-, low, high, -, up⟩ := mem_countedSites.1 mem
    exact ⟨low, sites ▸ high, up⟩
  exact congrArg (Prod.mk · (Answer.done (be1 (m &&& siteMask s).toNat ++ be1 (flagCode s.pins.indexEn))))
    (foldl_insertUnit (countedSites m s) (List.Nodup.filter _ (by decide)) ups)

theorem getElem?_insertedSites {m : SiteMask} {x : Site} (low : 1 ≤ n)
    (at_ : (insertedSites s.start.config s.handler (countedSites m s))[n - 1]? = some x) :
    n ∈ countedSites m s ∧ x = inserted s.start.config (siteAt s.handler n) ∨
      n ∉ countedSites m s ∧ x = siteAt s.handler n := by
  rw [insertedSites, getElem?_foldl_set _ _ (fun k mem => (mem_countedSites.1 mem).2.1), Nat.sub_add_cancel low] at at_
  by_cases mem : n ∈ countedSites m s
  · by_cases high : n - 1 < s.handler.sites.length
    · rw [if_pos ⟨mem, high⟩] at at_
      exact .inl ⟨mem, (Option.some.inj at_).symm⟩
    · rw [if_neg (high ·.2), List.getElem?_eq_none (Nat.le_of_not_lt high)] at at_
      cases at_
  · rw [if_neg (mem ·.1)] at at_
    exact .inr ⟨mem, by rw [siteAt_of_pos low, List.getD_eq_getElem?_getD, at_]; rfl⟩

/-! ## UNIT INDEXED of one site -/

theorem filter_twoPow (low : 1 ≤ n) (high : n ≤ 8) : siteNumbers.filter (maskHas (BitVec.twoPow 8 (n - 1))) = [n] := by
  interval_cases n <;> decide

theorem unitIndexed_one (low : 1 ≤ n) (high : n ≤ 8) (inside : n ≤ s.start.config.siteCount)
    (up : (siteAt s.handler n).status = .up) : unitIndexed (BitVec.twoPow 8 (n - 1)) s =
      (insertUnit s n, .done (be1 (2 ^ (n - 1)) ++ be1 (flagCode s.pins.indexEn))) := by
  have mask : BitVec.twoPow 8 (n - 1) &&& siteMask s = BitVec.twoPow 8 (n - 1) := eq_of_maskHas fun k => by
    rw [maskHas_and, Bool.eq_iff_iff, Bool.and_eq_true, maskHas_twoPow low high, maskHas_siteMask]
    exact and_iff_left_of_imp fun same => same ▸ ⟨low, high, inside, up⟩
  have value : (BitVec.twoPow 8 (n - 1)).toNat = 2 ^ (n - 1) := BitVec.toNat_twoPow_of_lt (by omega)
  rw [unitIndexed, mask, filter_twoPow low high, value]
  rfl

theorem unitIndexed_none {m : SiteMask} (none : ∀ n, maskHas m n = true → (siteAt s.handler n).status ≠ .up) :
    unitIndexed m s = (s, .done (be1 0 ++ be1 (flagCode s.pins.indexEn))) := by
  have mask : m &&& siteMask s = 0#8 := eq_of_maskHas fun k => by
    rw [maskHas_and, Bool.eq_iff_iff, Bool.and_eq_true, maskHas_siteMask]
    exact ⟨fun both => absurd both.2.2.2.2 (none k both.1), fun zero => by simp [maskHas] at zero⟩
  rw [unitIndexed, mask, List.filter_eq_nil_iff.2 fun k _ => by simp [maskHas]]
  rfl

/-! ## The other site commands (R105 to R108) -/

theorem contactorReplaced_eq (low : 1 ≤ n) : contactorReplaced n s =
    (putSite n { status := if (siteAt s.handler n).status = .contactLife then .up else (siteAt s.handler n).status, counter := 0 } s,
      .done []) := by
  rw [contactorReplaced, updateSite_eq low]

theorem contactorCount_of_busy {v : Nat}
    (busy : s.handler.rel = .binding ∨ s.handler.rel = .bound ∨ s.handler.rel = .orphaned) :
    contactorCount n v s = (s, .refused .busy) := by
  rw [contactorCount]
  rcases busy with is | is | is <;> rw [is]

section
variable (low : 1 ≤ n)
include low

theorem contactorCount_of_free {v : Nat} (free : s.handler.rel = .free ∨ s.handler.rel = .reserved)
    (high : n ≤ s.handler.sites.length) : contactorCount n v s =
      (if lifeReached s.start.config v = true ∧ (siteAt s.handler n).status ≠ .contactLife then
        raise (.siteDown n .contactLife) (putSite n { status := .contactLife, counter := v } s)
      else putSite n { siteAt s.handler n with counter := v } s, .done []) := by
  rw [← applyLimit_putSite low high { siteAt s.handler n with counter := v },
    ← updateSite_eq (f := fun x => { x with counter := v }) low, contactorCount]
  rcases free with is | is <;> rw [is]

omit low in
theorem siteRestore_of_spent (down : (siteAt s.handler n).status = .contactLife)
    (spent : lifeReached s.start.config (siteAt s.handler n).counter = true) :
    siteRestore n s = (s, .refused .lifeSpent) := if_pos (by simp [down, spent])

theorem siteRestore_of_good (good : (siteAt s.handler n).status ≠ .contactLife ∨
    ¬lifeReached s.start.config (siteAt s.handler n).counter = true) :
    siteRestore n s = (putSite n { siteAt s.handler n with status := .up } s, .done []) := by
  refine (if_neg fun both => ?_).trans (by rw [updateSite_eq low])
  simp only [Bool.and_eq_true, decide_eq_true_eq] at both
  exact good.elim (· both.1) (· both.2)

omit low in
theorem siteDownFrame_of_other {m : Nat} {r : SiteStatus} (other : s.isActive = false ∨ s.handler.rel ≠ .bound ∨
    s.handler.cell ≠ m ∨ s.start.config.siteCount < n ∨ (siteAt s.handler n).status ≠ .up) :
    siteDownFrame m n r s = s := by
  refine if_neg ?_
  rintro ⟨active, bound, mine, ok, up⟩
  rcases other with is | is | is | is | is
  · exact absurd active (by simp [is])
  · exact is bound
  · exact is mine
  · exact absurd (siteOk_iff.1 ok).2 (Nat.not_le.2 is)
  · exact is up

theorem siteDownFrame_of_up {m : Nat} {r : SiteStatus} (active : s.isActive = true) (bound : s.handler.rel = .bound)
    (mine : s.handler.cell = m) (inside : n ≤ s.start.config.siteCount) (up : (siteAt s.handler n).status = .up) :
    siteDownFrame m n r s = raise (.siteDown n r) (putSite n { siteAt s.handler n with status := r } s) :=
  (if_pos ⟨active, bound, mine, siteOk_iff.2 ⟨low, inside⟩, up⟩).trans (takeDown_eq low r)

end

/-- Settles O55. -/
theorem sitesAndCounters : Obligations.SitesAndCounters := by
  intro s running kept role live sizes few put
  have length : s.handler.sites.length = 8 := sizes.2.2.1
  have takes {c : PortCommand} (mine : codeGroup (commandCode c) = .role .handler) (ok : commandOk s c = true)
      (may : availability c = .live) : PortTakes c s := by
    refine ⟨running, kept, ?_, ok, ?_⟩
    · rw [codeOk, mine]
      exact beq_iff_eq.2 role
    · rw [may]
      exact live
  have downs {h : Header} {n : Nat} {r : SiteStatus} {t : State} (arrives : Arrives h (.siteDown n r) s)
      (is : siteDownFrame h.source n r (heard h s) = t) : exec (.siteDown h n r) s = .next (settle s t) :=
    exec_role (p := .siteDown n r) rfl arrives rfl ((if_neg (by simp [live])).trans is)
  refine ⟨fun n low inside => ?_, fun m taken => ?_, fun h n r arrives other => ?_, fun k high => ?_⟩
  · have high : n ≤ 8 := inside.trans few
    have here : n ≤ s.handler.sites.length := length ▸ high
    intro x worn
    have one : PortTakes (.unitIndexed (BitVec.twoPow 8 (n - 1))) s := takes rfl
      (List.all_eq_true.2 fun k _ => by
        rw [Bool.or_eq_true, Bool.not_eq_true', ← Bool.not_eq_true, maskHas_twoPow low high, siteOk_iff]
        exact (em (k = n)).symm.imp_right fun (same : k = n) => same ▸ ⟨low, inside⟩) rfl
    have indexes {a : Answer} {v : State} (is : unitIndexed (BitVec.twoPow 8 (n - 1)) s = (v, a)) :
        exec (.unitIndexed (BitVec.twoPow 8 (n - 1))) s = .next (settle s (setOutcome a 0x62 v)) :=
      exec_takes (c := .unitIndexed _) rfl one is
    have site : siteOk s n = true := siteOk_iff.2 ⟨low, inside⟩
    refine ⟨fun up fresh => ?_, fun up spent => ?_, fun down => ?_, fun v small => ?_, ?_, fun down spent => ?_,
      fun good => ?_, fun h r arrives active bound mine => ⟨fun up => ?_, fun down => ?_⟩⟩
    · refine indexes ((unitIndexed_one low high inside up).trans ?_)
      have lasts : wearsOut s.start.config (siteAt s.handler n) = false := by
        rw [← Bool.not_eq_true]
        exact mt lifeReached_iff.1 fresh
      rw [insertUnit_of_fresh low here up lasts, inserted, lasts, flagCode_eq, ← up]
      rfl
    · refine indexes ((unitIndexed_one low high inside up).trans ?_)
      have wears : wearsOut s.start.config (siteAt s.handler n) = true := lifeReached_iff.2 spent
      rw [insertUnit_of_worn low here up wears, inserted, wears, flagCode_eq]
      rfl
    · refine indexes ((unitIndexed_none fun k has => ?_).trans (by rw [flagCode_eq]))
      rw [(maskHas_twoPow low high k).1 has]
      exact down
    · have loads {a : Answer} {u : State} (is : contactorCount n v s = (u, a)) :
          exec (.contactorCount n v) s = .next (settle s (setOutcome a 0x65 u)) :=
        exec_takes (c := .contactorCount n v) rfl (takes rfl (by simpa [commandOk, site] using small) rfl) is
      refine ⟨fun free => ⟨fun spent other => loads ?_, fun kept => loads ?_⟩, fun busy => loads (contactorCount_of_busy busy)⟩
      · rw [contactorCount_of_free low free here, if_pos ⟨lifeReached_iff.2 spent, other⟩]
        rfl
      · rw [contactorCount_of_free low free here,
          if_neg fun both => kept.elim (fun fresh => fresh (lifeReached_iff.1 both.1)) both.2]
        rfl
    · exact exec_takes (c := .contactorReplaced n) rfl (takes rfl site rfl) (contactorReplaced_eq low)
    · exact exec_takes (c := .siteRestore n) rfl (takes rfl site rfl)
        (siteRestore_of_spent down (lifeReached_iff.2 spent))
    · exact exec_takes (c := .siteRestore n) rfl (takes rfl site rfl)
        (siteRestore_of_good low (good.imp_right (mt lifeReached_iff.1)))
    · exact downs arrives (siteDownFrame_of_up (s := heard h s) low active bound mine inside up)
    · exact downs arrives (siteDownFrame_of_other (s := heard h s) (.inr (.inr (.inr (.inr down)))))
  · intro counter counted worn indexed
    have indexes {a : Answer} {v : State} (is : unitIndexed m s = (v, a)) :
        exec (.unitIndexed m) s = .next (settle s (setOutcome a 0x62 v)) := exec_takes (c := .unitIndexed m) rfl taken is
    have countedIff (n : Nat) : n ∈ countedSites m s ↔ counted n := by
      rw [mem_countedSites]
      exact ⟨fun ⟨has, low, _, inside, up⟩ => ⟨low, inside, has, up⟩,
        fun ⟨low, inside, has, up⟩ => ⟨has, low, inside.trans few, inside, up⟩⟩
    have wornIff (n : Nat) : n ∈ (countedSites m s).filter (fun n => wearsOut s.start.config (siteAt s.handler n)) ↔ worn n := by
      rw [List.mem_filter, countedIff, wearsOut, lifeReached_iff]
    refine ⟨fun none => ?_, m &&& siteMask s, insertedSites s.start.config s.handler (countedSites m s),
      (countedSites m s).filter fun n => wearsOut s.start.config (siteAt s.handler n), fun n low high => ?_, ?_,
      fun n x low at_ => ?_, ?_, wornIff, ?_⟩
    · subst none
      exact indexes ((unitIndexed_none fun k has => by simp [maskHas] at has).trans (by rw [flagCode_eq]; rfl))
    · rw [← countedIff, mem_countedSites, maskHas_and, Bool.and_eq_true, maskHas_siteMask]
    · exact (length_foldl_set _ _ _).trans length
    · obtain ⟨mem, new⟩ | ⟨out, old⟩ := getElem?_insertedSites low at_
      · refine ⟨fun no => absurd ((countedIff n).1 mem) no, fun _ fresh => ?_, fun spent => ?_⟩
        · have lasts : ¬wearsOut s.start.config (siteAt s.handler n) = true := fun is =>
            fresh ⟨(countedIff n).1 mem, lifeReached_iff.1 is⟩
          rw [new, inserted, if_neg lasts]
        · rw [new, inserted, if_pos (show wearsOut _ _ = true from lifeReached_iff.2 spent.2)]
      · refine ⟨fun _ => old, fun is => absurd ((countedIff n).2 is) out, fun is => absurd ((countedIff n).2 is.1) out⟩
    · exact List.Pairwise.filter _ (List.Pairwise.filter _ (by decide))
    · refine indexes ((unitIndexed_eq m length).trans (by rw [flagCode_eq]))
  · exact exec_unheeded (p := .siteDown n r) rfl arrives rfl fun live =>
      (if_neg (by simp [live])).trans (siteDownFrame_of_other (s := heard h s) (by tauto))
  · exact exec_takes (c := .kitChanged k) rfl (takes rfl (decide_eq_true high) rfl) rfl

end Sys2Proof.Machine
end

section
/-! PROOFS. START ends, and the JAM input (R22, R101, R102, R110). -/
namespace Sys2Proof.Machine

variable {s t u : State} {im : ImageRead}

/-! ## The end of an event out of ACTIVE -/

theorem settle_of_idle (before : State) (idle : s.isActive = false) :
    (settle before s).handler = { s.handler with statusTimer := none, statusOwed := false } ∧
      (settle before s).port = s.port ∧ (settle before s).pins.jamIn = s.pins.jamIn := by
  obtain ⟨r, asked, -, -, -, held⟩ := settleHolds_eq before s
  have off : (settleHolds before s).isActive = false := by rw [held]; exact idle
  rw [settle, settleCell_of_idle before fun on => by simp [off] at on, settleHandler_of_unbound (.inl off), held]
  exact ⟨rfl, rfl, rfl⟩

/-! ## START ends (R22) -/

/-- The state with the image's outcome, settings and limit table taken (R19). -/
def loaded (im : ImageRead) (s : State) : State :=
  ((s.setStart { s.start with image := imageOutcome im, clamped := (configOf im).2, config := (configOf im).1 }).setLimits
    (configOf im).1.limits).setHandler (Handler.reset (configOf im).1.kit)

/-- The state that joins the segment in LEARNING, before the resync test and the JAM input (R27). -/
def joining (s : State) : State :=
  ((s.setStart { s.start with station := .learning, cause := .none, learning := some (s.now + 3 * s.beaconMs) }).setPeers
    { s.peers with beaconTimer := some (s.now + s.start.number * 25) }).setLink
      { s.link with tx := .empty, line := .joining }

theorem enterLearning_eq (s : State) : enterLearning s =
    if (resyncTest (joining s)).pins.jamIn then jamAsserted (resyncTest (joining s)) else resyncTest (joining s) := rfl

section
variable (starts : s.start.station = .start)
include starts

theorem endStart_of_start : endStart im s =
    if !s.numberValid then enterSilent .badNumber ((loaded im s).setLink { s.link with line := .joining })
    else if imageOutcome im = .badCrc then enterSilent .imageBad ((loaded im s).setLink { s.link with line := .joining })
    else enterLearning (loaded im s) := if_neg (not_not.2 starts)

theorem endStart_of_bad (bad : s.numberValid = false ∨ imageOutcome im = .badCrc) : endStart im s =
    enterSilent (if s.numberValid = false then .badNumber else .imageBad)
      ((loaded im s).setLink { s.link with line := .joining }) := by
  rw [endStart_of_start starts]
  cases valid : s.numberValid with
  | false => rfl
  | true => exact if_pos (bad.resolve_left (by simp [valid]))

theorem endStart_of_good (good : s.numberValid = true ∧ imageOutcome im ≠ .badCrc) :
    endStart im s = enterLearning (loaded im s) := by
  rw [endStart_of_start starts, good.1]
  exact if_neg good.2

end

theorem exec_startEnd (running : s.pins.inReset = false) : exec (.startEnd im) s = .next (settle s (endStart im s)) :=
  next_event (body := endStart im) running rfl

/-- A HANDLER that ends START in LEARNING takes a JAM input already active for an assertion (R101). -/
theorem endStart_jams (starts : s.start.station = .start) (role : s.start.role = .handler)
    (good : s.numberValid = true ∧ imageOutcome im ≠ .badCrc) (jams : s.pins.jamIn = true)
    (room : s.port.events.length < 32) :
    (endStart im s).isActive = false ∧ (endStart im s).pins.jamIn = true ∧
      (endStart im s).handler = { Handler.reset (configOf im).1.kit with jamLatch := true } ∧
      (endStart im s).port.events = s.port.events ++ [{ event := .jam 0 0, time := s.clock }] := by
  obtain ⟨r, asked, -, -, tested⟩ := resyncTest_eq (joining (loaded im s))
  rw [endStart_of_good starts good, enterLearning_eq, tested]
  generalize (joining (loaded im s)).link.posts asked = l
  have latches : jamAsserted ((setResync r (joining (loaded im s))).setLink l) = _ :=
    jamAsserted_of_jam (s := (setResync r (joining (loaded im s))).setLink l) ⟨role, rfl⟩ rfl rfl room
  rw [if_pos (by exact jams), latches]
  exact ⟨rfl, jams, rfl, rfl⟩

theorem endStart_calm (starts : s.start.station = .start)
    (calm : ¬(s.numberValid = true ∧ imageOutcome im ≠ .badCrc) ∨ s.pins.jamIn = false) :
    (endStart im s).isActive = false ∧ (endStart im s).pins.jamIn = s.pins.jamIn ∧
      (endStart im s).handler = Handler.reset (configOf im).1.kit ∧ (endStart im s).port.events = s.port.events := by
  by_cases good : s.numberValid = true ∧ imageOutcome im ≠ .badCrc
  · obtain ⟨r, asked, -, -, tested⟩ := resyncTest_eq (joining (loaded im s))
    rw [endStart_of_good starts good, enterLearning_eq, tested]
    generalize (joining (loaded im s)).link.posts asked = l
    have level : s.pins.jamIn = false := calm.resolve_left (not_not.2 good)
    have low : ¬s.pins.jamIn = true := by simp [level]
    rw [if_neg (by exact low)]
    exact ⟨rfl, rfl, rfl, rfl⟩
  · rw [endStart_of_bad starts (by simpa [imp_iff_not_or] using good)]
    exact ⟨rfl, rfl, rfl, rfl⟩

/-! ## The input (R101) -/

section
variable (running : s.pins.inReset = false)
include running

theorem assertJam_of_high (high : s.pins.jamIn = true) : assertJam s = s :=
  (if_neg (by simp [running])).trans (if_pos high)

theorem assertJam_of_low (low : s.pins.jamIn = false) :
    assertJam s = settle s (jamAsserted (s.setPins { s.pins with jamIn := true })) :=
  (if_neg (by simp [running])).trans (if_neg (by simp [low]))

end

theorem jamAsserted_of_off (off : s.isLive = false ∨ s.start.role ≠ .handler) : jamAsserted s = s := by
  refine if_neg fun on => ?_
  simp only [Bool.and_eq_true, State.isRole, beq_iff_eq] at on
  exact off.elim (fun dead => by simp [dead] at on) fun other => other on.1

theorem jamAsserted_of_live (role : s.start.role = .handler) (live : s.isLive = true) : jamAsserted s = latchJam s :=
  if_pos (by simp [State.isRole, role, live])

theorem settle_jam (before s : State) : (settle before s).handler.jamLatch = s.handler.jamLatch ∧
    (settle before s).handler.jamCount = s.handler.jamCount := by
  obtain ⟨_, settled, -⟩ := settle_settledBy before s
  rw [settled.handler]
  exact ⟨rfl, rfl⟩

/-- Settles O56. -/
theorem jamsAreLatchedAndReArmed : Obligations.JamsAreLatchedAndReArmed := by
  refine ⟨fun im s running starts role room => ?_, fun s running kept role may => ?_, fun s running off => ?_,
    fun s running kept role live => ?_⟩
  · intro learns fresh jam
    by_cases jams : learns ∧ s.pins.jamIn = true
    · obtain ⟨idle, pin, handler, events⟩ := endStart_jams starts role jams.1 jams.2 room
      obtain ⟨handled, port, level⟩ := settle_of_idle s idle
      refine ⟨_, exec_startEnd running, level.trans (pin.trans jams.2.symm), fun _ _ => ⟨?_, ?_⟩, fun calm => ?_⟩
      · rw [handled, handler]
        rfl
      · rw [port, events]
      · exact absurd jams fun both => calm.elim (fun no => no both.1) fun low => by simp [low] at both
    · have calm : ¬learns ∨ s.pins.jamIn = false := by
        rw [← Bool.not_eq_true]
        exact not_and_or.1 jams
      obtain ⟨idle, pin, handler, events⟩ := endStart_calm starts calm
      obtain ⟨handled, port, level⟩ := settle_of_idle s idle
      refine ⟨_, exec_startEnd running, level.trans pin, fun good high => absurd ⟨good, high⟩ jams, fun _ => ⟨?_, ?_⟩⟩
      · rw [handled, handler]
        rfl
      · rw [port, events]
  · intro fresh
    rw [exec_restart running kept, if_pos (available_restart_iff.2 may)]
    by_cases jams : s.pins.jamIn = true
    · rw [softRestart_of_jam ⟨role, jams⟩]
      obtain ⟨handled, port, level⟩ := settle_of_idle (s := setOutcome .start 0x0B (((restarted s).setHandler
        { Handler.reset s.start.config.kit with jamLatch := true }).setPort
          { Port.reset 0x0B with events := [{ event := .jam 0 0, time := 0 }] })) s rfl
      refine ⟨_, rfl, level, fun _ => ⟨handled, by rw [port]; rfl⟩, fun low => by simp [low] at jams⟩
    · rw [softRestart_of_calm (jams ·.2)]
      obtain ⟨handled, port, level⟩ := settle_of_idle (s := setOutcome .start 0x0B (restarted s)) s rfl
      refine ⟨_, rfl, level, fun high => absurd high jams, fun _ => ⟨handled, by rw [port]; rfl⟩⟩
  · have dead : s.isLive = false ∨ s.start.role ≠ .handler := by
      rcases off with is | is | is
      · exact .inl (by simp [State.isLive, is])
      · exact .inl (by simp [State.isLive, is])
      · exact .inr is
    refine ⟨fun low => ⟨?_, settle_jam _ _⟩, fun high => congrArg Host.Outcome.next (assertJam_of_high running high), rfl⟩
    exact congrArg Host.Outcome.next ((assertJam_of_low running low).trans
      (congrArg (settle s) (jamAsserted_of_off (s := s.setPins { s.pins with jamIn := true }) dead)))
  · have asserts (low : s.pins.jamIn = false) {t : State} (is : latchJam (s.setPins { s.pins with jamIn := true }) = t) :
        exec .jamAssertion s = .next (settle s t) :=
      congrArg Host.Outcome.next ((assertJam_of_low running low).trans (congrArg (settle s)
        ((jamAsserted_of_live (s := s.setPins { s.pins with jamIn := true }) role live).trans is)))
    have arms {a : Answer} {v : State} (is : reArm s = (v, a)) : exec .reArm s = .next (settle s (setOutcome a 0x67 v)) :=
      exec_takes (c := .reArm) rfl ⟨running, kept, beq_iff_eq.2 role, rfl, live⟩ is
    refine ⟨fun low clear => asserts low (if_neg fun latched => ?_), fun low latched => asserts low (if_pos latched),
      fun high => congrArg Host.Outcome.next (assertJam_of_high running high), rfl, fun high => arms (if_pos high),
      fun low => arms (if_neg (by simp [low])), fun d on => exec_expiry (act := statusExpiry) running rfl on rfl⟩
    exact Bool.false_ne_true (clear.symm.trans latched)

end Sys2Proof.Machine
end

section
/-! PROOFS. The image read: range adjustments, the bin-limit pairs and the product slots (R20, R183). -/
namespace Sys2Proof.Machine

/-! ## Range adjustments -/

/-- A number set to the nearer end of its range (R20). -/
def near (lo hi n : Nat) : Nat := max lo (min hi n)

section
variable {lo hi n : Nat} {t : Int} {good retestable : Mask16}

theorem clampNat_fst (le : lo ≤ hi) : (clampNat lo hi n).1 = near lo hi n := by
  unfold clampNat near
  split
  · omega
  · split <;> dsimp only <;> omega

theorem clampNat_snd : (clampNat lo hi n).2 = false ↔ lo ≤ n ∧ n ≤ hi := by
  unfold clampNat
  split
  · exact iff_of_false Bool.noConfusion fun both => by omega
  · split
    · exact iff_of_false Bool.noConfusion fun both => by omega
    · exact iff_of_true rfl (by omega)

theorem clampTemp_fst : (clampTemp t).1 = max (-60) (min 200 t) := by
  unfold clampTemp
  split
  · omega
  · split <;> dsimp only <;> omega

theorem clampTemp_snd : (clampTemp t).2 = false ↔ -60 ≤ t ∧ t ≤ 200 := by
  unfold clampTemp
  split
  · exact iff_of_false Bool.noConfusion fun both => by omega
  · split
    · exact iff_of_false Bool.noConfusion fun both => by omega
    · exact iff_of_true rfl (by omega)

theorem clampSites_snd : (clampSites n).2 = false ↔ n = 1 ∨ n = 2 ∨ n = 4 ∨ n = 8 := by
  rw [clampSites, ← siteCountOk_iff, Bool.not_eq_false']

theorem clampRetestable_snd : (clampRetestable good retestable).2 = false ↔ good &&& retestable = 0#16 := by
  rw [clampRetestable, bne_eq_false_iff_eq]

end

/-! ## The bin-limit pairs -/

/-- The pair in a place is kept: its bin is 2 to 16 and no earlier pair names it. -/
def pairKept (before ps : List (Nat × Nat)) (i : Nat) : Bool :=
  2 ≤ (ps.getD i (0, 0)).1 && (ps.getD i (0, 0)).1 ≤ 16 &&
    (before ++ ps.take i).all fun q => q.1 != (ps.getD i (0, 0)).1

/-- The pair in a place as it is kept. -/
def pairOf (ps : List (Nat × Nat)) (i : Nat) : Nat × Nat := ((ps.getD i (0, 0)).1, near 0 4096 (ps.getD i (0, 0)).2)

/-- The pair in a place is unused, or kept as it is. -/
def PairFits (before ps : List (Nat × Nat)) (i : Nat) : Prop :=
  (ps.getD i (0, 0)).1 = 0 ∨ pairKept before ps i = true ∧ (ps.getD i (0, 0)).2 ≤ 4096

section
variable {before : List (Nat × Nat)} {seen : List Nat} {b l : Nat}

theorem pairKept_succ (p : Nat × Nat) (ps : List (Nat × Nat)) (i : Nat) :
    pairKept before (p :: ps) (i + 1) = pairKept (before ++ [p]) ps i := by
  simp [pairKept]

theorem pairKept_zero (ps : List (Nat × Nat)) : pairKept before ((b, l) :: ps) 0 = true ↔
    2 ≤ b ∧ b ≤ 16 ∧ ∀ q ∈ before, q.1 ≠ b := by
  simp [pairKept, and_assoc]

theorem keptPairs_cons (ps : List (Nat × Nat)) :
    ((List.range (ps.length + 1)).filter (pairKept before ((b, l) :: ps))).map (pairOf ((b, l) :: ps)) =
      (if pairKept before ((b, l) :: ps) 0 then [(b, near 0 4096 l)] else []) ++
        ((List.range ps.length).filter (pairKept (before ++ [(b, l)]) ps)).map (pairOf ps) := by
  have rest : ((List.range ps.length).map Nat.succ).filter (pairKept before ((b, l) :: ps)) =
      ((List.range ps.length).filter (pairKept (before ++ [(b, l)]) ps)).map Nat.succ := by
    rw [List.filter_map]
    exact congrArg _ (List.filter_congr fun i _ => pairKept_succ _ ps i)
  rw [List.range_succ_eq_map, List.filter_cons, rest]
  split
  · rw [List.map_cons, List.map_map]
    rfl
  · rw [List.map_map]
    rfl

theorem pairsFit_cons (ps : List (Nat × Nat)) : (∀ i < ps.length + 1, PairFits before ((b, l) :: ps) i) ↔
    (b = 0 ∨ pairKept before ((b, l) :: ps) 0 = true ∧ l ≤ 4096) ∧ ∀ i < ps.length, PairFits (before ++ [(b, l)]) ps i := by
  rw [Nat.forall_lt_succ_left]
  refine and_congr Iff.rfl (forall₂_congr fun i _ => ?_)
  rw [PairFits, PairFits, pairKept_succ]
  rfl

/-- The pairs kept, and when all stand as they are: `seen` are the bins of the pairs kept before. -/
theorem loadPairs_spec (ps : List (Nat × Nat)) (known : ∀ b, 2 ≤ b → b ≤ 16 → (b ∈ seen ↔ ∃ q ∈ before, q.1 = b)) :
    (loadPairs seen ps).1 = ((List.range ps.length).filter (pairKept before ps)).map (pairOf ps) ∧
      ((loadPairs seen ps).2 = false ↔ ∀ i < ps.length, PairFits before ps i) := by
  induction ps generalizing seen before with
  | nil => simp [loadPairs]
  | cons p ps ih =>
    obtain ⟨b, l⟩ := p
    rw [List.length_cons, keptPairs_cons, pairsFit_cons, loadPairs]
    by_cases unused : b = 0
    · have dropped : ¬pairKept before ((b, l) :: ps) 0 = true := fun kept => by
        have := ((pairKept_zero ps).1 kept).1
        omega
      rw [if_pos unused, if_neg dropped, List.nil_append]
      obtain ⟨kept, fits⟩ := ih (seen := seen) (before := before ++ [(b, l)]) fun c low high => by
        rw [known c low high]
        simp only [List.mem_append, List.mem_singleton, or_and_right, exists_or, exists_eq_left]
        exact (or_iff_left (by omega)).symm
      exact ⟨kept, fits.trans (and_iff_right (.inl unused)).symm⟩
    · rw [if_neg unused]
      by_cases drop : b = 1 ∨ 16 < b ∨ seen.contains b = true
      · have dropped : ¬pairKept before ((b, l) :: ps) 0 = true := fun kept => by
          obtain ⟨low, high, new⟩ := (pairKept_zero ps).1 kept
          rcases drop with is | is | is
          · omega
          · omega
          · obtain ⟨q, mem, same⟩ := (known b low high).1 (List.contains_iff_mem.1 is)
            exact new q mem same
        rw [if_pos drop, if_neg dropped, List.nil_append]
        obtain ⟨kept, fits⟩ := ih (seen := seen) (before := before ++ [(b, l)]) fun c low high => by
          rw [known c low high]
          simp only [List.mem_append, List.mem_singleton, or_and_right, exists_or, exists_eq_left]
          refine (or_iff_left_of_imp fun same => ?_).symm
          subst same
          exact (known b low high).1 (List.contains_iff_mem.1 ((drop.resolve_left (by omega)).resolve_left (by omega)))
        exact ⟨kept, iff_of_false Bool.noConfusion fun both => both.1.elim unused fun is => dropped is.1⟩
      · obtain ⟨one, big, new⟩ := not_or.1 drop |>.imp_right not_or.1
        have keeps : pairKept before ((b, l) :: ps) 0 = true := (pairKept_zero ps).2 ⟨by omega, by omega, fun q mem same =>
          new (List.contains_iff_mem.2 ((known b (by omega) (by omega)).2 ⟨q, mem, same⟩))⟩
        rw [if_neg drop, if_pos keeps]
        obtain ⟨kept, fits⟩ := ih (seen := b :: seen) (before := before ++ [(b, l)]) fun c low high => by
          rw [List.mem_cons, known c low high]
          simp only [List.mem_append, List.mem_singleton, or_and_right, exists_or, exists_eq_left]
          rw [or_comm, eq_comm]
        dsimp only
        refine ⟨?_, ?_⟩
        · rw [kept, clampNat_fst (Nat.zero_le _)]
          rfl
        · rw [Bool.or_eq_false_iff, fits, clampNat_snd]
          simp [unused, keeps]

end

/-! ## The product slots -/

section
variable {w : Nat → Nat} {d : LimitEntry}

/-- The product in a slot of G5. -/
def slotProduct (w : Nat → Nat) (i : Nat) : Nat := w (47 + 6 * i)

/-- No earlier slot names the product. -/
def slotNew (w : Nat → Nat) (i : Nat) : Bool := (List.range i).all fun j => slotProduct w j != slotProduct w i

/-- The products the first slots hold. -/
def slotsUsed (w : Nat → Nat) (d : LimitEntry) (n : Nat) : List (Nat × LimitEntry) :=
  ((List.range n).filter fun i => slotProduct w i != 0 && slotNew w i).map fun i =>
    (slotProduct w i, (readProductEntry w d (47 + 6 * i)).1)

theorem slotNew_iff {i : Nat} : slotNew w i = true ↔ ∀ j < i, slotProduct w j ≠ slotProduct w i := by
  simp [slotNew]

theorem slotsUsed_succ (n : Nat) : slotsUsed w d (n + 1) = slotsUsed w d n ++
    if slotProduct w n ≠ 0 ∧ slotNew w n = true then [(slotProduct w n, (readProductEntry w d (47 + 6 * n)).1)] else [] := by
  rw [slotsUsed, List.range_succ, List.filter_append, List.map_append, slotsUsed]
  refine congrArg _ ?_
  rw [List.filter_singleton, Bool.cond_eq_ite]
  by_cases used : slotProduct w n ≠ 0 ∧ slotNew w n = true
  · rw [if_pos used, if_pos (by simpa using used)]
    rfl
  · rw [if_neg used, if_neg (by simpa [-not_and] using used)]
    rfl

theorem any_slotsUsed {p : Nat} (some_ : p ≠ 0) (n : Nat) :
    ((slotsUsed w d n).any fun x => x.1 == p) = true ↔ ∃ j < n, slotProduct w j = p := by
  induction n with
  | zero => simp [slotsUsed]
  | succ n ih =>
    rw [slotsUsed_succ, List.any_append, Bool.or_eq_true, ih, Nat.exists_lt_succ_right]
    by_cases before : ∃ j < n, slotProduct w j = p
    · simp [before]
    · refine or_congr_right ?_
      have new (same : slotProduct w n = p) : slotNew w n = true :=
        slotNew_iff.2 fun j lt is => before ⟨j, lt, is.trans same⟩
      split
      · simp
      · next unused => exact iff_of_false (by simp) fun same => unused ⟨same ▸ some_, new same⟩

theorem loadSlot_eq (acc : List (Nat × LimitEntry) × Bool) (i : Nat) : loadSlot w d acc i =
    if slotProduct w i = 0 then acc
    else if (acc.1.any fun x => x.1 == slotProduct w i) then (acc.1, true)
    else (acc.1 ++ [(slotProduct w i, (readProductEntry w d (47 + 6 * i)).1)],
      acc.2 || (readProductEntry w d (47 + 6 * i)).2) := rfl

theorem foldl_loadSlot (n : Nat) : ((List.range n).foldl (loadSlot w d) ([], false)).1 = slotsUsed w d n ∧
    (((List.range n).foldl (loadSlot w d) ([], false)).2 = false ↔
      ∀ i < n, slotProduct w i = 0 ∨ slotNew w i = true ∧ (readProductEntry w d (47 + 6 * i)).2 = false) := by
  induction n with
  | zero => exact ⟨rfl, iff_of_true rfl fun i lt => absurd lt (Nat.not_lt_zero i)⟩
  | succ n ih =>
    obtain ⟨kept, fits⟩ := ih
    rw [List.range_succ, List.foldl_append, List.foldl_cons, List.foldl_nil, Nat.forall_lt_succ_right, ← fits, slotsUsed_succ,
      ← kept]
    generalize before : (List.range n).foldl (loadSlot w d) ([], false) = acc at *
    rw [loadSlot_eq]
    by_cases unused : slotProduct w n = 0
    · rw [if_pos unused, if_neg (not_and_of_not_left _ (not_not.2 unused)), List.append_nil]
      exact ⟨rfl, by simp [unused]⟩
    · have named : (acc.1.any fun x => x.1 == slotProduct w n) = true ↔ ¬slotNew w n = true := by
        rw [kept, any_slotsUsed unused, slotNew_iff]
        simp
      rw [if_neg unused]
      by_cases new : slotNew w n = true
      · rw [if_neg (by exact fun is => named.1 is new), if_pos ⟨unused, new⟩]
        refine ⟨rfl, ?_⟩
        rw [Bool.or_eq_false_iff]
        simp [unused, new]
      · rw [if_pos (by exact named.2 new), if_neg (not_and_of_not_right _ new), List.append_nil]
        exact ⟨rfl, by simp [unused, new]⟩

end

end Sys2Proof.Machine
end

section
/-! PROOFS. The settings an image loads, and the end of START (R19, R20, R22, R183). -/
namespace Sys2Proof.Machine

variable {w : Nat → Nat} {c : Settings × Bool}

/-- The load-control word says that the group is loaded (R20). -/
abbrev GroupOn (w : Nat → Nat) (g : Nat) : Prop := w 1 / 4 ^ (g - 1) % 4 = 1

section
variable {g : Nat} {load : (Nat → Nat) → Settings → Settings × Bool}

theorem loadGroup_of_on (on : GroupOn w g) : loadGroup w g load c = ((load w c.1).1, c.2 || (load w c.1).2) :=
  if_pos (beq_iff_eq.2 on)

theorem loadGroup_of_off (off : ¬GroupOn w g) : loadGroup w g load c = c :=
  if_neg (mt beq_iff_eq.1 off)

/-- A group leaves CONFIG_CLAMPED clear when it was clear and the group is off or in its ranges. -/
theorem loadGroup_snd {fits : Prop} (is : (load w c.1).2 = false ↔ fits) :
    (loadGroup w g load c).2 = false ↔ c.2 = false ∧ (GroupOn w g → fits) := by
  by_cases on : GroupOn w g
  · rw [loadGroup_of_on on, Bool.or_eq_false_iff, is]
    exact and_congr_right' ⟨fun fit _ => fit, fun fit => fit on⟩
  · rw [loadGroup_of_off on]
    exact (and_iff_left fun is => absurd is on).symm

end

/-- A setting of a group: the word at the nearer end of its range, or the default (R20). -/
def setting (w : Nat → Nat) (g lo hi i default : Nat) : Nat := if GroupOn w g then near lo hi (w i) else default

/-- A word lies in its range. -/
abbrev Fits (w : Nat → Nat) (lo hi i : Nat) : Prop := lo ≤ w i ∧ w i ≤ hi

/-- The bin-limit pairs of the default entry. -/
def defaultPairs (w : Nat → Nat) : List (Nat × Nat) :=
  [(w 41 / 256, w 43), (w 41 % 256, w 44), (w 42 / 256, w 45), (w 42 % 256, w 46)]

/-- The default entry G4 loads. -/
def defaultEntry (w : Nat → Nat) : LimitEntry :=
  { lya := near 0 4096 (w 32 % 8192), lyf := near 0 4096 (w 33), nMin := near 1 65535 (w 34), nSite := near 1 65535 (w 35),
    sdl := near 0 4096 (w 36), cf := near 0 255 (w 37), good := BitVec.ofNat 16 (w 39),
    retestable := BitVec.ofNat 16 (w 40) &&& ~~~BitVec.ofNat 16 (w 39), passes := w 32 / 16384,
    binLimits := ((List.range 4).filter (pairKept [] (defaultPairs w))).map (pairOf (defaultPairs w)),
    jamLimit := near 0 255 (w 38) }

theorem readDefaultEntry_fst : (readDefaultEntry w).1 = defaultEntry w := by
  simp only [readDefaultEntry, clampNat_fst, Nat.zero_le, Nat.one_le_ofNat, yieldWord]
  rw [(loadPairs_spec (seen := []) (before := []) _ (by simp)).1]
  rfl

theorem readDefaultEntry_snd : (readDefaultEntry w).2 = false ↔
    w 32 % 8192 ≤ 4096 ∧ Fits w 0 4096 33 ∧ Fits w 1 65535 34 ∧ Fits w 1 65535 35 ∧ Fits w 0 4096 36 ∧ Fits w 0 255 37 ∧
      Fits w 0 255 38 ∧ BitVec.ofNat 16 (w 39) &&& BitVec.ofNat 16 (w 40) = 0#16 ∧
      ∀ i < 4, PairFits [] (defaultPairs w) i := by
  simp only [readDefaultEntry, Bool.or_eq_false_iff, clampNat_snd, clampRetestable_snd, yieldWord]
  rw [(loadPairs_spec (seen := []) (before := []) _ (by simp)).2]
  simp only [Nat.zero_le, true_and, and_assoc]
  rfl

/-- The product entry a slot of G5 loads, completed from the default entry (R183). -/
def productOf (w : Nat → Nat) (d : LimitEntry) (i : Nat) : LimitEntry :=
  { d with lya := near 0 4096 (w (48 + 6 * i) % 8192), lyf := near 0 4096 (w (49 + 6 * i)),
           nMin := near 1 65535 (w (50 + 6 * i)), good := BitVec.ofNat 16 (w (51 + 6 * i)),
           retestable := BitVec.ofNat 16 (w (51 + 6 * i + 1)) &&& ~~~BitVec.ofNat 16 (w (51 + 6 * i)),
           passes := w (48 + 6 * i) / 16384 }

section
variable {d : LimitEntry} {i : Nat}

theorem slot_words (i : Nat) : 47 + 6 * i + 1 = 48 + 6 * i ∧ 47 + 6 * i + 2 = 49 + 6 * i ∧ 47 + 6 * i + 3 = 50 + 6 * i ∧
    47 + 6 * i + 4 = 51 + 6 * i ∧ 47 + 6 * i + 5 = 51 + 6 * i + 1 := by omega

theorem readProductEntry_fst : (readProductEntry w d (47 + 6 * i)).1 = productOf w d i := by
  obtain ⟨one, two, three, four, five⟩ := slot_words i
  simp only [readProductEntry, clampNat_fst, Nat.zero_le, Nat.one_le_ofNat, yieldWord, one, two, three, four, five]
  rfl

theorem readProductEntry_snd : (readProductEntry w d (47 + 6 * i)).2 = false ↔
    w (48 + 6 * i) % 8192 ≤ 4096 ∧ Fits w 0 4096 (49 + 6 * i) ∧ Fits w 1 65535 (50 + 6 * i) ∧
      BitVec.ofNat 16 (w (51 + 6 * i)) &&& BitVec.ofNat 16 (w (51 + 6 * i + 1)) = 0#16 := by
  obtain ⟨one, two, three, four, five⟩ := slot_words i
  simp only [readProductEntry, Bool.or_eq_false_iff, clampNat_snd, clampRetestable_snd, yieldWord, one, two, three, four,
    five, Nat.zero_le, true_and, and_assoc]

end

theorem pairFits_iff {ps : List (Nat × Nat)} {i : Nat} : PairFits [] ps i ↔ (ps.getD i (0, 0)).1 = 0 ∨
    2 ≤ (ps.getD i (0, 0)).1 ∧ (ps.getD i (0, 0)).1 ≤ 16 ∧
      ((ps.take i).all fun q => q.1 != (ps.getD i (0, 0)).1) = true ∧ (ps.getD i (0, 0)).2 ≤ 4096 := by
  simp only [PairFits, pairKept, Bool.and_eq_true, decide_eq_true_eq, List.nil_append, and_assoc]

/-! ## The groups -/

/-- The settings an image whose outcome is LOADED gives (R20). -/
def settingsOf (w : Nat → Nat) : Settings :=
  let lo : Int := if GroupOn w 3 then max (-60) (min 200 (signed (w 11))) else 15
  let d : LimitEntry := if GroupOn w 4 then defaultEntry w else LimitEntry.builtIn
  { beaconInterval := setting w 1 1 8 2 2, contestWindow := setting w 1 50 1000 3 200,
    acceptTimeout := setting w 1 100 2000 4 500, reservation := setting w 1 1 120 5 30,
    bindTimeout := setting w 1 200 5000 6 1000, orphanTimeout := setting w 1 1 60 7 10,
    zoneMask := if GroupOn w 2 then BitVec.ofNat 16 (w 8) else 0xFFFF, offerZone := setting w 2 0 15 9 0,
    kit := setting w 3 0 255 10 0, tempMin := lo,
    tempMax := if GroupOn w 3 then max lo (max (-60) (min 200 (signed (w 12)))) else 35,
    siteCount := if GroupOn w 3 then
      (if 8 ≤ w 13 then 8 else if 4 ≤ w 13 then 4 else if 2 ≤ w 13 then 2 else 1) else 4,
    contactorField := if GroupOn w 3 then w 14 else 0,
    granularity := if GroupOn w 3 then (w 15).testBit 0 else false,
    coldSoak := setting w 3 0 3600 16 300, ambientSoak := setting w 3 0 3600 17 0, hotSoak := setting w 3 0 3600 18 180,
    recoverySoak := setting w 3 0 600 19 30, excursionGrace := setting w 3 0 120 20 10,
    kitChangeAllowed := if GroupOn w 6 then (w 21).testBit 0 else false, idleThreshold := setting w 6 0 3600 22 60,
    programs := if GroupOn w 6 then ((List.range 8).map fun i => w (23 + i)).filter (· != 0) else [],
    countTolerance := setting w 7 0 255 31 2,
    limits := { default := d, products := if GroupOn w 5 then
      ((List.range 8).filter fun i => slotProduct w i != 0 && slotNew w i).map fun i => (slotProduct w i, productOf w d i)
      else [] } }

theorem loadG1_fst : (loadGroup w 1 loadG1 c).1 = { c.1 with
    beaconInterval := setting w 1 1 8 2 c.1.beaconInterval, contestWindow := setting w 1 50 1000 3 c.1.contestWindow,
    acceptTimeout := setting w 1 100 2000 4 c.1.acceptTimeout, reservation := setting w 1 1 120 5 c.1.reservation,
    bindTimeout := setting w 1 200 5000 6 c.1.bindTimeout, orphanTimeout := setting w 1 1 60 7 c.1.orphanTimeout } := by
  by_cases on : GroupOn w 1
  · rw [loadGroup_of_on on]
    simp only [loadG1, clampNat_fst, Nat.one_le_ofNat, Nat.reduceLeDiff, setting, if_pos on]
  · rw [loadGroup_of_off on]
    simp only [setting, if_neg on]

theorem loadG1_snd : (loadGroup w 1 loadG1 c).2 = false ↔ c.2 = false ∧ (GroupOn w 1 →
    Fits w 1 8 2 ∧ Fits w 50 1000 3 ∧ Fits w 100 2000 4 ∧ Fits w 1 120 5 ∧ Fits w 200 5000 6 ∧ Fits w 1 60 7) :=
  loadGroup_snd (by simp only [loadG1, Bool.or_eq_false_iff, clampNat_snd, and_assoc])

theorem loadG2_fst : (loadGroup w 2 loadG2 c).1 = { c.1 with
    zoneMask := if GroupOn w 2 then BitVec.ofNat 16 (w 8) else c.1.zoneMask,
    offerZone := setting w 2 0 15 9 c.1.offerZone } := by
  by_cases on : GroupOn w 2
  · rw [loadGroup_of_on on]
    simp only [loadG2, clampNat_fst, Nat.zero_le, setting, if_pos on]
  · rw [loadGroup_of_off on]
    simp only [setting, if_neg on]

theorem loadG2_snd : (loadGroup w 2 loadG2 c).2 = false ↔ c.2 = false ∧ (GroupOn w 2 → Fits w 0 15 9) :=
  loadGroup_snd (by simp only [loadG2, clampNat_snd])

theorem loadG3_fst : (loadGroup w 3 loadG3 c).1 = { c.1 with
    kit := setting w 3 0 255 10 c.1.kit,
    tempMin := if GroupOn w 3 then max (-60) (min 200 (signed (w 11))) else c.1.tempMin,
    tempMax := if GroupOn w 3 then max (max (-60) (min 200 (signed (w 11)))) (max (-60) (min 200 (signed (w 12))))
      else c.1.tempMax,
    siteCount := if GroupOn w 3 then
      (if 8 ≤ w 13 then 8 else if 4 ≤ w 13 then 4 else if 2 ≤ w 13 then 2 else 1) else c.1.siteCount,
    contactorField := if GroupOn w 3 then w 14 else c.1.contactorField,
    granularity := if GroupOn w 3 then (w 15).testBit 0 else c.1.granularity,
    coldSoak := setting w 3 0 3600 16 c.1.coldSoak, ambientSoak := setting w 3 0 3600 17 c.1.ambientSoak,
    hotSoak := setting w 3 0 3600 18 c.1.hotSoak, recoverySoak := setting w 3 0 600 19 c.1.recoverySoak,
    excursionGrace := setting w 3 0 120 20 c.1.excursionGrace } := by
  by_cases on : GroupOn w 3
  · have top (a b : Int) : (if b < a then a else b) = max a b := by
      split <;> omega
    rw [loadGroup_of_on on]
    simp only [loadG3, clampNat_fst, clampTemp_fst, Nat.zero_le, setting, if_pos on, top]
    rfl
  · rw [loadGroup_of_off on]
    simp only [setting, if_neg on]

theorem loadG3_snd : (loadGroup w 3 loadG3 c).2 = false ↔ c.2 = false ∧ (GroupOn w 3 →
    Fits w 0 255 10 ∧ (-60 ≤ signed (w 11) ∧ signed (w 11) ≤ 200) ∧ (-60 ≤ signed (w 12) ∧ signed (w 12) ≤ 200) ∧
      signed (w 11) ≤ signed (w 12) ∧ (w 13 = 1 ∨ w 13 = 2 ∨ w 13 = 4 ∨ w 13 = 8) ∧ Fits w 0 3600 16 ∧
      Fits w 0 3600 17 ∧ Fits w 0 3600 18 ∧ Fits w 0 600 19 ∧ Fits w 0 120 20) := by
  refine loadGroup_snd ?_
  simp only [loadG3, Bool.or_eq_false_iff, clampNat_snd, clampTemp_snd, clampSites_snd, clampTemp_fst, decide_eq_false_iff_not,
    and_assoc]
  refine and_congr_right fun _ => and_congr_right fun _ => and_congr_right fun _ => and_congr_right fun _ =>
    and_congr_right fun _ => and_congr_right fun _ => and_congr ?_ Iff.rfl
  omega

theorem loadG6_fst : (loadGroup w 6 loadG6 c).1 = { c.1 with
    kitChangeAllowed := if GroupOn w 6 then (w 21).testBit 0 else c.1.kitChangeAllowed,
    idleThreshold := setting w 6 0 3600 22 c.1.idleThreshold,
    programs := if GroupOn w 6 then ((List.range 8).map fun i => w (23 + i)).filter (· != 0) else c.1.programs } := by
  by_cases on : GroupOn w 6
  · rw [loadGroup_of_on on]
    simp only [loadG6, clampNat_fst, Nat.zero_le, setting, if_pos on]
    rfl
  · rw [loadGroup_of_off on]
    simp only [setting, if_neg on]

theorem loadG6_snd : (loadGroup w 6 loadG6 c).2 = false ↔ c.2 = false ∧ (GroupOn w 6 → Fits w 0 3600 22) :=
  loadGroup_snd (by simp only [loadG6, clampNat_snd])

theorem loadG7_fst : (loadGroup w 7 loadG7 c).1 = { c.1 with countTolerance := setting w 7 0 255 31 c.1.countTolerance } := by
  by_cases on : GroupOn w 7
  · rw [loadGroup_of_on on]
    simp only [loadG7, clampNat_fst, Nat.zero_le, setting, if_pos on]
  · rw [loadGroup_of_off on]
    simp only [setting, if_neg on]

theorem loadG7_snd : (loadGroup w 7 loadG7 c).2 = false ↔ c.2 = false ∧ (GroupOn w 7 → Fits w 0 255 31) :=
  loadGroup_snd (by simp only [loadG7, clampNat_snd])

theorem loadG4_fst : (loadGroup w 4 loadG4 c).1 = { c.1 with limits := { c.1.limits with
    default := if GroupOn w 4 then defaultEntry w else c.1.limits.default } } := by
  by_cases on : GroupOn w 4
  · rw [loadGroup_of_on on, if_pos on, ← readDefaultEntry_fst]
    rfl
  · rw [loadGroup_of_off on, if_neg on]

theorem loadG4_snd : (loadGroup w 4 loadG4 c).2 = false ↔ c.2 = false ∧ (GroupOn w 4 →
    w 32 % 8192 ≤ 4096 ∧ Fits w 0 4096 33 ∧ Fits w 1 65535 34 ∧ Fits w 1 65535 35 ∧ Fits w 0 4096 36 ∧ Fits w 0 255 37 ∧
      Fits w 0 255 38 ∧ BitVec.ofNat 16 (w 39) &&& BitVec.ofNat 16 (w 40) = 0#16 ∧
      ∀ i < 4, PairFits [] (defaultPairs w) i) :=
  loadGroup_snd readDefaultEntry_snd

theorem loadG5_fst : (loadGroup w 5 loadG5 c).1 = { c.1 with limits := { c.1.limits with
    products := if GroupOn w 5 then
        ((List.range 8).filter fun i => slotProduct w i != 0 && slotNew w i).map fun i =>
          (slotProduct w i, productOf w c.1.limits.default i)
      else c.1.limits.products } } := by
  by_cases on : GroupOn w 5
  · rw [loadGroup_of_on on, if_pos on]
    simp only [← readProductEntry_fst]
    have slots := (foldl_loadSlot (w := w) (d := c.1.limits.default) 8).1
    rw [slotsUsed] at slots
    rw [← slots]
    rfl
  · rw [loadGroup_of_off on, if_neg on]

theorem loadG5_snd : (loadGroup w 5 loadG5 c).2 = false ↔ c.2 = false ∧ (GroupOn w 5 →
    ∀ i < 8, slotProduct w i = 0 ∨ slotNew w i = true ∧ w (48 + 6 * i) % 8192 ≤ 4096 ∧ Fits w 0 4096 (49 + 6 * i) ∧
      Fits w 1 65535 (50 + 6 * i) ∧ BitVec.ofNat 16 (w (51 + 6 * i)) &&& BitVec.ofNat 16 (w (51 + 6 * i + 1)) = 0#16) := by
  refine loadGroup_snd ?_
  simp only [← readProductEntry_snd (d := c.1.limits.default)]
  exact (foldl_loadSlot 8).2

theorem loadImage_fst : (loadImage w).1 = settingsOf w := by
  rw [loadImage, loadG5_fst, loadG4_fst, loadG7_fst, loadG6_fst, loadG3_fst, loadG2_fst, loadG1_fst, settingsOf]
  by_cases on : GroupOn w 3
  · simp only [if_pos on]
    rfl
  · simp only [if_neg on]
    rfl

theorem loadImage_snd : (loadImage w).2 = false ↔
    (GroupOn w 1 →
      Fits w 1 8 2 ∧ Fits w 50 1000 3 ∧ Fits w 100 2000 4 ∧ Fits w 1 120 5 ∧ Fits w 200 5000 6 ∧ Fits w 1 60 7) ∧
    (GroupOn w 2 → Fits w 0 15 9) ∧
    (GroupOn w 3 →
      Fits w 0 255 10 ∧ (-60 ≤ signed (w 11) ∧ signed (w 11) ≤ 200) ∧ (-60 ≤ signed (w 12) ∧ signed (w 12) ≤ 200) ∧
        signed (w 11) ≤ signed (w 12) ∧ (w 13 = 1 ∨ w 13 = 2 ∨ w 13 = 4 ∨ w 13 = 8) ∧ Fits w 0 3600 16 ∧
        Fits w 0 3600 17 ∧ Fits w 0 3600 18 ∧ Fits w 0 600 19 ∧ Fits w 0 120 20) ∧
    (GroupOn w 6 → Fits w 0 3600 22) ∧ (GroupOn w 7 → Fits w 0 255 31) ∧
    (GroupOn w 4 →
      w 32 % 8192 ≤ 4096 ∧ Fits w 0 4096 33 ∧ Fits w 1 65535 34 ∧ Fits w 1 65535 35 ∧ Fits w 0 4096 36 ∧
        Fits w 0 255 37 ∧ Fits w 0 255 38 ∧ BitVec.ofNat 16 (w 39) &&& BitVec.ofNat 16 (w 40) = 0#16 ∧
        ∀ i < 4, PairFits [] (defaultPairs w) i) ∧
    (GroupOn w 5 →
      ∀ i < 8, slotProduct w i = 0 ∨ slotNew w i = true ∧ w (48 + 6 * i) % 8192 ≤ 4096 ∧ Fits w 0 4096 (49 + 6 * i) ∧
        Fits w 1 65535 (50 + 6 * i) ∧ BitVec.ofNat 16 (w (51 + 6 * i)) &&& BitVec.ofNat 16 (w (51 + 6 * i + 1)) = 0#16) := by
  rw [loadImage, loadG5_snd, loadG4_snd, loadG7_snd, loadG6_snd, loadG3_snd, loadG2_snd, loadG1_snd]
  simp only [true_and, and_assoc]

/-! ## The image (R19) -/

variable {im : ImageRead} {s t : State}

theorem imageWord_eq (im : ImageRead) :
    imageWord im = fun i => 256 * (im.data.getD (2 * i) 0xFF#8).toNat + (im.data.getD (2 * i + 1) 0xFF#8).toNat :=
  funext fun i => by
    change (0 * 256 + (imageByte im (2 * i)).toNat) * 256 + (imageByte im (2 * i + 1)).toNat = _
    rw [Nat.zero_mul, Nat.zero_add, Nat.mul_comm]
    rfl

theorem imageOutcome_eq (im : ImageRead) : imageOutcome im =
    if im.ackWrite = false ∨ im.ackByte = false ∨ im.ackRead = false then .absent
    else if imageWord im 0 ≠ 0x4A16 then .noSignature
    else if (crc16 (imageBody im)).toNat ≠ imageWord im 95 then .badCrc else .loaded := by
  rw [imageOutcome]
  refine if_congr ?_ rfl rfl
  simp [or_assoc]

theorem configOf_of_loaded (is : imageOutcome im = .loaded) : configOf im = loadImage (imageWord im) := if_pos is

/-! ## The end of START (R22) -/

theorem jamAsserted_kept (s : State) : (jamAsserted s).limits = s.limits ∧ (jamAsserted s).handler.kit = s.handler.kit ∧
    (jamAsserted s).peers = s.peers ∧ (jamAsserted s).link = s.link := by
  unfold jamAsserted latchJam
  split
  · split
    · exact ⟨rfl, rfl, rfl, rfl⟩
    · exact ⟨raise_limits _ _, by rw [raise_handler]; rfl, raise_peers _ _, raise_link _ _⟩
  · exact ⟨rfl, rfl, rfl, rfl⟩

theorem posts_of_off {l : Link} (off : l.tx = .off) (fs : List QFrame) : l.posts fs = l := by
  induction fs with
  | nil => rfl
  | cons f fs ih =>
    have same : l.post f = l := if_pos off
    rw [Link.posts, List.foldl_cons, same]
    exact ih

theorem posts_line (l : Link) (fs : List QFrame) : (l.posts fs).line = l.line := by
  obtain ⟨more, -, grown, -⟩ := grows_posts l fs
  rw [grown.eq]

theorem enterLearning_kept (s : State) : (enterLearning s).limits = s.limits ∧
    (enterLearning s).handler.kit = s.handler.kit ∧
    (enterLearning s).peers = { s.peers with beaconTimer := some (s.now + s.start.number * 25) } ∧
    (enterLearning s).link.line = .joining := by
  obtain ⟨r, asked, -, -, tested⟩ := resyncTest_eq (joining s)
  have tests : (resyncTest (joining s)).limits = s.limits ∧ (resyncTest (joining s)).handler.kit = s.handler.kit ∧
      (resyncTest (joining s)).peers = { s.peers with beaconTimer := some (s.now + s.start.number * 25) } ∧
      (resyncTest (joining s)).link.line = .joining := by
    rw [tested]
    exact ⟨rfl, rfl, rfl, posts_line _ _⟩
  rw [enterLearning_eq]
  split
  · obtain ⟨limits, kit, peers, link⟩ := jamAsserted_kept (resyncTest (joining s))
    rw [limits, kit, peers, link]
    exact tests
  · exact tests

theorem settle_line (before s : State) : (settle before s).link.line = s.link.line := by
  obtain ⟨more, l, is, -⟩ := settle_link before s
  rw [is]

theorem settle_kit (before s : State) : (settle before s).handler.kit = s.handler.kit := by
  obtain ⟨_, settled, -⟩ := settle_settledBy before s
  rw [settled.handler]

/-- What the end of START leaves in LEARNING. -/
theorem settle_endStart_of_good (starts : s.start.station = .start) (good : s.numberValid = true ∧ imageOutcome im ≠ .badCrc) :
    (settle s (endStart im s)).limits = (configOf im).1.limits ∧
    (settle s (endStart im s)).handler.kit = (configOf im).1.kit ∧
    (settle s (endStart im s)).start = { s.start with
      image := imageOutcome im, config := (configOf im).1, clamped := (configOf im).2, station := .learning,
      cause := .none, learning := some (s.now + 3 * ((configOf im).1.beaconInterval * 1000)) } ∧
    (settle s (endStart im s)).peers = { s.peers with beaconTimer := some (s.now + s.start.number * 25) } ∧
    (settle s (endStart im s)).link.line = .joining := by
  obtain ⟨limits, kit, peers, line⟩ := enterLearning_kept (loaded im s)
  rw [settle_limits, settle_kit, settle_start, settle_peers, settle_line, endStart_of_good starts good, limits, kit, peers,
    line, enterLearning_start]
  exact ⟨rfl, rfl, rfl, rfl, rfl⟩

/-- What the end of START leaves in SILENT. -/
theorem settle_endStart_of_bad (starts : s.start.station = .start) (bad : s.numberValid = false ∨ imageOutcome im = .badCrc) :
    (settle s (endStart im s)).limits = (configOf im).1.limits ∧
    (settle s (endStart im s)).handler.kit = (configOf im).1.kit ∧
    (settle s (endStart im s)).start = { s.start with
      image := imageOutcome im, config := (configOf im).1, clamped := (configOf im).2, station := .silent,
      cause := if s.numberValid = false then .badNumber else .imageBad, learning := none } ∧
    (settle s (endStart im s)).peers = { s.peers with beaconTimer := none } ∧
    (settle s (endStart im s)).link.line = .joining ∧
    (settle s (endStart im s)).link.tx = .off ∧ (settle s (endStart im s)).link.queue = [] := by
  obtain ⟨fs, settled, -⟩ := settle_settledBy s (endStart im s)
  rw [endStart_of_bad starts bad] at settled ⊢
  rw [settle_limits, settle_kit, settle_start, settle_peers, settled.link, posts_of_off rfl]
  exact ⟨rfl, rfl, rfl, rfl, rfl, rfl, rfl⟩

theorem configOf_settings (is : imageOutcome im = .loaded) : (configOf im).1 = settingsOf (imageWord im) := by
  rw [configOf_of_loaded is, loadImage_fst]

/-- Settles O26. -/
theorem startEndsByTheImageAndTheNumber : Obligations.StartEndsByTheImageAndTheNumber := by
  intro im s running starts
  refine ⟨_, exec_startEnd running, ?_⟩
  have ends : (settle s (endStart im s)).limits = (configOf im).1.limits ∧
      (settle s (endStart im s)).handler.kit = (configOf im).1.kit ∧
      (settle s (endStart im s)).start = { s.start with
        image := imageOutcome im, config := (configOf im).1, clamped := (configOf im).2,
        station := if s.numberValid = true ∧ imageOutcome im ≠ .badCrc then .learning else .silent,
        cause := if s.numberValid = false then .badNumber
          else if imageOutcome im = .badCrc then .imageBad else .none,
        learning := if s.numberValid = true ∧ imageOutcome im ≠ .badCrc
          then some (s.now + 3 * ((configOf im).1.beaconInterval * 1000)) else none } ∧
      (settle s (endStart im s)).peers = { s.peers with
        beaconTimer := if s.numberValid = true ∧ imageOutcome im ≠ .badCrc
          then some (s.now + s.start.number * 25) else none } ∧
      (settle s (endStart im s)).link.line = .joining ∧
      ((settle s (endStart im s)).start.station = .silent →
        (settle s (endStart im s)).link.tx = .off ∧ (settle s (endStart im s)).link.queue = []) := by
    by_cases good : s.numberValid = true ∧ imageOutcome im ≠ .badCrc
    · obtain ⟨limits, kit, start, peers, line⟩ := settle_endStart_of_good starts good
      simp only [if_pos good]
      refine ⟨limits, kit, ?_, peers, line, fun silent => ?_⟩
      · rw [start, good.1, if_neg (by simp), if_neg good.2]
      · rw [start] at silent
        cases silent
    · have bad : s.numberValid = false ∨ imageOutcome im = .badCrc := by simpa [imp_iff_not_or] using good
      obtain ⟨limits, kit, start, peers, line, off, empty⟩ := settle_endStart_of_bad starts bad
      simp only [if_neg good]
      refine ⟨limits, kit, ?_, peers, line, fun _ => ⟨off, empty⟩⟩
      rw [start]
      rcases bad with is | is <;> simp [is]
  obtain ⟨limits, kit, start, peers, line, silent⟩ := ends
  refine ⟨limits, kit, start, peers, line, silent, ?_⟩
  intro byte w near_ degrees on word pairs pairNew slot slotNew_ unGood c d
  have words : imageWord im = w := imageWord_eq im
  refine ⟨?_, fun other => if_neg other, fun is => ?_⟩
  · rw [imageOutcome_eq, words]
    rfl
  · have settings : c = settingsOf w := by rw [← words, ← configOf_settings is]
    have flag : (configOf im).2 = false ↔ (loadImage w).2 = false := by rw [configOf_of_loaded is, words]
    have entry : d = (settingsOf w).limits.default := congrArg (·.limits.default) settings
    rw [settings, entry, flag, loadImage_snd]
    simp only [pairFits_iff]
    exact ⟨⟨rfl, rfl, rfl, rfl, rfl, rfl⟩, ⟨rfl, rfl⟩, ⟨rfl, rfl, rfl, rfl, rfl, rfl, rfl, rfl, rfl, rfl, rfl⟩,
      ⟨rfl, rfl, rfl⟩, rfl, rfl, rfl, Iff.rfl⟩

end Sys2Proof.Machine
end

section
/-! PROOFS. NOP and the read commands (R32, R35, R55, R78, R94, R116, R138, R157, R168, R175). -/
namespace Sys2Proof.Machine

variable {s : State}

/-! ## Held entries (R40, R162) -/

theorem packHeld_iff {e : PackEntry} : packHeld s e = true ↔ s.holds.overflow = true ∨
    ∃ x ∈ s.holds.records, x.hold.state = .inForce ∧
      (x.hold.scope = .lot ∧ x.hold.key = e.lotId ∨ x.hold.scope = .product ∧ x.hold.key = e.product ∨
        x.hold.scope = .group ∧ x.hold.key = 0 ∧ (0 : Nat) ≠ 0 ∨ x.hold.scope = .program ∧ x.hold.key = e.program) := by
  have same (r : HoldRec) : keyMatches (packQuery e) r.scope r.key = true ↔
      r.scope = .lot ∧ r.key = e.lotId ∨ r.scope = .product ∧ r.key = e.product ∨
        r.scope = .group ∧ r.key = 0 ∧ (0 : Nat) ≠ 0 ∨ r.scope = .program ∧ r.key = e.program := by
    cases scope : r.scope <;> simp [keyMatches, packQuery, @eq_comm _ e.product, @eq_comm _ e.program]
  simp only [packHeld, lotHeld, lotMatched, holdMatches, Bool.or_eq_true, List.any_eq_true, Bool.and_eq_true, beq_iff_eq, same]

/-! ## The best claim (R35) -/

theorem bestClaimBytes_eq {cs : List Claim} {cell score : Nat} (best : cs = [] ∧ cell = 0 ∧ score = 0 ∨
    ∃ c ∈ cs, c.cell = cell ∧ c.score = score ∧ ∀ x ∈ cs,
      x = c ∨ x.score < c.score ∨ x.score = c.score ∧ c.cell < x.cell) : bestClaimBytes cs = be1 cell ++ be1 score := by
  rcases best with ⟨rfl, rfl, rfl⟩ | ⟨c, mem, rfl, rfl, top⟩
  · rfl
  · have is : bestBy claimBetter cs = some c := bestBy_eq_some mem
      (fun a b h => by
        rw [← Bool.not_eq_true]
        rw [claimBetter_iff] at *
        omega)
      fun x found => (top x found).imp_right claimBetter_iff.2
    rw [bestClaimBytes, is]

/-! ## The role block of READ STATUS (R175) -/

theorem roleStatusBytes_of_cell (role : s.start.role = .cell) : roleStatusBytes s =
    be1 (bindStateCode s.cell.binding.state) ++ be1 s.cell.binding.handler ++ fitBytes s.cell.binding.fit ++
      be1 s.cell.binding.mask.toNat ++ be1 (reservationCode s.cell.reservation) ++
      be1 (reservedHandler s.cell.reservation) ++ be1 (reservationMinutes s) ++
      be1 (candidateCount s.cell.reservation) := by
  rw [roleStatusBytes, role]

/-! ## READ LOT and READ SITE (R116, R125) -/

theorem goodCount_eq {bins : List Nat} (length : bins.length = 16) (good : Mask16) : goodCount bins good =
    ((List.range 16).map fun b => if good.getLsbD b then bins.getD b 0 else 0).sum := by
  have same : (bins.zipIdx 1).map (fun (n, b) => if maskHas good b then n else 0) =
      (List.range 16).map fun b => if good.getLsbD b then bins.getD b 0 else 0 := by
    refine List.ext_getElem (by simp [length]) fun i _ _ => ?_
    have inside : i < bins.length := by simpa using ‹i < (List.map _ (bins.zipIdx 1)).length›
    simp [maskHas, List.getElem?_eq_getElem inside, Nat.add_comm 1 i]
  rw [goodCount, same]

theorem tallyAt_of_some {a : ActiveLot} {n : Nat} {x : SiteTally} (low : 1 ≤ n) (is : a.sites[n - 1]? = some x) :
    tallyAt a n = x := by
  rw [tallyAt, nth1, if_neg (by omega), List.getD_eq_getElem?_getD, is]
  rfl

/-! ## READ HANDLER (R94) -/

theorem contactorLimit_getD (c : Settings) : (contactorLimit c).getD 0 =
    if c.granularity then c.contactorField * 1024 + 1023 else c.contactorField := by
  unfold contactorLimit
  split
  · rfl
  · split
    · next zero => exact zero.symm
    · rfl

/-! ## READ PACK and READ RELEASE (R157, R168) -/

theorem filledSlots_eq {e : PackEntry} {a b c d : Option Completion} (slots : e.slots = [a, b, c, d]) : filledSlots e =
    (if a.isSome then 1 else 0) + 2 * (if b.isSome then 1 else 0) + 4 * (if c.isSome then 1 else 0) +
      8 * (if d.isSome then 1 else 0) := by
  rw [filledSlots, slots]
  simp only [List.zipIdx_cons, List.zipIdx_nil, List.map_cons, List.map_nil, List.sum_cons, List.sum_nil]
  split_ifs <;> rfl

theorem readRelease_of_released {lot part : Nat} {e : PackEntry} {r : ReleaseRec} (found : findPack s lot = some e)
    (released : e.state = .released) (record : e.release = some r) :
    readReleaseCommand lot part s = (s, .done (releasePartBytes part r)) := by
  simp only [readReleaseCommand, found, released, record]

theorem readRelease_of_other {lot part : Nat} {e : PackEntry} (found : findPack s lot = some e)
    (other : e.state ≠ .released) : readReleaseCommand lot part s = (s, .refused .state) := by
  simp only [readReleaseCommand, found]
  split
  · next released _ => exact absurd released other
  · rfl

theorem readRelease_of_absent {lot part : Nat} (absent : findPack s lot = none) :
    readReleaseCommand lot part s = (s, .refused .unknown) := by
  rw [readReleaseCommand, absent]

theorem readPack_of_absent {i part : Nat} (absent : s.pack.entries.length ≤ i) :
    readPack i part s = (s, .done (be1 s.pack.entries.length)) := by
  rw [readPack, List.getElem?_eq_none absent]

theorem readPack_of_some {i part : Nat} {e : PackEntry} (at_ : s.pack.entries[i]? = some e) :
    readPack i part s = (s, .done (if part = 0 then be1 s.pack.entries.length ++ packEntryBytes s e
      else bytesOf packSlotBytes (slotAt e part))) := by
  rw [readPack, at_]

/-- Settles O58. -/
theorem readsChangeNothing : Obligations.ReadsChangeNothing := by
  refine ⟨fun s => ?_, fun s => ?_⟩
  · intro flag minutes fit relation siteReason held
    have minute (d : Option Nat) : s.minutesLeft d = minutes d := by
      cases d with
      | none => rfl
      | some d => exact congrArg (· / 60000) (Nat.add_comm _ _)
    refine ⟨?_, fun role => ?_, fun role => ?_, fun role => ?_, fun role => ?_, fun r => ?_, fun e => ?_, fun x => ?_, fun a => ?_,
      ?_, fun n low high => ?_, ?_, ?_, fun e => ?_, fun c => ?_, fun r => ?_⟩
    · rw [statusBytes, statusReadFlags, State.numberValid, ← Bool.decide_and]
      rfl
    · intro b searched
      have block := roleStatusBytes_of_cell role
      refine ⟨fun is => ?_, fun k t cs d is => ?_, fun k t j cs d is => ?_, fun j f d is => ?_⟩
      all_goals
        rw [reservationMinutes, is] at block
      · exact block
      · exact block
      · exact block
      · rw [← minute]
        exact block
    · rw [roleStatusBytes, role]
      rfl
    · rw [roleStatusBytes, role]
      rfl
    · rw [roleStatusBytes, role]
      rfl
    · rfl
    · refine ⟨lotHeld_iff, fun cell score best => ?_⟩
      rw [stageEntryBytes, bestClaimBytes_eq best]
      simp only [beLot, List.append_assoc]
      rfl
    · refine ⟨fun is => ?_, fun sc u is => ?_⟩
      · show sightingBytes x = _
        rw [sightingBytes, is]
        rfl
      · show sightingBytes x = _
        rw [sightingBytes, is]
        rfl
    · refine ⟨?_, fun length => ?_, rfl, fun n low => ?_, fun n x low is => ?_⟩
      · rw [lotPartBytes, lastRun]
        simp only [beLot, List.append_assoc]
        cases a.lastPermit <;> rfl
      · rw [lotPartBytes, goodCount_eq length]
      · interval_cases n <;> rfl
      · rw [siteTallyBytes, tallyAt_of_some low is, q12, ← ite_not]
        simp only [Nat.not_le]
    · rw [handlerBytes, minute, minute]
      rfl
    · intro y limit
      refine ⟨?_, fun inside => ?_, fun above => ?_⟩
      · rw [maskHas_siteMask]
        exact ⟨fun ⟨_, _, inside, up⟩ => ⟨inside, up⟩, fun ⟨inside, up⟩ => ⟨low, high, inside, up⟩⟩
      · rw [handlerSiteBytes, if_pos (siteOk_iff.2 ⟨low, inside⟩), contactorLimit_getD]
        have up : be1 (if y.status = .up then 0 else 1) = beFlag (y.status != .up) := by
          cases y.status <;> rfl
        rw [up]
        rfl
      · rw [handlerSiteBytes, if_neg fun ok => absurd (siteOk_iff.1 ok).2 (Nat.not_le.2 above)]
    · rw [handlerPermitBytes]
      cases s.handler.target <;> rfl
    · rw [handlerJamBytes, beLot, ← List.append_assoc]
      rfl
    · refine ⟨packHeld_iff, fun a b c d is => ?_⟩
      rw [packEntryBytes, filledSlots_eq is]
      rfl
    · rfl
    · exact ⟨rfl, rfl⟩
  · intro reports
    exact ⟨fun takes => exec_takes (c := .nop) rfl takes rfl,
      fun p takes => exec_takes (c := .readStatus p) rfl takes rfl,
      fun i p takes => exec_takes (c := .readHold i p) rfl takes rfl,
      fun i takes => exec_takes (c := .readStage i) rfl takes rfl,
      fun p takes => exec_takes (c := .readLot p) rfl takes rfl,
      fun i p takes => exec_takes (c := .readQueue i p) rfl takes rfl,
      fun i takes => exec_takes (c := .readSighting i) rfl takes rfl,
      fun n takes => exec_takes (c := .readSite n) rfl takes rfl,
      fun i p takes => exec_takes (c := .readOutbox i p) rfl takes rfl,
      fun p takes => exec_takes (c := .readHandler p) rfl takes rfl,
      fun i p absent takes => exec_takes (c := .readPack i p) rfl takes (readPack_of_absent absent),
      fun i p e at_ takes => exec_takes (c := .readPack i p) rfl takes (readPack_of_some at_),
      fun lot p e r found released record takes =>
        exec_takes (c := .readRelease lot p) rfl takes (readRelease_of_released found released record),
      fun lot p e takes found other => exec_takes (c := .readRelease lot p) rfl takes (readRelease_of_other found other),
      fun lot p takes absent => exec_takes (c := .readRelease lot p) rfl takes (readRelease_of_absent absent)⟩

end Sys2Proof.Machine
end

section
/-! PROOFS. READ EVENT, READ DIAGNOSTICS, READ PEER and the watch commands (R16, R32, R173, R178, R179). -/
namespace Sys2Proof.Machine

variable {s : State} {n : Nat}

theorem readEvent_of_cons {e : EventRec} {es : List EventRec} (queued : s.port.events = e :: es) : readEvent s =
    (s.setPort { s.port with events := es, overflowed := false },
      .done (be1 (eventCode e.event) ++ be4 e.time ++ padTo 11 (eventFields e.event) ++
        be1 (128 * (if s.port.overflowed then 1 else 0) + es.length % 64))) := by
  rw [readEvent, queued, ← flagCode_eq]
  rfl

theorem readEvent_of_nil (empty : s.port.events = []) : readEvent s =
    (s.setPort { s.port with overflowed := false },
      .done (List.replicate 16 0 ++ be1 (128 * (if s.port.overflowed then 1 else 0)))) := by
  have port : ({ s.port with events := s.port.events.drop 1, overflowed := false } : Port) =
      { s.port with overflowed := false } := by
    simp [empty]
  rw [readEvent, port, empty, ← flagCode_eq]
  rfl

theorem readPeer_summary (low : 1 ≤ n) : readPeer n 0 s =
    (s.setPeers { s.peers with table := s.peers.table.set (n - 1) { peerAt s.peers n with lostLatch := false } },
      .done (peerBytes (peerAt s.peers n))) := by
  rw [readPeer, if_pos rfl, updatePeer, modifyAt_eq_set _ PeerEntry.reset, peerAt_of_low low]

theorem armWatch_eq (sc : Scope) (k : Nat) : armWatch n sc k s =
    (s.setPort { s.port with watches := s.port.watches.set n (some (sc, k)) },
      .done (be1 (if (s.port.watches.getD n none).isSome then 1 else 0))) := by
  rw [armWatch, modifyAt_eq_set _ none, ← flagCode_eq]
  rfl

theorem disarmWatch_eq : disarmWatch n s = (s.setPort { s.port with watches := s.port.watches.set n none },
    .done (be1 (if (s.port.watches.getD n none).isSome then 1 else 0))) := by
  rw [disarmWatch, modifyAt_eq_set _ none, ← flagCode_eq]
  rfl

/-- Settles O59. -/
theorem eventsLatchesAndWatches : Obligations.EventsLatchesAndWatches := by
  refine ⟨fun v => ?_, fun l p => rfl, fun e => ?_, fun b => ?_, fun s => ⟨fun e es takes queued => ?_, fun takes empty => ?_,
    fun takes => ?_, fun n takes sizes => ?_, fun n takes => ?_, fun n sc k takes sizes => ?_, fun n takes sizes => ?_⟩⟩
  · intro scope spelled
    cases v with
    | lotLost l i c => cases c <;> exact ⟨rfl, rfl⟩
    | lotRevoked l i n r => cases r <;> exact ⟨rfl, rfl⟩
    | _ => exact ⟨rfl, rfl⟩
  · obtain ⟨presence, lost, fresh, heard, beacon, since, timer⟩ := e
    cases beacon with
    | none => cases heard <;> rfl
    | some b =>
      obtain ⟨state, zones, count, digest, block⟩ := b
      cases block <;> cases heard <;> rfl
  · cases b <;> rfl
  · exact exec_takes (c := .readEvent) rfl takes (readEvent_of_cons queued)
  · exact exec_takes (c := .readEvent) rfl takes (readEvent_of_nil empty)
  · exact exec_takes (c := .readDiagnostics) rfl takes rfl
  · have low : 1 ≤ n := by
      obtain ⟨-, -, -, ok, -⟩ := takes
      exact (within_iff.1 (Bool.and_eq_true_iff.1 ok).1).1
    exact exec_takes (c := .readPeer n 0) rfl takes (readPeer_summary low)
  · exact exec_takes (c := .readPeer n 1) rfl takes rfl
  · exact exec_takes (c := .armWatch n sc k) rfl takes (armWatch_eq sc k)
  · exact exec_takes (c := .disarmWatch n) rfl takes disarmWatch_eq

end Sys2Proof.Machine
end

section
/-! PROOFS. The qualification of a transaction: CODE, CONTENT and STATE of each command (R172 to R174). -/
namespace Sys2Proof.Machine

variable {s : State} {c : PortCommand}

/-! ## CODE (R172) -/

theorem codeGroup_eq (n : Nat) : codeGroup n =
    if 0x01 ≤ n ∧ n ≤ 0x0B then .common
    else if 0x20 ≤ n ∧ n ≤ 0x24 then .role .stage
    else if 0x40 ≤ n ∧ n ≤ 0x4F then .role .cell
    else if 0x60 ≤ n ∧ n ≤ 0x68 then .role .handler
    else if 0x80 ≤ n ∧ n ≤ 0x82 then .role .pack
    else .unknown := rfl

theorem codeOk_of_role {n : Nat} {r : Role} (group : codeGroup n = .role r) : codeOk s n = true ↔ s.start.role = r := by
  rw [codeOk, group]
  exact beq_iff_eq

/-- Where a code stands: common, of one role, or of none (section 11.4). -/
theorem codeOk_cases (s : State) (n : Nat) :
    (1 ≤ n ∧ n ≤ 0x0B) ∧ codeOk s n = true ∨
    (0x20 ≤ n ∧ n ≤ 0x24) ∧ (codeOk s n = true ↔ s.start.role = .stage) ∨
    (0x40 ≤ n ∧ n ≤ 0x4F) ∧ (codeOk s n = true ↔ s.start.role = .cell) ∨
    (0x60 ≤ n ∧ n ≤ 0x68) ∧ (codeOk s n = true ↔ s.start.role = .handler) ∨
    (0x80 ≤ n ∧ n ≤ 0x82) ∧ (codeOk s n = true ↔ s.start.role = .pack) ∨
    ¬((1 ≤ n ∧ n ≤ 0x0B) ∨ (0x20 ≤ n ∧ n ≤ 0x24) ∨ (0x40 ≤ n ∧ n ≤ 0x4F) ∨ (0x60 ≤ n ∧ n ≤ 0x68) ∨
      (0x80 ≤ n ∧ n ≤ 0x82)) ∧ codeOk s n = false := by
  have group := codeGroup_eq n
  by_cases common : 1 ≤ n ∧ n ≤ 0x0B
  · rw [if_pos common] at group
    exact .inl ⟨common, by rw [codeOk, group]⟩
  rw [if_neg common] at group
  by_cases stage : 0x20 ≤ n ∧ n ≤ 0x24
  · rw [if_pos stage] at group
    exact .inr (.inl ⟨stage, codeOk_of_role group⟩)
  rw [if_neg stage] at group
  by_cases cell : 0x40 ≤ n ∧ n ≤ 0x4F
  · rw [if_pos cell] at group
    exact .inr (.inr (.inl ⟨cell, codeOk_of_role group⟩))
  rw [if_neg cell] at group
  by_cases handler : 0x60 ≤ n ∧ n ≤ 0x68
  · rw [if_pos handler] at group
    exact .inr (.inr (.inr (.inl ⟨handler, codeOk_of_role group⟩)))
  rw [if_neg handler] at group
  by_cases pack : 0x80 ≤ n ∧ n ≤ 0x82
  · rw [if_pos pack] at group
    exact .inr (.inr (.inr (.inr (.inl ⟨pack, codeOk_of_role group⟩))))
  rw [if_neg pack] at group
  exact .inr (.inr (.inr (.inr (.inr ⟨by tauto, by rw [codeOk, group]⟩))))

theorem codeOk_iff {n : Nat} : codeOk s n = true ↔
    1 ≤ n ∧ n ≤ 0x0B ∨ s.start.role = .stage ∧ 0x20 ≤ n ∧ n ≤ 0x24 ∨ s.start.role = .cell ∧ 0x40 ≤ n ∧ n ≤ 0x4F ∨
      s.start.role = .handler ∧ 0x60 ≤ n ∧ n ≤ 0x68 ∨ s.start.role = .pack ∧ 0x80 ≤ n ∧ n ≤ 0x82 := by
  rcases codeOk_cases s n with ⟨is, code⟩ | ⟨is, code⟩ | ⟨is, code⟩ | ⟨is, code⟩ | ⟨is, code⟩ | ⟨is, code⟩ <;>
    grind

/-- The codes of the catalogue lie in the group of their role (section 11.4). -/
theorem commandCode_group (c : PortCommand) : (1 ≤ commandCode c ∧ commandCode c ≤ 0x0B) ∨
    (0x20 ≤ commandCode c ∧ commandCode c ≤ 0x24) ∨ (0x40 ≤ commandCode c ∧ commandCode c ≤ 0x4F) ∨
      (0x60 ≤ commandCode c ∧ commandCode c ≤ 0x68) ∨ (0x80 ≤ commandCode c ∧ commandCode c ≤ 0x82) := by
  cases c <;> simp only [commandCode] <;> omega

theorem codeOk_command_iff : codeOk s (commandCode c) = true ↔
    if commandCode c ≤ 0x0B then True
    else if commandCode c ≤ 0x24 then s.start.role = .stage
    else if commandCode c ≤ 0x4F then s.start.role = .cell
    else if commandCode c ≤ 0x68 then s.start.role = .handler else s.start.role = .pack := by
  have group := commandCode_group c
  rcases codeOk_cases s (commandCode c) with ⟨is, code⟩ | ⟨is, code⟩ | ⟨is, code⟩ | ⟨is, code⟩ | ⟨is, code⟩ | ⟨is, code⟩
  · rw [if_pos is.2]
    exact iff_of_true code trivial
  · rwa [if_neg (by omega), if_pos is.2]
  · rwa [if_neg (by omega), if_neg (by omega), if_pos is.2]
  · rwa [if_neg (by omega), if_neg (by omega), if_neg (by omega), if_pos is.2]
  · rwa [if_neg (by omega), if_neg (by omega), if_neg (by omega), if_neg (by omega)]
  · exact absurd group is

/-! ## CONTENT (R172) -/

theorem lotRecordOk_iff {l : LotRecord} : lotRecordOk l = true ↔
    ((1 ≤ l.lotId ∧ l.lotId ≤ 4294967295) ∧ 1 ≤ l.index ∧ l.index ≤ 4) ∧ (l.index ≤ l.count ∧ l.count ≤ 4) ∧
      (1 ≤ l.product ∧ l.product ≤ 65535) ∧ (1 ≤ l.program ∧ l.program ≤ 65535) ∧ (1 ≤ l.kit ∧ l.kit ≤ 255) ∧
      (-60 ≤ l.temp ∧ l.temp ≤ 200) ∧ (1 ≤ l.quantity ∧ l.quantity ≤ 65535) ∧ l.group ≤ 31 ∧ l.priority ≤ 7 ∧
      1 ≤ l.packStation ∧ l.packStation ≤ 40 := by
  simp only [lotRecordOk, stationOk, Bool.and_eq_true, within_iff, sublotOk_iff, tempOk_iff]
  omega

theorem disjoint_iff {good retestable : Mask16} : good &&& retestable = 0#16 ↔
    ∀ b, b < 16 → good.getLsbD b = true → retestable.getLsbD b = false := by
  constructor
  · intro none b low is
    have bit : (good &&& retestable).getLsbD b = false := by rw [none, BitVec.getLsbD_zero]
    simpa [is] using bit
  · intro apart
    refine BitVec.eq_of_getLsbD_eq fun b low => ?_
    rw [BitVec.getLsbD_and, BitVec.getLsbD_zero]
    cases is : good.getLsbD b with
    | false => rfl
    | true => rw [apart b low is]; rfl

theorem partAOk_iff {a : LimitPartA} : partAOk a = true ↔
    a.lya ≤ 4096 ∧ a.lyf ≤ 4096 ∧ (1 ≤ a.nMin ∧ a.nMin ≤ 65535) ∧ (1 ≤ a.nSite ∧ a.nSite ≤ 65535) ∧ a.sdl ≤ 4096 ∧
      a.cf ≤ 255 ∧ a.passes ≤ 3 ∧ ∀ b, b < 16 → a.good.getLsbD b = true → a.retestable.getLsbD b = false := by
  simp only [partAOk, Bool.and_eq_true, decide_eq_true_eq, within_iff, beq_iff_eq, disjoint_iff, and_assoc]
  tauto

theorem binsDistinct_iff {ps : List (Nat × Nat)} : binsDistinct ps = true ↔ ps.Pairwise fun p q => q.1 ≠ p.1 := by
  induction ps with
  | nil => simp [binsDistinct]
  | cons p ps ih => simp [binsDistinct, ih]

theorem partBOk_iff {ps : List (Nat × Nat)} {jam : Nat} : partBOk ps jam = true ↔
    jam ≤ 255 ∧ (∀ p ∈ ps, p.1 ≠ 0 → (2 ≤ p.1 ∧ p.1 ≤ 16) ∧ p.2 ≤ 4096) ∧
      ps.Pairwise fun p q => p.1 = 0 ∨ p.1 ≠ q.1 := by
  have apart (p q : Nat × Nat) : ((p.1 != 0) = true → (q.1 != 0) = true → q.1 ≠ p.1) ↔ p.1 = 0 ∨ p.1 ≠ q.1 := by
    simp only [bne_iff_ne]
    omega
  rw [partBOk, Bool.and_eq_true, Bool.and_eq_true, binsDistinct_iff, usedPairs, List.pairwise_filter]
  simp only [apart, List.all_filter, List.all_eq_true, Bool.or_eq_true, Bool.not_eq_true', bne_eq_false_iff_eq,
    Bool.and_eq_true, within_iff, decide_eq_true_eq]
  have used : (∀ p ∈ ps, p.1 = 0 ∨ (2 ≤ p.1 ∧ p.1 ≤ 16) ∧ p.2 ≤ 4096) ↔
      ∀ p ∈ ps, p.1 ≠ 0 → (2 ≤ p.1 ∧ p.1 ≤ 16) ∧ p.2 ≤ 4096 := by
    simp only [or_iff_not_imp_left, ne_eq]
  rw [used]
  tauto

theorem sitesOk_iff {m : SiteMask} : sitesOk s m = true ↔ ∀ n, 1 ≤ n → n ≤ 8 → m.getLsbD (n - 1) = true →
    1 ≤ n ∧ n ≤ s.start.config.siteCount := by
  simp only [sitesOk, List.all_eq_true, mem_siteNumbers]
  refine forall_congr' fun n => and_imp.trans (imp_congr_right fun low => imp_congr_right fun _ => ?_)
  simp [maskHas, low, siteOk_iff, imp_iff_not_or]

/-! ## STATE (R174) -/

theorem isLive_iff : s.isLive = true ↔ s.start.station = .learning ∨ s.start.station = .active := by
  simp [State.isLive]

theorem isActive_iff : s.isActive = true ↔ s.start.station = .active := by
  simp [State.isActive]

/-! ## The answers -/

theorem exec_transact (c : PortCommand) {i : Instr} (row : Instr.command? i = some c) (running : s.pins.inReset = false)
    {u : State} (is : transact c s = u) : exec i s = .next (settle s u) := by
  rw [exec_of_command row]
  exact next_event (body := transact c) running is

section
variable (kept : s.port.abandoned = false)
include kept

theorem transact_of_code (code : ¬codeOk s (commandCode c) = true) : transact c s = fail .code (commandCode c) s := by
  simp [transact, kept, code]

theorem transact_of_content (code : codeOk s (commandCode c) = true) (bad : ¬commandOk s c = true) :
    transact c s = fail .content (commandCode c) s := by
  simp [transact, kept, code, bad]

end

theorem transact_of_abandoned (lost : s.port.abandoned = true) : transact c s = releaseAbandoned s := if_pos lost

/-! ## A transaction in its bytes -/

section
variable {t : Transaction}

theorem exec_transaction (running : s.pins.inReset = false) {u : State} (is : transactBytes t s = u) :
    exec (.unknownTransaction t) s = .next (settle s u) := next_event (body := transactBytes t) running is

theorem echoOf_eq (t : Transaction) : echoOf t = (t.bytes.headD 0).toNat := by
  cases bytes : t.bytes with
  | nil => simp [echoOf, bytes, field, num]
  | cons b bs => simp [echoOf, bytes, field, num]

variable (kept : s.port.abandoned = false)
include kept

theorem transactBytes_of_length (short : 8 * t.bytes.length + t.extraEdges ≠ 160) :
    transactBytes t s = fail .length (echoOf t) s := by
  refine (if_neg (by simp [kept])).trans (if_pos short)

variable (whole : t.bytes.length = 20) (exact_ : t.extraEdges = 0)
include whole exact_

omit kept in
theorem edgesOf_whole : edgesOf t = 160 := by rw [edgesOf, whole, exact_]

theorem transactBytes_of_check (bad : crc8 (t.bytes.take 19) ≠ t.bytes.getD 19 0) :
    transactBytes t s = fail .check (echoOf t) s :=
  (if_neg (by simp [kept])).trans ((if_neg (not_not.2 (edgesOf_whole whole exact_))).trans (if_pos bad))

variable (right : crc8 (t.bytes.take 19) = t.bytes.getD 19 0)
include right

theorem transactBytes_of_code (bad : codeOk s (t.bytes.headD 0).toNat = false) :
    transactBytes t s = fail .code (echoOf t) s := by
  refine (if_neg (by simp [kept])).trans ((if_neg (not_not.2 (edgesOf_whole whole exact_))).trans
    ((if_neg (not_not.2 right)).trans (if_pos ?_)))
  rw [echoOf_eq, bad]
  rfl

theorem transactBytes_of_unread (code : codeOk s (echoOf t) = true) (unread : readCommand (echoOf t) (t.bytes.drop 1) = none) :
    transactBytes t s = fail .content (echoOf t) s := by
  refine (if_neg (by simp [kept])).trans ((if_neg (not_not.2 (edgesOf_whole whole exact_))).trans
    ((if_neg (not_not.2 right)).trans ((if_neg (by simp [code])).trans ?_)))
  rw [unread]

end

/-- An enumerated field with no code: the scope of PLACE HOLD, DISPOSITION and ARM WATCH, and the disposition. -/
theorem readCommand_of_unknown {bs : List Byte} {n : Nat}
    (unknown : n = 0x07 ∧ scopeOf (field bs 0 1) = none ∨
      n = 0x08 ∧ (scopeOf (field bs 0 1) = none ∨ dispositionOf (field bs 7 1) = none) ∨
      n = 0x09 ∧ scopeOf (field bs 1 1) = none) : readCommand n bs = none := by
  rcases unknown with ⟨rfl, is⟩ | ⟨rfl, is | is⟩ | ⟨rfl, is⟩
  · simp [readCommand, withScope, is]
  · simp [readCommand, is]
  · simp only [readCommand, is]
    cases scopeOf (field bs 0 1) <;> rfl
  · simp [readCommand, withScope, is]

theorem scopeOf_of_large {n : Nat} (large : 3 < n) : scopeOf n = none := by
  match n, large with
  | n + 4, _ => rfl

theorem dispositionOf_of_large {n : Nat} (large : 3 < n) : dispositionOf n = none := by
  match n, large with
  | n + 4, _ => rfl

theorem field_byte (bs : List Byte) (i : Nat) : field (bs.drop 1) i 1 = (bs.getD (i + 1) 0#8).toNat := by
  rw [field_one, List.getD_eq_getElem?_getD, List.getElem?_drop, Nat.add_comm, ← List.getD_eq_getElem?_getD]

theorem crc8_eq (bs : List Byte) : crc8 bs = (bs.flatMap byteBits).foldl crc8Bit 0#8 := by
  rw [crc8, List.foldl_flatMap]

/-- Settles O60. -/
theorem transactionsAreQualified : Obligations.TransactionsAreQualified := by
  refine ⟨fun c s => ?_, fun s n => codeOk_iff, crc8_eq, fun s o => ?_, fun s running => ⟨fun off => ?_, fun on => ?_,
    fun lost => ⟨fun t => ?_, fun c => ?_⟩, fun t kept => ?_, fun c kept => ⟨fun code bad => ?_, fun code ok may => ?_⟩⟩⟩
  · intro row roleRight live taken in_ id word station lot temp site key inRange errs
    have is : Instr.command? row.1 = some c := by cases c <;> rfl
    have code : commandCode c = row.2 := by cases c <;> rfl
    have roleIs : codeOk s (commandCode c) = true ↔ roleRight := by
      have role := codeOk_command_iff (s := s) (c := c)
      rw [code] at role ⊢
      exact role
    have keyIs (sc : Scope) (k : Nat) : keyOk sc k = true ↔ key sc k := by cases sc <;> exact within_iff
    have both {a b : Bool} {p q : Prop} (l : a = true ↔ p) (r : b = true ↔ q) : (a && b) = true ↔ p ∧ q :=
      (Bool.and_eq_true_iff).trans (and_congr l r)
    have lotIs (l i : Nat) : lotOk l i = true ↔ lot l i := lotOk_iff
    have rangeIs : commandOk s c = true ↔ inRange := by
      cases c with
      | nop | readDiagnostics | readEvent | restart | undock | endPass | lotUnloaded | limitClear | tempLost | reArm =>
        exact iff_of_true rfl trivial
      | readStatus | disarmWatch | readStage | readLot | readSighting | kitChanged | readHandler => exact decide_eq_true_iff
      | readHold | readQueue | readOutbox | readPack => exact both decide_eq_true_iff decide_eq_true_iff
      | dock | readSite | contactorReplaced | siteRestore => exact within_iff
      | readPeer | contactorCount | packDone | readRelease => exact both within_iff decide_eq_true_iff
      | lotReturned | lotRemoved | unqueue | lotLoaded => exact lotIs _ _
      | lotIssued => exact both (lotIs _ _) within_iff
      | tempReached => exact tempOk_iff
      | requestHandler => exact both within_iff tempOk_iff
      | placeHold sc k t => exact both (keyIs sc k) (by simp [imp_iff_not_or])
      | disposition sc k g d =>
        exact (both (both (keyIs sc k) within_iff) (q := d ≠ .none) (by simp)).trans and_assoc
      | armWatch n sc k => exact both decide_eq_true_iff (keyIs sc k)
      | lotArrived => exact lotRecordOk_iff
      | binReport m bins => simp [commandOk, inRange]
      | limitSetA => exact partAOk_iff
      | limitSetB => exact partBOk_iff
      | unitIndexed => exact sitesOk_iff
    have takenIs : available s (availability c) = true ↔ taken := by
      have notStart : (s.start.station != .start) = true ↔ s.start.station ≠ .start := bne_iff_ne
      cases c with
      | nop | readStatus | readDiagnostics | readEvent => exact iff_of_true rfl trivial
      | readPeer | readHold | placeHold | armWatch | disarmWatch | readStage | readLot | readQueue | readSighting
      | readSite | readOutbox | readHandler | readPack | readRelease => exact notStart
      | restart => exact available_restart_iff.trans (or_congr isLive_iff Iff.rfl)
      | lotArrived | lotIssued | lotReturned | lotRemoved | limitSetA | limitSetB | limitClear | tempReached | tempLost
      | unitIndexed | kitChanged | contactorReplaced | contactorCount | siteRestore | reArm => exact isLive_iff
      | dock | undock | requestHandler | unqueue | lotLoaded | binReport | endPass | lotUnloaded | packDone
      | disposition => exact isActive_iff
    refine ⟨code, ?_, fun running lost => exec_transact c is running (transact_of_abandoned lost), fun running kept =>
      ⟨fun bad => ?_, fun role bad => ?_, fun role range bad => ?_⟩⟩
    · rw [← roleIs, ← rangeIs, ← takenIs]
    · rw [← roleIs] at bad
      refine exec_transact c is running ((transact_of_code kept bad).trans ?_)
      rw [code]
      rfl
    · rw [← rangeIs] at bad
      refine exec_transact c is running ((transact_of_content kept (roleIs.2 role) bad).trans ?_)
      rw [code]
      rfl
    · rw [← takenIs, Bool.not_eq_true] at bad
      refine exec_transact c is running ((transact_of_state kept (roleIs.2 role) (rangeIs.2 range) bad).trans ?_)
      rw [code]
      rfl
  · obtain ⟨answer, echo⟩ := o
    cases answer with
    | done r => rfl
    | refused r => rfl
    | already g => rfl
    | error k => rfl
    | start =>
      have numbered : flagCode s.numberValid = if 1 ≤ s.start.number ∧ s.start.number ≤ 40 then 1 else 0 := by
        simp [flagCode_eq, State.numberValid]
      intro result first
      have fields : startFields s = result := by
        rw [startFields, numbered]
        rfl
      rw [outcomeBytes, answerBytes, fields]
      rfl
  · exact next_event (body := selectChip) running (if_neg (by simp [off]))
  · exact next_event (body := selectChip) running (if_pos on)
  · exact exec_transaction running (if_pos lost)
  · exact transact_of_abandoned lost
  · have fails {k : ErrorKind} (is : transactBytes t s = fail k (echoOf t) s) : exec (.unknownTransaction t) s =
        .next (settle s (fail k (t.bytes.headD 0).toNat s)) := by
      rw [← echoOf_eq]
      exact exec_transaction running is
    refine ⟨fun short => fails (transactBytes_of_length kept short),
      fun whole exact_ bad => fails (transactBytes_of_check kept whole exact_ bad),
      fun whole exact_ right bad => fails (transactBytes_of_code kept whole exact_ right bad), ?_⟩
    intro at_ whole exact_ right unknown
    have first : echoOf t = at_ 0 := field_one t.bytes 0
    refine fails (transactBytes_of_unread kept whole exact_ right ?_ (readCommand_of_unknown ?_))
    · rw [first, codeOk_iff]
      omega
    · rw [first, field_byte, field_byte, field_byte]
      rcases unknown with ⟨is, large⟩ | ⟨is, large⟩ | ⟨is, large⟩
      · exact .inl ⟨is, scopeOf_of_large large⟩
      · exact .inr (.inl ⟨is, large.imp scopeOf_of_large dispositionOf_of_large⟩)
      · exact .inr (.inr ⟨is, scopeOf_of_large large⟩)
  · exact transact_of_content kept code (by simp [bad])
  · exact transact_of_state kept code ok may

end Sys2Proof.Machine
end

section
/-! PROOFS. The six checks of a report and of a status, and their handling (R122 to R130). -/
namespace Sys2Proof.Machine

variable {s : State} {a : ActiveLot} {c : Cell} {r : Report}

/-- The reason of a check is not in the suppressed set (R134). -/
def Live (a : ActiveLot) (h : HoldReason) : Prop := a.suppressed &&& reasonBit h = 0#16

theorem not_isSuppressed_iff {h : HoldReason} : isSuppressed a h = false ↔ Live a h := bne_eq_false_iff_eq

/-! ## NO_SITES (R124) -/

theorem checkNoSites_iff {q : Bool} {t : Trigger} : checkNoSites q c = some t ↔
    t = (.noSites, 0) ∧ q = true ∧ ∀ n, 1 ≤ n → n ≤ 8 → maskHas c.mask n = true → markOf c n ≠ .up := by
  have none : (unmarkedSites c).isEmpty = true ↔
      ∀ n, 1 ≤ n → n ≤ 8 → maskHas c.mask n = true → markOf c n ≠ .up := by
    simp [unmarkedSites, List.filter_eq_nil_iff]
  rw [checkNoSites, ← none, ← Bool.and_eq_true]
  split
  · next is => simp [is, eq_comm]
  · next no => simp [no]

/-! ## SITE_DELTA (R125) -/

/-- The site has units enough to be compared (R125). -/
def SiteCounts (a : ActiveLot) (n : Nat) : Prop := 1 ≤ n ∧ n ≤ 8 ∧ a.limits.nSite ≤ (tallyAt a n).tested

/-- The yield of a site in 4096ths (R125). -/
def siteYield (a : ActiveLot) (n : Nat) : Nat := 4096 * (tallyAt a n).good / (tallyAt a n).tested

theorem mem_siteYields {x : Nat × Nat} : x ∈ siteYields a ↔ SiteCounts a x.1 ∧ x.2 = siteYield a x.1 := by
  obtain ⟨n, y⟩ := x
  simp only [siteYields, List.mem_map, List.mem_filter, mem_siteNumbers, decide_eq_true_eq, Prod.mk.injEq, SiteCounts, and_assoc]
  constructor
  · rintro ⟨_, low, high, enough, rfl, rfl⟩
    exact ⟨low, high, enough, rfl⟩
  · rintro ⟨low, high, enough, rfl⟩
    exact ⟨n, low, high, enough, rfl, rfl⟩

theorem siteYields_sorted (a : ActiveLot) : (siteYields a).Pairwise fun x y => x.1 < y.1 :=
  List.pairwise_map.2 (List.Pairwise.filter _ (show siteNumbers.Pairwise (· < ·) by decide))

/-- The site of the lowest yield, the lowest of equals (R125). -/
def LowestSite (a : ActiveLot) (d : Nat) : Prop := SiteCounts a d ∧
  ∀ n, SiteCounts a n → siteYield a d < siteYield a n ∨ siteYield a d = siteYield a n ∧ d ≤ n

theorem lowest_bestBy {z : Nat × Nat} (best : bestBy (fun x y => decide (x.2 < y.2)) (siteYields a) = some z) :
    LowestSite a z.1 ∧ z.2 = siteYield a z.1 := by
  obtain ⟨pre, post, split, ahead⟩ := bestBy_split best
  have least := better_bestBy (fun x y h => by simp_all; omega) (fun x y w h k => by simp_all; omega) best
  have mem : z ∈ siteYields a := by simp [split]
  obtain ⟨counts, is⟩ := mem_siteYields.1 mem
  refine ⟨⟨counts, fun n there => ?_⟩, is⟩
  have found : (n, siteYield a n) ∈ siteYields a := mem_siteYields.2 ⟨there, rfl⟩
  have not_less : ¬siteYield a n < z.2 := by simpa using least _ found
  have sorted := siteYields_sorted a
  rw [split] at found sorted
  rw [← is]
  rcases List.mem_append.1 found with before | rest
  · exact .inl (by simpa using ahead _ before)
  · rcases List.mem_cons.1 rest with same | after
    · rw [← same]
      exact .inr ⟨rfl, Nat.le_refl n⟩
    · have order : z.1 < n := (List.pairwise_cons.1 (List.pairwise_append.1 sorted).2.1).1 _ after
      omega

theorem highest_bestBy {z : Nat × Nat} (best : bestBy (fun x y => decide (y.2 < x.2)) (siteYields a) = some z) :
    (SiteCounts a z.1 ∧ z.2 = siteYield a z.1) ∧ ∀ n, SiteCounts a n → siteYield a n ≤ z.2 := by
  have most := better_bestBy (fun x y h => by simp_all; omega) (fun x y w h k => by simp_all; omega) best
  refine ⟨mem_siteYields.1 (mem_of_bestBy _ best), fun n there => ?_⟩
  simpa using most _ (mem_siteYields (x := (n, siteYield a n)).2 ⟨there, rfl⟩)

theorem lowestSite_unique {d e : Nat} (left : LowestSite a d) (right : LowestSite a e) : d = e := by
  have one := left.2 e right.1
  have two := right.2 d left.1
  omega

theorem checkSiteDelta_iff {t : Trigger} : checkSiteDelta a = some t ↔
    ∃ d, t = (.siteDelta, d) ∧ LowestSite a d ∧ ∃ n, SiteCounts a n ∧ a.limits.sdl < siteYield a n - siteYield a d := by
  unfold checkSiteDelta
  dsimp only
  split
  · next few =>
    refine iff_of_false (fun no => nomatch no) ?_
    rintro ⟨d, -, lowest, n, counts, far⟩
    have differ : (d, siteYield a d) ≠ (n, siteYield a n) := by
      intro same
      cases same
      omega
    have one : (d, siteYield a d) ∈ siteYields a := mem_siteYields.2 ⟨lowest.1, rfl⟩
    have two : (n, siteYield a n) ∈ siteYields a := mem_siteYields.2 ⟨counts, rfl⟩
    have length : (siteYields a).length = 1 := by
      have := List.length_pos_of_mem one
      omega
    obtain ⟨x, is⟩ := List.length_eq_one_iff.1 length
    rw [is, List.mem_singleton] at one two
    exact differ (one.trans two.symm)
  · split
    · next hi lo highest lowest =>
      obtain ⟨least, low⟩ := lowest_bestBy lowest
      obtain ⟨⟨counts, high⟩, most⟩ := highest_bestBy highest
      have far : a.limits.sdl < hi.2 - lo.2 ↔ ∃ n, SiteCounts a n ∧ a.limits.sdl < siteYield a n - siteYield a lo.1 := by
        rw [← low]
        constructor
        · exact fun is => ⟨hi.1, counts, high ▸ is⟩
        · rintro ⟨n, there, is⟩
          have := most n there
          omega
      split
      · next is =>
        constructor
        · intro same
          cases same
          exact ⟨lo.1, rfl, least, far.1 is⟩
        · rintro ⟨d, rfl, lowest', -⟩
          rw [lowestSite_unique least lowest']
      · next no =>
        refine iff_of_false (fun no => nomatch no) ?_
        rintro ⟨d, -, lowest', is⟩
        rw [← lowestSite_unique least lowest'] at is
        exact no (far.2 is)
    · next bad =>
      refine iff_of_false (fun no => nomatch no) ?_
      rintro ⟨d, -, lowest, -⟩
      have one : (d, siteYield a d) ∈ siteYields a := mem_siteYields.2 ⟨lowest.1, rfl⟩
      obtain ⟨hi, highest⟩ := Option.ne_none_iff_exists'.1 (mt bestBy_eq_none.1
        (List.ne_nil_of_mem one) : bestBy (fun x y => decide (y.2 < x.2)) (siteYields a) ≠ none)
      obtain ⟨lo, least⟩ := Option.ne_none_iff_exists'.1 (mt bestBy_eq_none.1
        (List.ne_nil_of_mem one) : bestBy (fun x y => decide (x.2 < y.2)) (siteYields a) ≠ none)
      exact bad hi lo highest least

/-! ## BIN_LIMIT, YIELD_ALARM and COUNT_EXCESS (R126 to R128) -/

/-- The bin's count is above its limit (R122, R126). -/
def OverLimit (a : ActiveLot) (p : Nat × Nat) : Prop :=
  if p.2 = 0 then 0 < a.bins.getD (p.1 - 1) 0 else p.2 < 4096 * a.bins.getD (p.1 - 1) 0 / a.tested

theorem overBinLimit_iff {p : Nat × Nat} (named : 1 ≤ p.1) :
    overBinLimit (nth1 0 a.bins p.1) a.tested p.2 = true ↔ OverLimit a p := by
  have count : nth1 0 a.bins p.1 = a.bins.getD (p.1 - 1) 0 := if_neg (Nat.ne_of_gt named)
  rw [overBinLimit, OverLimit, count]
  by_cases zero : p.2 = 0
  · rw [if_pos zero, if_pos zero]
    exact decide_eq_true_iff
  · rw [if_neg zero, if_neg zero]
    exact decide_eq_true_iff

theorem checkBinLimit_found {t : Trigger} (is : checkBinLimit a = some t) :
    a.limits.nMin ≤ a.tested ∧ ∃ p ∈ a.limits.binLimits, t = (.binLimit, p.1) := by
  unfold checkBinLimit at is
  split at is
  · cases is
  · next enough =>
    obtain ⟨p, found, rfl⟩ := Option.map_eq_some_iff.1 is
    exact ⟨Nat.le_of_not_lt enough, p, List.mem_of_find?_eq_some found, rfl⟩

theorem checkBinLimit_iff (named : ∀ p ∈ a.limits.binLimits, 1 ≤ p.1) {t : Trigger} : checkBinLimit a = some t ↔
    a.limits.nMin ≤ a.tested ∧ ∃ pre p post, a.limits.binLimits = pre ++ p :: post ∧ t = (.binLimit, p.1) ∧
      OverLimit a p ∧ ∀ q ∈ pre, ¬OverLimit a q := by
  unfold checkBinLimit
  split
  · next few => exact iff_of_false (fun no => nomatch no) fun is => absurd is.1 (Nat.not_le.2 few)
  · next enough =>
    rw [Option.map_eq_some_iff]
    refine ⟨?_, ?_⟩
    · rintro ⟨p, found, rfl⟩
      obtain ⟨exceeds, pre, post, split, under⟩ := List.find?_eq_some_iff_append.1 found
      refine ⟨Nat.le_of_not_lt enough, pre, p, post, split, rfl, (overBinLimit_iff (named p (by simp [split]))).1 exceeds,
        fun q mem => ?_⟩
      rw [← overBinLimit_iff (named q (by simp [split, mem]))]
      simpa using under q mem
    · rintro ⟨-, pre, p, post, split, rfl, exceeds, under⟩
      refine ⟨p, List.find?_eq_some_iff_append.2 ⟨(overBinLimit_iff (named p (by simp [split]))).2 exceeds, pre, post, split,
        fun q mem => ?_⟩, rfl⟩
      have no := under q mem
      rw [← overBinLimit_iff (named q (by simp [split, mem]))] at no
      simpa using no

theorem checkYield_iff {t : Trigger} : checkYieldAlarm a = some t ↔ t = (.yieldAlarm, 0) ∧ a.pass = 1 ∧
    a.limits.nMin ≤ a.tested ∧ 4096 * goodCount a.bins a.limits.good / a.tested < a.limits.lya := by
  unfold checkYieldAlarm q12
  split
  · next is => simp [is, eq_comm]
  · next no => exact iff_of_false (fun no => nomatch no) fun is => no is.2

theorem checkCountExcess_iff {e : Option Nat} {t : Trigger} : checkCountExcess e = some t ↔ ∃ n, t = (.countExcess, n) ∧ e = some n := by
  cases e <;> simp [checkCountExcess, eq_comm]

/-! ## The triggers of a report (R123) -/

/-- The check of a report that gives a reason. -/
def checkOf (r : Report) (c : Cell) : HoldReason → Option Trigger
  | .noSites => checkNoSites r.requested c
  | .siteDelta => checkSiteDelta r.active
  | .binLimit => checkBinLimit r.active
  | .yieldAlarm => checkYieldAlarm r.active
  | .countExcess => checkCountExcess r.excess
  | _ => none

theorem mem_reportTriggers {t : Trigger} : t ∈ reportTriggers r c ↔ checkOf r c t.1 = some t ∧ Live r.active t.1 := by
  rw [reportTriggers, List.mem_filter, Bool.not_eq_true', not_isSuppressed_iff]
  refine and_congr_left fun _ => ?_
  simp only [List.mem_filterMap, List.mem_cons, List.not_mem_nil, or_false, id, exists_eq_right]
  constructor
  · rintro (is | is | is | is | is)
    · obtain ⟨rfl, -⟩ := checkNoSites_iff.1 is.symm
      exact is.symm
    · obtain ⟨d, rfl, -⟩ := checkSiteDelta_iff.1 is.symm
      exact is.symm
    · obtain ⟨-, p, -, rfl⟩ := checkBinLimit_found is.symm
      exact is.symm
    · obtain ⟨rfl, -⟩ := checkYield_iff.1 is.symm
      exact is.symm
    · obtain ⟨n, rfl, -⟩ := checkCountExcess_iff.1 is.symm
      exact is.symm
  · obtain ⟨h, d⟩ := t
    cases h with
    | noSites => exact fun is => .inl is.symm
    | siteDelta => exact fun is => .inr (.inl is.symm)
    | binLimit => exact fun is => .inr (.inr (.inl is.symm))
    | yieldAlarm => exact fun is => .inr (.inr (.inr (.inl is.symm)))
    | countExcess => exact fun is => .inr (.inr (.inr (.inr is.symm)))
    | _ => exact fun no => nomatch no

/-- The checks in their order give their own reasons (R123). -/
theorem reportTriggers_sublist (r : Report) (c : Cell) :
    ((reportTriggers r c).map Prod.fst).Sublist [.noSites, .siteDelta, .binLimit, .yieldAlarm, .countExcess] := by
  have named {o : Option Trigger} {h : HoldReason} (all : ∀ t, o = some t → t.1 = h) {os : List (Option Trigger)}
      {hs : List HoldReason} (rest : ((os.filterMap id).map Prod.fst).Sublist hs) :
      (((o :: os).filterMap id).map Prod.fst).Sublist (h :: hs) := by
    cases is : o with
    | none => exact rest.cons h
    | some t =>
      rw [List.filterMap_cons_some (f := id) (b := t) rfl, List.map_cons, all t is]
      exact rest.cons_cons h
  refine (List.Sublist.map _ List.filter_sublist).trans ?_
  refine named (fun t is => ?_) (named (fun t is => ?_) (named (fun t is => ?_) (named (fun t is => ?_)
    (named (fun t is => ?_) (List.Sublist.refl _)))))
  · rw [(checkNoSites_iff.1 is).1]
  · obtain ⟨d, rfl, -⟩ := checkSiteDelta_iff.1 is
    rfl
  · obtain ⟨-, p, -, rfl⟩ := checkBinLimit_found is
    rfl
  · rw [(checkYield_iff.1 is).1]
  · obtain ⟨n, rfl, -⟩ := checkCountExcess_iff.1 is
    rfl

section
variable {d : Nat}

theorem noSites_mem_iff : (.noSites, d) ∈ reportTriggers r c ↔ Live r.active .noSites ∧ d = 0 ∧ r.requested = true ∧
    ∀ n, 1 ≤ n → n ≤ 8 → maskHas c.mask n = true → markOf c n ≠ .up := by
  rw [mem_reportTriggers, checkOf, checkNoSites_iff, and_comm]
  simp

theorem siteDelta_mem_iff : (.siteDelta, d) ∈ reportTriggers r c ↔ Live r.active .siteDelta ∧ LowestSite r.active d ∧
    ∃ n, SiteCounts r.active n ∧ r.active.limits.sdl < siteYield r.active n - siteYield r.active d := by
  rw [mem_reportTriggers, checkOf, checkSiteDelta_iff, and_comm]
  simp

theorem binLimit_mem_iff (named : ∀ p ∈ r.active.limits.binLimits, 1 ≤ p.1) : (.binLimit, d) ∈ reportTriggers r c ↔
    Live r.active .binLimit ∧ r.active.limits.nMin ≤ r.active.tested ∧ ∃ pre p post,
      r.active.limits.binLimits = pre ++ p :: post ∧ d = p.1 ∧ OverLimit r.active p ∧ ∀ q ∈ pre, ¬OverLimit r.active q := by
  rw [mem_reportTriggers, checkOf, checkBinLimit_iff named, and_comm]
  simp

theorem lowYield_mem_iff : (.yieldAlarm, d) ∈ reportTriggers r c ↔ Live r.active .yieldAlarm ∧ d = 0 ∧
    r.active.pass = 1 ∧ r.active.limits.nMin ≤ r.active.tested ∧
    4096 * goodCount r.active.bins r.active.limits.good / r.active.tested < r.active.limits.lya := by
  rw [mem_reportTriggers, checkOf, checkYield_iff, and_comm]
  simp

theorem countExcess_mem_iff : (.countExcess, d) ∈ reportTriggers r c ↔ Live r.active .countExcess ∧ r.excess = some d := by
  rw [mem_reportTriggers, checkOf, checkCountExcess_iff, and_comm]
  simp

end

/-- A report with too few units for the checks, no request and no excess triggers nothing (R123 to R128). -/
theorem reportTriggers_of_quiet (asked : r.requested = false) (excess : r.excess = none)
    (few : r.active.tested < r.active.limits.nMin) (fewer : ∀ n, ¬SiteCounts r.active n) : reportTriggers r c = [] := by
  refine List.eq_nil_iff_forall_not_mem.2 fun t mem => ?_
  obtain ⟨is, -⟩ := mem_reportTriggers.1 mem
  obtain ⟨h, d⟩ := t
  cases h with
  | noSites => exact absurd (checkNoSites_iff.1 is).2.1 (by simp [asked])
  | siteDelta =>
    obtain ⟨d, -, lowest, -⟩ := checkSiteDelta_iff.1 is
    exact fewer d lowest.1
  | binLimit => exact absurd (checkBinLimit_found is).1 (Nat.not_le.2 few)
  | yieldAlarm => exact absurd (checkYield_iff.1 is).2.2.1 (Nat.not_le.2 few)
  | countExcess =>
    obtain ⟨n, -, some_⟩ := checkCountExcess_iff.1 is
    exact absurd some_ (by simp [excess])
  | _ => exact nomatch is

/-! ## The triggers of a status (R124, R129) -/

section
variable {b : StatusBody}

/-- A status says that the jam count passed its limit (R129). -/
def JamsOver (b : StatusBody) (a : ActiveLot) : Prop :=
  a.limits.jamLimit ≠ 0 ∧ a.jamArmed = true ∧ a.limits.jamLimit < b.jamCount

theorem statusTriggers_eq (b : StatusBody) (a : ActiveLot) : statusTriggers b a =
    ((if b.mask = 0#8 then [(HoldReason.noSites, 0)] else []) ++
      (if a.limits.jamLimit ≠ 0 ∧ a.jamArmed ∧ a.limits.jamLimit < b.jamCount then [(HoldReason.jamRate, 0)] else [])).filter
        fun t => !isSuppressed a t.1 := rfl

theorem statusTriggers_sublist (b : StatusBody) (a : ActiveLot) :
    ((statusTriggers b a).map Prod.fst).Sublist [.noSites, .jamRate] := by
  refine (List.Sublist.map _ List.filter_sublist).trans ?_
  split <;> split <;> simp

theorem mem_statusTriggers {t : Trigger} : t ∈ statusTriggers b a ↔ (t = (.noSites, 0) ∧ b.mask = 0#8 ∨
    t = (.jamRate, 0) ∧ JamsOver b a) ∧ Live a t.1 := by
  rw [statusTriggers_eq, List.mem_filter, Bool.not_eq_true', not_isSuppressed_iff, List.mem_append]
  refine and_congr_left fun _ => or_congr ?_ ?_
  · split <;> simp_all
  · rw [JamsOver]
    split <;> simp_all

theorem statusTriggers_of_quiet (some_ : b.mask ≠ 0#8) (off : a.limits.jamLimit = 0) : statusTriggers b a = [] := by
  refine List.eq_nil_iff_forall_not_mem.2 fun t mem => ?_
  rcases (mem_statusTriggers.1 mem).1 with ⟨-, is⟩ | ⟨-, is⟩
  · exact some_ is
  · exact is.1 off

end

/-! ## The trigger handling (R130) -/

section
variable {t : Trigger} {ts : List Trigger}

theorem handleTriggers_eq (active : s.cell.active = some a) : handleTriggers (t :: ts) a.lot.lotId s =
    let u := s.setCell { s.cell with active := some { a with reasons := a.reasons ||| triggerWord (t :: ts) } }
    if keyInForce s.holds .lot a.lot.lotId then u else (placeHold .lot a.lot.lotId t.1 t.2 0 u).1 := by
  rw [handleTriggers, updateActive_of_some active]
  rfl

end

end Sys2Proof.Machine
end

section
/-! PROOFS. Units counted at a BIN REPORT, and statuses taken (R111, R117, R119 to R133). -/
namespace Sys2Proof.Machine

variable {s u v w : State} {a x : ActiveLot} {r q : Report} {n b : Nat} {bins : List Nat} {m : SiteMask}

/-! ## The entry of a site (R119, R120) -/

theorem tallyAt_of_pos (low : 1 ≤ n) : tallyAt a n = a.sites.getD (n - 1) { tested := 0, good := 0, run := 0 } :=
  if_neg (by omega)

/-- The fail run of a site after a unit (R121). -/
def runAfter (a : ActiveLot) (n b : Nat) : Nat :=
  if maskHas a.limits.good b then 0 else min ((tallyAt a n).run + 1) 255

/-- The fail run asks the site down (R121). -/
abbrev RunFails (a : ActiveLot) (n b : Nat) : Prop := a.limits.cf ≠ 0 ∧ a.limits.cf ≤ runAfter a n b

/-- The tallies of a site after a unit. -/
def tallied (a : ActiveLot) (n b : Nat) : SiteTally :=
  { tested := (tallyAt a n).tested + 1, good := (tallyAt a n).good + (if maskHas a.limits.good b then 1 else 0),
    run := if RunFails a n b then 0 else runAfter a n b }

/-- The report after a unit counted. -/
def unitCounted (n b : Nat) (r : Report) : Report :=
  { r with
    active := { countBin b r.active with sites := modifyAt (fun _ => tallied r.active n b) (n - 1) r.active.sites },
    counted := maskAdd r.counted n,
    excess := if r.active.pass ≠ 1 ∧ r.active.pool = 0 then some (r.excess.getD n) else r.excess }

theorem countSite_eq (a : ActiveLot) (n b : Nat) : countSite a.limits.cf (maskHas a.limits.good b) (tallyAt a n) =
    (tallied a n b, decide (RunFails a n b)) := by
  have falls : (a.limits.cf != 0 && decide (a.limits.cf ≤ runAfter a n b)) = decide (RunFails a n b) := by
    rw [Bool.decide_and, decide_not]
    rfl
  have is : countSite a.limits.cf (maskHas a.limits.good b) (tallyAt a n) =
      ({ tested := (tallyAt a n).tested + 1, good := (tallyAt a n).good + (if maskHas a.limits.good b then 1 else 0),
         run := if a.limits.cf != 0 && decide (a.limits.cf ≤ runAfter a n b) then 0 else runAfter a n b },
        a.limits.cf != 0 && decide (a.limits.cf ≤ runAfter a n b)) := rfl
  rw [is, falls, tallied]
  simp only [decide_eq_true_eq]

theorem countUnit_eq (n b : Nat) (r : Report) :
    countUnit n b r = (unitCounted n b r, decide (RunFails r.active n b)) := by
  simp only [countUnit, countSite_eq, unitCounted, Bool.and_eq_true, bne_iff_ne, beq_iff_eq]

theorem entryFate_of_stray (stray : b = 0 ∨ maskHas m n = false) :
    entryFate m n b r = ({ r with stray := true }, none) := if_pos (by simpa using stray)

section
variable (named : 1 ≤ b) (effective : maskHas m n = true)
include named effective

theorem entryFate_of_full (full : 1048575 ≤ (tallyAt r.active n).tested) :
    entryFate m n b r = ({ r with stray := true }, some .countLimit) :=
  (if_neg (by simp [effective]; omega)).trans (if_pos full)

theorem entryFate_of_counted (room : (tallyAt r.active n).tested < 1048575) :
    entryFate m n b r = (unitCounted n b r, if RunFails r.active n b then some .failRun else none) := by
  refine (if_neg (by simp [effective]; omega)).trans ((if_neg (Nat.not_le.2 room)).trans ?_)
  simp only [countUnit_eq, decide_eq_true_eq]

theorem entryFate_of_fails (room : (tallyAt r.active n).tested < 1048575) (fails : RunFails r.active n b) :
    entryFate m n b r = (unitCounted n b r, some .failRun) := by
  rw [entryFate_of_counted named effective room, if_pos fails]

theorem entryFate_of_stays (room : (tallyAt r.active n).tested < 1048575) (stays : ¬RunFails r.active n b) :
    entryFate m n b r = (unitCounted n b r, none) := by
  rw [entryFate_of_counted named effective room, if_neg stays]

end

theorem binAt_of_pos (low : 1 ≤ n) : nth1 0 bins n = bins.getD (n - 1) 0 := if_neg (by omega)

/-- A site that is marked and still in the effective mask (R121). -/
abbrev Marked (c : Cell) (n : Nat) : Prop := maskHas c.mask n = true ∧ markOf c n ≠ .up

section
variable (low : 1 ≤ n)
include low

theorem takeEntry_of_asked {d : SiteStatus} (fate : entryFate s.cell.mask n (bins.getD (n - 1) 0) r = (q, some d)) :
    takeEntry bins (s, r) n = (requestDown n d s, { q with requested := true }) := by
  simp only [takeEntry, binAt_of_pos low, fate, downReason]

theorem takeEntry_of_marked (fate : entryFate s.cell.mask n (bins.getD (n - 1) 0) r = (q, none)) (marked : Marked s.cell n) :
    takeEntry bins (s, r) n = (requestDown n (markOf s.cell n) s, { q with requested := true }) := by
  have asked : downReason s.cell n none = some (markOf s.cell n) := if_pos (by simpa using marked)
  simp only [takeEntry, binAt_of_pos low, fate, asked]

theorem takeEntry_of_unmarked (fate : entryFate s.cell.mask n (bins.getD (n - 1) 0) r = (q, none))
    (unmarked : ¬Marked s.cell n) : takeEntry bins (s, r) n = (s, q) := by
  have silent : downReason s.cell n none = none := if_neg (by simpa using unmarked)
  simp only [takeEntry, binAt_of_pos low, fate, silent]

end

theorem requestDown_eq (d : SiteStatus) : requestDown n d s =
    let u := (if markOf s.cell n = .up then raise (.siteDown n d) s else s).setCell
      { s.cell with marks := s.cell.marks.set (n - 1) d }
    if s.cell.binding.state = .bound then sendTo s.cell.binding.handler (.siteDown n d) u else u := by
  have kept : (if markOf s.cell n = .up then raise (.siteDown n d) s else s).cell = s.cell := by split <;> simp
  simp only [requestDown, kept, modifyAt_eq_set _ SiteStatus.up, State.setCell_cell]

/-! ## The report as a whole (R119, R130, R133) -/

/-- A report before its first entry. -/
def newReport (a : ActiveLot) : Report := { active := a, counted := 0, stray := false, requested := false, excess := none }

/-- The state of the checks: the entries taken, the report's lot in the slot. -/
def reported (w : State) (r : Report) : State := w.setCell { w.cell with active := some r.active }

theorem binReport_of_none (none : s.cell.active = none) : binReport m bins s = (s, .refused .notRunning) := by
  rw [binReport, none]

theorem binReport_of_idle (active : s.cell.active = some a) (idle : a.phase ≠ .inPass) :
    binReport m bins s = (s, .refused .notRunning) := by
  rw [binReport, active]
  exact if_pos idle

/-- The result bytes of a report before those of an automatic pass end (R119). -/
def reportHead (r : Report) (ts : List Trigger) (lot : Nat) (u : State) : List Byte :=
  be1 r.counted.toNat ++ be1 (if r.stray then 1 else 0) ++ beMask (triggerWord ts) ++
    be1 (if ts ≠ [] ∧ keyInForce u.holds .lot lot = false then 1 else 0) ++ be3 r.active.pool

/-- The bytes of an automatic pass end, zeros where none ran (R119, log entry 12). -/
def endBytes (k : Nat) : Option Ending → List Byte
  | some e => be1 (endingCode e) ++ be1 k
  | none => be1 0 ++ be1 0

theorem reportResult_eq (r : Report) (ts : List Trigger) (lot : Nat) (u : State) (e : Option Ending) (k : Nat) :
    reportResult r ts (holdAsked ts lot u) e k = reportHead r ts lot u ++ endBytes k e := by
  have asked : flagCode (holdAsked ts lot u) = if ts ≠ [] ∧ keyInForce u.holds .lot lot = false then 1 else 0 := by
    rw [flagCode_eq, holdAsked]
    simp
  cases e <;> simp only [reportResult, asked, flagCode_eq, reportHead, endBytes]

section
variable (active : s.cell.active = some a) (phase : a.phase = .inPass)
  (taken : (siteNumbers.filter (maskHas m)).foldl (takeEntry bins) (s, newReport a) = (w, r))
  {ts : List Trigger} (checks : reportTriggers r (reported w r).cell = ts)
  (handled : handleTriggers ts a.lot.lotId (reported w r) = v)
include active phase taken checks handled

theorem binReport_of_ended {e : Option Ending} (ends : autoPassEnd a v = (u, e)) : binReport m bins s =
    (u, .done (reportResult r ts (holdAsked ts a.lot.lotId (reported w r)) e (passNow u))) := by
  rw [newReport] at taken
  rw [reported] at checks handled
  rw [binReport, active]
  simp only [if_neg (not_not.2 phase), taken, checks, handled, ends, reported]

theorem binReport_of_open (ends : autoPassEnd a v = (v, none)) : binReport m bins s =
    (v, .done (reportHead r ts a.lot.lotId (reported w r) ++ (be1 0 ++ be1 0))) := by
  rw [binReport_of_ended active phase taken checks handled ends, reportResult_eq, endBytes]

theorem binReport_of_judged {e : Ending} (ends : autoPassEnd a v = (u, some e)) : binReport m bins s =
    (u, .done (reportHead r ts a.lot.lotId (reported w r) ++ (be1 (endingCode e) ++ be1 (passNow u)))) := by
  rw [binReport_of_ended active phase taken checks handled ends, reportResult_eq, endBytes]

end

section
variable (active : v.cell.active = some x)
include active

theorem poolSpent_iff : poolSpent a v = true ↔ x.pass ≠ 1 ∧ x.pool = 0 ∧ 0 < a.pool ∧ lotState v x ≠ .held := by
  rw [poolSpent, active]
  simp [and_assoc]

theorem autoPassEnd_of_open (open_ : x.pass = 1 ∨ x.pool ≠ 0 ∨ a.pool = 0 ∨ lotState v x = .held) :
    autoPassEnd a v = (v, none) := by
  have unspent : ¬poolSpent a v = true := by
    rw [poolSpent_iff active]
    rintro ⟨retest, empty, some_, unheld⟩
    rcases open_ with is | is | is | is
    · exact retest is
    · exact is empty
    · exact absurd is (Nat.ne_of_gt some_)
    · exact unheld is
  rw [autoPassEnd, active]
  exact if_neg unspent

theorem autoPassEnd_of_spent (retest : x.pass ≠ 1) (empty : x.pool = 0) (some_ : 0 < a.pool) (unheld : lotState v x ≠ .held) :
    autoPassEnd a v = ((judgePass x v).1, some (judgePass x v).2) := by
  rw [autoPassEnd, active]
  exact if_pos ((poolSpent_iff active).2 ⟨retest, empty, some_, unheld⟩)

end

/-! ## A report of one site -/

/-- A report that triggers nothing and ends no pass (R119). -/
theorem binReport_of_quiet (active : s.cell.active = some a) (phase : a.phase = .inPass)
    (taken : (siteNumbers.filter (maskHas m)).foldl (takeEntry bins) (s, newReport a) = (s, r))
    (checks : reportTriggers r (reported s r).cell = []) (left : r.active.pass = 1 ∨ r.active.pool ≠ 0) :
    binReport m bins s = (reported s r, .done (be1 r.counted.toNat ++ be1 (if r.stray then 1 else 0) ++ be2 0 ++ be1 0 ++
      be3 r.active.pool ++ (be1 0 ++ be1 0))) :=
  binReport_of_open active phase taken checks rfl
    (autoPassEnd_of_open (x := r.active) rfl (left.imp_right .inl))

theorem tallied_of_off (off : a.limits.cf = 0) : tallied a n b =
    { tested := (tallyAt a n).tested + 1,
      good := (tallyAt a n).good + (if maskHas a.limits.good b then 1 else 0),
      run := if maskHas a.limits.good b then 0 else min ((tallyAt a n).run + 1) 255 } := by
  have stays : ¬RunFails a n b := fun fails => fails.1 off
  simp only [tallied, if_neg stays, runAfter]

/-- The sites after a unit, with no limit on the fail run. -/
theorem tallied_sites_of_off (off : a.limits.cf = 0) (low : 1 ≤ n) :
    modifyAt (fun _ => tallied a n b) (n - 1) a.sites = modifyAt (fun t =>
      { tested := t.tested + 1, good := t.good + (if maskHas a.limits.good b then 1 else 0),
        run := if maskHas a.limits.good b then 0 else min (t.run + 1) 255 }) (n - 1) a.sites := by
  rw [modifyAt_eq_set _ { tested := 0, good := 0, run := 0 }, modifyAt_eq_set _ { tested := 0, good := 0, run := 0 },
    tallied_of_off off, tallyAt_of_pos low]

theorem unitCounted_of_first (first : r.active.pass = 1) : unitCounted n b r =
    { r with
      active := { r.active with
        tested := r.active.tested + 1, bins := modifyAt (· + 1) (b - 1) r.active.bins,
        sites := modifyAt (fun _ => tallied r.active n b) (n - 1) r.active.sites },
      counted := maskAdd r.counted n } := by
  rw [unitCounted, countBin, if_pos first, if_neg fun spent => spent.1 first]

theorem unitCounted_of_pool (retest : r.active.pass ≠ 1) (some_ : 0 < r.active.pool) : unitCounted n b r =
    { r with
      active := { r.active with
        pool := r.active.pool - 1, bins := modifyAt (· + 1) (b - 1) r.active.bins,
        sites := modifyAt (fun _ => tallied r.active n b) (n - 1) r.active.sites },
      counted := maskAdd r.counted n } := by
  rw [unitCounted, countBin, if_neg retest, if_pos some_, if_neg fun spent => Nat.ne_of_gt some_ spent.2]

theorem tested_unitCounted_le (low : 1 ≤ n) (b k : Nat) (r : Report) :
    (tallyAt (unitCounted n b r).active k).tested ≤ (tallyAt r.active k).tested + 1 := by
  by_cases zero : k = 0
  · rw [zero]
    exact Nat.zero_le _
  · have pos : 1 ≤ k := by omega
    rw [tallyAt_of_pos pos, tallyAt_of_pos pos, unitCounted]
    dsimp only
    rw [List.getD_eq_getElem?_getD, List.getD_eq_getElem?_getD, getElem?_modifyAt]
    split
    · next here =>
      have same : k = n := by omega
      subst same
      cases is : r.active.sites[k - 1]? with
      | none => exact Nat.zero_le _
      | some y => simp [tallied, tallyAt_of_pos pos, is]
    · omega

section
variable (takes : PortTakes (.binReport (BitVec.twoPow 8 (n - 1)) bins) s) (low : 1 ≤ n) (high : n ≤ 8)
  (active : s.cell.active = some a) (phase : a.phase = .inPass) (up : markOf s.cell n = .up)
include takes low high active phase up

/-- A report of one unmarked site that triggers nothing and ends no pass. -/
theorem exec_binReport_one (fate : entryFate s.cell.mask n (bins.getD (n - 1) 0) (newReport a) = (r, none))
    (asked : r.requested = false) (excess : r.excess = none) (few : r.active.tested < r.active.limits.nMin)
    (fewer : ∀ k, ¬SiteCounts r.active k) (left : r.active.pass = 1 ∨ r.active.pool ≠ 0) :
    exec (.binReport (BitVec.twoPow 8 (n - 1)) bins) s = .next (settle s (setOutcome
      (.done (be1 r.counted.toNat ++ be1 (if r.stray then 1 else 0) ++ be2 0 ++ be1 0 ++ be3 r.active.pool ++ be1 0 ++ be1 0))
      0x45 (reported s r))) := by
  have unmarked : ¬Marked s.cell n := fun marked => marked.2 up
  have taken : (siteNumbers.filter (maskHas (BitVec.twoPow 8 (n - 1)))).foldl (takeEntry bins) (s, newReport a) = (s, r) := by
    rw [filter_twoPow low high]
    exact takeEntry_of_unmarked low fate unmarked
  have ran := binReport_of_quiet active phase taken (reportTriggers_of_quiet asked excess few fewer) left
  rw [← List.append_assoc] at ran
  exact exec_takes (c := .binReport (BitVec.twoPow 8 (n - 1)) bins) rfl takes ran

variable (bin : bins.getD (n - 1) 0 = b) (few : a.tested + 1 < a.limits.nMin)
  (fewer : ∀ k ∈ siteNumbers, (tallyAt a k).tested + 1 < a.limits.nSite)
include bin few fewer

theorem exec_binReport_stray (stray : b = 0 ∨ maskHas s.cell.mask n = false) (left : a.pass = 1 ∨ 0 < a.pool) :
    exec (.binReport (BitVec.twoPow 8 (n - 1)) bins) s = .next (settle s (setOutcome
      (.done (be1 0 ++ be1 1 ++ be2 0 ++ be1 0 ++ be3 a.pool ++ be1 0 ++ be1 0)) 0x45
      (s.setCell { s.cell with active := some a }))) := by
  refine exec_binReport_one (r := { newReport a with stray := true }) takes low high active phase up
    (entryFate_of_stray (bin ▸ stray)) rfl rfl (Nat.lt_of_succ_lt few) ?_ (left.imp_right Nat.ne_of_gt)
  rintro k ⟨one, eight, enough⟩
  have := fewer k (mem_siteNumbers.2 ⟨one, eight⟩)
  exact absurd enough (by exact Nat.not_le.2 (Nat.lt_of_succ_lt this))

variable (off : a.limits.cf = 0) (named : 1 ≤ b) (effective : maskHas s.cell.mask n = true)
  (room : (tallyAt a n).tested < 1048575)
include off named effective room

theorem exec_binReport_counted (tested : (unitCounted n b (newReport a)).active.tested ≤ a.tested + 1)
    (limits : (unitCounted n b (newReport a)).active.limits = a.limits)
    (excess : (unitCounted n b (newReport a)).excess = none)
    (left : (unitCounted n b (newReport a)).active.pass = 1 ∨ (unitCounted n b (newReport a)).active.pool ≠ 0) :
    exec (.binReport (BitVec.twoPow 8 (n - 1)) bins) s = .next (settle s (setOutcome
      (.done (be1 (2 ^ (n - 1)) ++ be1 0 ++ be2 0 ++ be1 0 ++ be3 (unitCounted n b (newReport a)).active.pool ++ be1 0 ++ be1 0))
      0x45 (reported s (unitCounted n b (newReport a))))) := by
  have stays : ¬RunFails a n b := fun fails => fails.1 off
  have fate : entryFate s.cell.mask n b (newReport a) = (unitCounted n b (newReport a), none) :=
    entryFate_of_stays named effective room stays
  have value : (unitCounted n b (newReport a)).counted.toNat = 2 ^ (n - 1) := by
    have same : (unitCounted n b (newReport a)).counted = BitVec.twoPow 8 (n - 1) := BitVec.zero_or
    rw [same, BitVec.toNat_twoPow_of_lt (by omega)]
  have ran := exec_binReport_one takes low high active phase up (bin ▸ fate) rfl excess
    (by rw [limits]; omega) (fun k is => ?_) left
  · rw [value] at ran
    exact ran
  · obtain ⟨one, eight, enough⟩ := is
    have small := fewer k (mem_siteNumbers.2 ⟨one, eight⟩)
    have grown : (tallyAt (unitCounted n b (newReport a)).active k).tested ≤ (tallyAt a k).tested + 1 :=
      tested_unitCounted_le low b k (newReport a)
    rw [limits] at enough
    omega

end

/-! ## HANDLER-STATUS (R111, R117, R129) -/

theorem cellStatus_of_mine {body : StatusBody} (live : s.isActive = true)
    (mine : s.cell.binding.state = .bound ∨ s.cell.binding.state = .binding) (source : s.cell.binding.handler = n) :
    cellStatus n body s = takeStatus body s := by
  have attached : s.cell.binding.state ≠ .none := by rcases mine with is | is <;> simp [is]
  rw [cellStatus, if_neg (by simp [live]), if_pos ⟨attached, source⟩]
  rcases mine with is | is <;> rw [is]

/-- The cell after a status, with the lot as it then stands (R111, R117). -/
def cellAfterStatus (body : StatusBody) (c : Cell) (x : Option ActiveLot) : Cell :=
  { c with
    ready := body.ready, reached := if body.reachedValid then some body.reached else none,
    mask := body.mask, binding := { c.binding with mask := body.mask },
    marks := clearMarks body.mask c.marks, active := x }

theorem takeStatus_of_none {body : StatusBody} (none : s.cell.active = none) :
    takeStatus body s = s.setCell (cellAfterStatus body s.cell Option.none) := by
  rw [takeStatus, none]
  rfl

/-- The active lot in a pass after a status (R67, R129). -/
def seenReady (ready : Bool) (a : ActiveLot) : ActiveLot :=
  if ready then { a with readySeen := true, jamArmed := true } else a

theorem seeReady_of_inPass {ready : Bool} (phase : a.phase = .inPass) : a.seeReady ready = seenReady ready a := by
  simp [ActiveLot.seeReady, seenReady, phase]

theorem seeReady_of_ended {ready : Bool} (ended : a.phase ≠ .inPass) : a.seeReady ready = a := by
  simp [ActiveLot.seeReady, ended]

theorem seenReady_kept (ready : Bool) (a : ActiveLot) : (seenReady ready a).phase = a.phase ∧
    (seenReady ready a).lot = a.lot ∧ (seenReady ready a).limits = a.limits := by
  cases ready <;> exact ⟨rfl, rfl, rfl⟩

theorem takeStatus_of_active {body : StatusBody} (active : s.cell.active = some a) (see : a.seeReady body.ready = x) :
    takeStatus body s =
      let t := s.setCell (cellAfterStatus body s.cell (some x))
      if x.phase = .inPass then handleTriggers (statusTriggers body x) x.lot.lotId t else t := by
  subst see
  rw [takeStatus, active]
  rfl

theorem takeStatus_of_inPass {body : StatusBody} (active : s.cell.active = some a) (phase : a.phase = .inPass) :
    takeStatus body s = handleTriggers (statusTriggers body (seenReady body.ready a)) a.lot.lotId
      (s.setCell (cellAfterStatus body s.cell (some (seenReady body.ready a)))) := by
  obtain ⟨same, lot, -⟩ := seenReady_kept body.ready a
  rw [takeStatus_of_active active (seeReady_of_inPass phase), lot]
  exact if_pos (same.trans phase)

theorem takeStatus_of_ended {body : StatusBody} (active : s.cell.active = some a) (ended : a.phase ≠ .inPass) :
    takeStatus body s = s.setCell (cellAfterStatus body s.cell (some a)) :=
  (takeStatus_of_active active (seeReady_of_ended ended)).trans (if_neg ended)

/-! ## The obligation -/

/-- Settles O51. -/
theorem unitsAreCountedAndStatusesTaken : Obligations.UnitsAreCountedAndStatusesTaken := by
  refine ⟨?_, ?_, ?_, ?_, ?_, ?_, ?_, ?_, ?_⟩
  · intro n b bins a s takes sizes low high bin active phase few fewer off up counted answer
    refine ⟨exec_binReport_stray takes low high active phase up bin few fewer, fun named effective room first => ?_,
      fun named effective room retest two => ?_⟩
    · have is := unitCounted_of_first (r := newReport a) (n := n) (b := b) first
      have ran := exec_binReport_counted takes low high active phase up bin few fewer off named effective room
        (by rw [is]; exact Nat.le_refl _) (by rw [is]; rfl) (by rw [is]; rfl) (by rw [is]; exact .inl first)
      rw [is, tallied_sites_of_off (by exact off) low] at ran
      exact ran
    · have is := unitCounted_of_pool (r := newReport a) (n := n) (b := b) retest (Nat.lt_of_lt_of_le Nat.zero_lt_two two)
      have ran := exec_binReport_counted takes low high active phase up bin few fewer off named effective room
        (by rw [is]; exact Nat.le_succ _) (by rw [is]; rfl) (by rw [is]; rfl)
        (by rw [is]; exact .inr (Nat.sub_ne_zero_of_lt two))
      rw [is, tallied_sites_of_off (by exact off) low] at ran
      exact ran
  · intro h b s arrives live mine source taken
    have takes {v : State} (is : takeStatus b (heard h s) = v) : exec (.handlerStatus h b) s = .next (settle s v) :=
      exec_handlerStatus (isLive_of_isActive live) arrives ((cellStatus_of_mine (s := heard h s) live mine source).trans is)
    refine ⟨fun none => takes (takeStatus_of_none (s := heard h s) none), fun a active phase some_ off => ?_, fun a active => ?_⟩
    · obtain ⟨-, -, limits⟩ := seenReady_kept b.ready a
      have quiet : statusTriggers b (seenReady b.ready a) = [] :=
        statusTriggers_of_quiet some_ (by rw [limits, off])
      exact takes ((takeStatus_of_inPass (s := heard h s) active phase).trans (by rw [quiet]; rfl))
    · exact ⟨fun phase => takes (takeStatus_of_inPass (s := heard h s) active phase),
        fun ended => takes (takeStatus_of_ended (s := heard h s) active ended)⟩
  · exact fun m bins s takes none => exec_takes (c := .binReport m bins) rfl takes (binReport_of_none none)
  · intro m bins a s takes active
    refine ⟨fun idle => exec_takes (c := .binReport m bins) rfl takes (binReport_of_idle active idle), fun phase => ?_⟩
    intro p u ts v reported x slot
    refine ⟨fun open_ => ?_, fun retest empty some_ unheld => ?_, fun runs => endPass_of_running slot runs rfl rfl⟩
    · exact exec_takes (c := .binReport m bins) rfl takes
        (binReport_of_open active phase rfl rfl rfl (autoPassEnd_of_open slot open_))
    · exact exec_takes (c := .binReport m bins) rfl takes
        (binReport_of_judged active phase rfl rfl rfl (autoPassEnd_of_spent slot retest empty some_ unheld))
  · intro n bins r s low high b a t run down spent more based counted marked gives asks plain
    have plainly {q : Report} (fate : entryFate s.cell.mask n b r = (q, none)) : plain q :=
      ⟨takeEntry_of_marked low fate, takeEntry_of_unmarked low fate⟩
    refine ⟨fun stray => plainly (entryFate_of_stray stray), fun named effective => ?_⟩
    refine ⟨fun full => takeEntry_of_asked low (entryFate_of_full named effective full), fun room fails => ?_,
      fun room stays => plainly ?_⟩
    · exact takeEntry_of_asked low (entryFate_of_fails named effective room fails)
    · exact entryFate_of_stays named effective room stays
  · exact fun n d s _ _ _ => requestDown_eq d
  · intro r c
    exact ⟨reportTriggers_sublist r c, fun d => noSites_mem_iff,
      fun d => siteDelta_mem_iff.trans (by rw [LowestSite, and_assoc]; rfl), fun named d => binLimit_mem_iff named,
      fun d => lowYield_mem_iff, fun d => countExcess_mem_iff⟩
  · intro b a
    refine ⟨statusTriggers_sublist b a, fun d => ?_, fun d => ?_⟩
    · rw [mem_statusTriggers, and_comm]
      simp [Live]
    · rw [mem_statusTriggers, and_comm]
      simp [Live, JamsOver]
  · intro t ts a s active u
    have handled := handleTriggers_eq (t := t) (ts := ts) active
    exact ⟨rfl, fun force => handled.trans (if_pos force),
      fun free => handled.trans (if_neg (by exact ne_true_of_eq_false free))⟩

end Sys2Proof.Machine
end
